-- ==== Sys2Proof/Word.lean ====
section
/-! DEFINITION. The word types of the part. -/

namespace Sys2Proof

/-- A 32-bit word of a Chromus core (04 R100). -/
abbrev Word := BitVec 32

/-- A byte of memory. -/
abbrev Byte := BitVec 8

/-- An accumulator element (05 R141). -/
abbrev Acc := BitVec 72

end Sys2Proof
end

