-- ==== Sys2Proof/Config.lean ====
section
/-! DEFINITION. What the spec leaves to the silicon: constants without a body, so that nothing can be proved of their values. -/

namespace Sys2Proof.Config

/-- Free values (log 1): value `n` of a byte, a word and a truth value that the spec leaves open. -/
opaque freeByte : Nat → Byte
opaque freeWord : Nat → Word
opaque freeBool : Nat → Bool
opaque freeNat : Nat → Nat

/-- The vector register of a VACR word, to which 05 Table 5.1 gives no place beside the accumulator (log 9). -/
opaque vacrReg : Word → Fin 16

/-- The DRBG's output number `n`, byte `i` (11 R341): CTR_DRBG seeded from the entropy source. -/
opaque drbgByte : Nat → Nat → Byte

/-- The Y that KEY.WRITE stores for an abscissa which no point of P-256 has (11 R331 states no result): abscissa, parity asked for. -/
opaque noPointY : List Byte → Bool → List Byte

/-- The coefficient ROM: set `k` (0 to 2), tap `i` (03 R73), and the taps of the fixed stages S2, S3 and SU2. -/
opaque romTap : Nat → Nat → Int
opaque s2Tap : Nat → Int
opaque s3Tap : Nat → Int
opaque su2Tap : Nat → Int

/-- The fused scaling of the die temperature sensor (13 R369): code to 0.01 °C. -/
opaque dieTemp : Nat → Int

/-- The tone map that a receiver's carrier estimates propose (14 R389): LDPC rate code 1 to 4, then 355 bytes of carrier codes. -/
opaque toneMap : Nat → List Byte

/-- The bits of a read-out chain, whose layout no table gives (16 Table 16.8; log 24): RTC count of the freeze, chain, bit. -/
opaque chainBit : Nat → Nat → Nat → Bool

/-- Where a unit's state block or snapshot in MRAM holds what (08 Table 8.3 names the contents and not their places; log 17): a byte by the contents, as numbers, and the offset. -/
opaque blockByte : (contents : List Nat) → (offset : Nat) → Byte

/-- The reference program's interpolator (06 R171): tap `j` of 24 in stored phase `p` (0 to 1024), whose values the spec does not give, and the rounding of the exact sum to a grid value. -/
opaque interpTap : (p j : Nat) → Int
opaque gridRound : Int → Int
/-- Whether a quotient that is not whole is rounded up, where the spec does not say how the program rounds (03 R94; 06 R178, R182, R183). -/
opaque roundUp : (num : Int) → (den : Nat) → Bool

end Sys2Proof.Config
end

