-- ==== Sys2Proof/Syntax.lean ====
section
/-! DEFINITION. The commands of the MZ7128: operand types, then `Instr`, one constructor for each row of the opcode table. -/

namespace Sys2Proof

/-- The two lanes (01 R16). -/
inductive LaneId where
  | ebb
  | flood
  deriving DecidableEq, Repr, Inhabited

/-- The three Chromus cores (01 Table 1.2). -/
inductive CoreId where
  | ebb
  | flood
  | headland
  deriving DecidableEq, Repr, Inhabited

/-- Headland's two worlds (04 R121). -/
inductive World where
  | legal
  | opn
  deriving DecidableEq, Repr, Inhabited

/-- The units in the order of their codes (01 Table 1.1). -/
inductive UnitId where
  | cap | chn | aux | pair | bil | rly | ldg | obj | key | tmp | sit | dpy | clk | hst | pls | tim
  deriving DecidableEq, Repr, Inhabited

/-- The object masters (01 Table 1.4, masters 4 to 7). -/
inductive ObjMaster where
  | hosta
  | hostb
  | site
  | optical
  deriving DecidableEq, Repr, Inhabited

/-- The host ports (17). -/
inductive PortId where
  | hosta
  | hostb
  | optical
  deriving DecidableEq, Repr, Inhabited

/-- The couplings of the site link (14): the phase couplings and the trunk port. -/
inductive Coupling where
  | pl1
  | pl2
  | pl3
  | trk
  deriving DecidableEq, Repr, Inhabited

abbrev Reg := Fin 32
abbrev VReg := Fin 16
abbrev AReg := Fin 4
abbrev Imm5 := Fin 32
abbrev Imm16 := BitVec 16
abbrev Imm21 := BitVec 21
abbrev ChanId := Fin 128
abbrev ClusterId := Fin 8
abbrev PointId := Fin 32
abbrev RelayId := Fin 32
abbrev MonitorId := Fin 10
abbrev PulseId := Fin 8
abbrev BsGroup := Fin 4


/-- The commands: one constructor for each row of the opcode table, in its order (95: each step whole and indivisible). -/
inductive Instr where
  /-- ADD (R112). Register add modulo 2^32. -/
  | add (c : CoreId) (rd : Reg) (rs1 : Reg) (rs2 : Reg)
  /-- SUB (R112). Register subtract modulo 2^32. -/
  | sub (c : CoreId) (rd : Reg) (rs1 : Reg) (rs2 : Reg)
  /-- AND (R112). Bitwise AND of two registers. -/
  | and (c : CoreId) (rd : Reg) (rs1 : Reg) (rs2 : Reg)
  /-- OR (R112). Bitwise OR of two registers. -/
  | or (c : CoreId) (rd : Reg) (rs1 : Reg) (rs2 : Reg)
  /-- XOR (R112). Bitwise XOR of two registers. -/
  | xor (c : CoreId) (rd : Reg) (rs1 : Reg) (rs2 : Reg)
  /-- SLL (R112). Shift left logical by rs2[4:0]. -/
  | sll (c : CoreId) (rd : Reg) (rs1 : Reg) (rs2 : Reg)
  /-- SRL (R112). Shift right logical by rs2[4:0]. -/
  | srl (c : CoreId) (rd : Reg) (rs1 : Reg) (rs2 : Reg)
  /-- SRA (R112). Shift right arithmetic by rs2[4:0]. -/
  | sra (c : CoreId) (rd : Reg) (rs1 : Reg) (rs2 : Reg)
  /-- SLT (R112). Set rd to 1 if rs1 is less than rs2, signed. -/
  | slt (c : CoreId) (rd : Reg) (rs1 : Reg) (rs2 : Reg)
  /-- SLTU (R112). Set rd to 1 if rs1 is less than rs2, unsigned. -/
  | sltu (c : CoreId) (rd : Reg) (rs1 : Reg) (rs2 : Reg)
  /-- ADDS (R112). Signed saturating add. -/
  | adds (c : CoreId) (rd : Reg) (rs1 : Reg) (rs2 : Reg)
  /-- SUBS (R112). Signed saturating subtract. -/
  | subs (c : CoreId) (rd : Reg) (rs1 : Reg) (rs2 : Reg)
  /-- MIN (R112). Signed minimum. -/
  | min (c : CoreId) (rd : Reg) (rs1 : Reg) (rs2 : Reg)
  /-- MAX (R112). Signed maximum. -/
  | max (c : CoreId) (rd : Reg) (rs1 : Reg) (rs2 : Reg)
  /-- MINU (R112). Unsigned minimum. -/
  | minu (c : CoreId) (rd : Reg) (rs1 : Reg) (rs2 : Reg)
  /-- MAXU (R112). Unsigned maximum. -/
  | maxu (c : CoreId) (rd : Reg) (rs1 : Reg) (rs2 : Reg)
  /-- MUL (R112). Low 32 bits of the product. -/
  | mul (c : CoreId) (rd : Reg) (rs1 : Reg) (rs2 : Reg)
  /-- MULH (R112). High 32 bits of the signed 64-bit product. -/
  | mulh (c : CoreId) (rd : Reg) (rs1 : Reg) (rs2 : Reg)
  /-- MULHU (R112). High 32 bits of the unsigned 64-bit product. -/
  | mulhu (c : CoreId) (rd : Reg) (rs1 : Reg) (rs2 : Reg)
  /-- DIV (R113). Signed division rounded toward zero, with defined results for zero and overflow. -/
  | div (c : CoreId) (rd : Reg) (rs1 : Reg) (rs2 : Reg)
  /-- DIVU (R113). Unsigned division with defined result for zero divisor. -/
  | divu (c : CoreId) (rd : Reg) (rs1 : Reg) (rs2 : Reg)
  /-- REM (R113). Signed remainder with the sign of rs1. -/
  | rem (c : CoreId) (rd : Reg) (rs1 : Reg) (rs2 : Reg)
  /-- REMU (R113). Unsigned remainder. -/
  | remu (c : CoreId) (rd : Reg) (rs1 : Reg) (rs2 : Reg)
  /-- CLZ (R112). Count leading zeros of rs1. -/
  | clz (c : CoreId) (rd : Reg) (rs1 : Reg)
  /-- ADDI (R112). Add sign-extended immediate. -/
  | addi (c : CoreId) (rd : Reg) (rs1 : Reg) (imm : Imm16)
  /-- ANDI (R112). Bitwise AND with zero-extended immediate. -/
  | andi (c : CoreId) (rd : Reg) (rs1 : Reg) (imm : Imm16)
  /-- ORI (R112). Bitwise OR with zero-extended immediate. -/
  | ori (c : CoreId) (rd : Reg) (rs1 : Reg) (imm : Imm16)
  /-- XORI (R112). Bitwise XOR with zero-extended immediate. -/
  | xori (c : CoreId) (rd : Reg) (rs1 : Reg) (imm : Imm16)
  /-- SLTI (R112). Signed compare with sign-extended immediate. -/
  | slti (c : CoreId) (rd : Reg) (rs1 : Reg) (imm : Imm16)
  /-- SLTIU (R112). Unsigned compare with sign-extended immediate. -/
  | sltiu (c : CoreId) (rd : Reg) (rs1 : Reg) (imm : Imm16)
  /-- SLLI (R112). Shift left by immediate amount. -/
  | slli (c : CoreId) (rd : Reg) (rs1 : Reg) (sh : Imm5)
  /-- SRLI (R112). Shift right logical by immediate amount. -/
  | srli (c : CoreId) (rd : Reg) (rs1 : Reg) (sh : Imm5)
  /-- SRAI (R112). Shift right arithmetic by immediate amount. -/
  | srai (c : CoreId) (rd : Reg) (rs1 : Reg) (sh : Imm5)
  /-- LUI (R112). Load immediate into the upper 16 bits. -/
  | lui (c : CoreId) (rd : Reg) (imm : Imm16)
  /-- LB (R112). Load a sign-extended byte. -/
  | lb (c : CoreId) (rd : Reg) (rs1 : Reg) (imm : Imm16)
  /-- LBU (R112). Load a zero-extended byte. -/
  | lbu (c : CoreId) (rd : Reg) (rs1 : Reg) (imm : Imm16)
  /-- LH (R112). Load a sign-extended halfword. -/
  | lh (c : CoreId) (rd : Reg) (rs1 : Reg) (imm : Imm16)
  /-- LHU (R112). Load a zero-extended halfword. -/
  | lhu (c : CoreId) (rd : Reg) (rs1 : Reg) (imm : Imm16)
  /-- LW (R112). Load a word. -/
  | lw (c : CoreId) (rd : Reg) (rs1 : Reg) (imm : Imm16)
  /-- SB (R112). Store the low byte of rs2. -/
  | sb (c : CoreId) (rs2 : Reg) (rs1 : Reg) (imm : Imm16)
  /-- SH (R112). Store the low halfword of rs2. -/
  | sh (c : CoreId) (rs2 : Reg) (rs1 : Reg) (imm : Imm16)
  /-- SW (R112). Store a word. -/
  | sw (c : CoreId) (rs2 : Reg) (rs1 : Reg) (imm : Imm16)
  /-- BEQ (R112). Branch if equal. -/
  | beq (c : CoreId) (rs1 : Reg) (rs2 : Reg) (off : Imm16)
  /-- BNE (R112). Branch if not equal. -/
  | bne (c : CoreId) (rs1 : Reg) (rs2 : Reg) (off : Imm16)
  /-- BLT (R112). Branch if less, signed. -/
  | blt (c : CoreId) (rs1 : Reg) (rs2 : Reg) (off : Imm16)
  /-- BGE (R112). Branch if greater or equal, signed. -/
  | bge (c : CoreId) (rs1 : Reg) (rs2 : Reg) (off : Imm16)
  /-- BLTU (R112). Branch if less, unsigned. -/
  | bltu (c : CoreId) (rs1 : Reg) (rs2 : Reg) (off : Imm16)
  /-- BGEU (R112). Branch if greater or equal, unsigned. -/
  | bgeu (c : CoreId) (rs1 : Reg) (rs2 : Reg) (off : Imm16)
  /-- JAL (R112). Jump with link to pc plus 4 times off21. -/
  | jal (c : CoreId) (rd : Reg) (off : Imm21)
  /-- JALR (R112). Jump to register plus offset with link. -/
  | jalr (c : CoreId) (rd : Reg) (rs1 : Reg) (imm : Imm16)
  /-- MFS (R102). Read a core state word into rd. -/
  | mfs (c : CoreId) (rd : Reg) (idx : Imm5)
  /-- MTS (R102). Write a core state word that has no behaviour of its own. -/
  | mts (c : CoreId) (rs : Reg) (idx : Imm5)
  /-- OPEN_RESTART (R126). Write of OPEN_CTL.RESTART restarts the OPEN world and reloads its image. -/
  | openRestart (c : CoreId) (rs : Reg)
  /-- OPEN_RUN (R126). Write of OPEN_CTL.RUN lets the OPEN world execute or stops it at an instruction boundary. -/
  | openRun (c : CoreId) (rs : Reg)
  /-- WDOG_RELOAD (R103). Write of WDOG reloads or stops a world watchdog. -/
  | wdogReload (c : CoreId) (rs : Reg)
  /-- EVPEND_CLEAR (R122). Write of 1 bits to EVPEND clears pending events. -/
  | evpendClear (c : CoreId) (rs : Reg)
  /-- ERET (R118). Return from a Headland exception handler to EPC. -/
  | eret (c : CoreId)
  /-- FENCE (R108). Wait until earlier MRAM stores are persistent. -/
  | fence (c : CoreId)
  /-- WFE (R122). Return pending enabled events or start waiting for one. -/
  | wfe (c : CoreId)
  /-- WFE_WAKE (R122). A waiting WFE completes when an enabled event becomes pending. -/
  | wfeWake (w : World)
  /-- TRAP (R116). Raise the TRAP exception with the index as detail. -/
  | trap (c : CoreId) (idx : Imm5)
  /-- GATE (R125). OPEN world calls a gate entry; arguments go to the mailbox and the OPEN world stalls. -/
  | gate (c : CoreId) (idx : Imm5) (agree : Bool)
  /-- RETG (R125). LEGAL world returns a gate call and resumes the OPEN world. -/
  | retg (c : CoreId)
  /-- SLOTS (R128). Lane reference program runs the due extension slots and reports done and aborted. -/
  | slots (c : CoreId)
  /-- SLOTEND (R128). Extension slot ends its run normally. -/
  | slotend (c : CoreId)
  /-- SLOT_TIME (R128). An extension slot exhausts its budget and its run aborts. -/
  | slotTime (l : LaneId)
  /-- LEGAL_WATCHDOG_EXPIRY (R119). The LEGAL watchdog expires and Headland restarts. -/
  | legalWatchdogExpiry
  /-- OPEN_WATCHDOG_EXPIRY (R119). The OPEN watchdog expires and the OPEN world restarts. -/
  | openWatchdogExpiry
  /-- WORLD_SWITCH (R121). A LEGAL event becomes pending while OPEN executes and Headland switches worlds. -/
  | worldSwitch
  /-- VADD (R143). Element-wise add modulo 2^32. -/
  | vadd (c : CoreId) (vd : VReg) (vs1 : VReg) (vs2 : VReg)
  /-- VSUB (R143). Element-wise subtract modulo 2^32. -/
  | vsub (c : CoreId) (vd : VReg) (vs1 : VReg) (vs2 : VReg)
  /-- VADDS (R143). Element-wise saturating add. -/
  | vadds (c : CoreId) (vd : VReg) (vs1 : VReg) (vs2 : VReg)
  /-- VSUBS (R143). Element-wise saturating subtract. -/
  | vsubs (c : CoreId) (vd : VReg) (vs1 : VReg) (vs2 : VReg)
  /-- VMUL (R143). Element-wise low product. -/
  | vmul (c : CoreId) (vd : VReg) (vs1 : VReg) (vs2 : VReg)
  /-- VMULQ (R143). Element-wise Q1.31 rounded product. -/
  | vmulq (c : CoreId) (vd : VReg) (vs1 : VReg) (vs2 : VReg)
  /-- VMIN (R143). Element-wise signed minimum. -/
  | vmin (c : CoreId) (vd : VReg) (vs1 : VReg) (vs2 : VReg)
  /-- VMAX (R143). Element-wise signed maximum. -/
  | vmax (c : CoreId) (vd : VReg) (vs1 : VReg) (vs2 : VReg)
  /-- VAND (R143). Element-wise AND. -/
  | vand (c : CoreId) (vd : VReg) (vs1 : VReg) (vs2 : VReg)
  /-- VOR (R143). Element-wise OR. -/
  | vor (c : CoreId) (vd : VReg) (vs1 : VReg) (vs2 : VReg)
  /-- VXOR (R143). Element-wise XOR. -/
  | vxor (c : CoreId) (vd : VReg) (vs1 : VReg) (vs2 : VReg)
  /-- VSRA (R143). Element-wise arithmetic right shift by imm5. -/
  | vsra (c : CoreId) (vd : VReg) (vs1 : VReg) (imm : Imm5)
  /-- VSLL (R143). Element-wise left shift by imm5. -/
  | vsll (c : CoreId) (vd : VReg) (vs1 : VReg) (imm : Imm5)
  /-- VABS (R143). Element-wise saturating absolute value. -/
  | vabs (c : CoreId) (vd : VReg) (vs1 : VReg)
  /-- VCLT (R143). Compare elements and write a mask to g. -/
  | vclt (c : CoreId) (g : Reg) (vs1 : VReg) (vs2 : VReg)
  /-- VSEL (R143). Select elements by mask in g. -/
  | vsel (c : CoreId) (vd : VReg) (vs1 : VReg) (vs2 : VReg) (g : Reg)
  /-- VMAC (R143). Multiply-accumulate into an accumulator. -/
  | vmac (c : CoreId) (a : AReg) (vs1 : VReg) (vs2 : VReg)
  /-- VMSB (R143). Multiply-subtract from an accumulator. -/
  | vmsb (c : CoreId) (a : AReg) (vs1 : VReg) (vs2 : VReg)
  /-- VMACS (R143). Multiply by a scalar and accumulate. -/
  | vmacs (c : CoreId) (a : AReg) (vs1 : VReg) (g : Reg)
  /-- VDOT (R143). Dot product into accumulator element 0. -/
  | vdot (c : CoreId) (a : AReg) (vs1 : VReg) (vs2 : VReg)
  /-- ACLR (R143). Clear an accumulator. -/
  | aclr (c : CoreId) (a : AReg)
  /-- ALD (R143). Load an accumulator from a vector shifted left. -/
  | ald (c : CoreId) (a : AReg) (vs1 : VReg) (imm : Imm5)
  /-- VACR (R143). Round, shift and saturate an accumulator into a vector with a mask. -/
  | vacr (c : CoreId) (vd : VReg) (a : AReg) (g : Reg) (imm : Imm5)
  /-- VBC (R143). Broadcast a scalar to all elements. -/
  | vbc (c : CoreId) (vd : VReg) (g : Reg)
  /-- VEXT (R143). Extract one element to a scalar. -/
  | vext (c : CoreId) (g : Reg) (vs1 : VReg) (imm : Imm5)
  /-- VINS (R143). Insert a scalar into one element. -/
  | vins (c : CoreId) (vd : VReg) (g : Reg) (imm : Imm5)
  /-- VROT (R143). Rotate elements. -/
  | vrot (c : CoreId) (vd : VReg) (vs1 : VReg) (imm : Imm5)
  /-- VMOV (R143). Copy a vector register. -/
  | vmov (c : CoreId) (vd : VReg) (vs1 : VReg)
  /-- VLD (R145). Load 32 bytes into a vector register. -/
  | vld (c : CoreId) (v : VReg) (rs1 : Reg) (imm : Imm16)
  /-- VST (R145). Store a vector register as 32 bytes. -/
  | vst (c : CoreId) (v : VReg) (rs1 : Reg) (imm : Imm16)
  /-- STR_PEEK (R147). Report the kind of the next stream item and the count ahead. -/
  | strPeek (c : CoreId) (rd : Reg) (rs1 : Reg)
  /-- STR_POP (R147). Copy the next stream item and move the read position past it. -/
  | strPop (c : CoreId) (rd : Reg) (rs1 : Reg) (rs2 : Reg)
  /-- STR_READ (R147). Copy the next stream item without moving the position. -/
  | strRead (c : CoreId) (rd : Reg) (rs1 : Reg) (rs2 : Reg)
  /-- STR_SEEK (R147). Set the read position to a block by BSEQ. -/
  | strSeek (c : CoreId) (rd : Reg) (rs1 : Reg) (rs2 : Reg)
  /-- STR_TELL (R147). Return the BSEQ of the next block. -/
  | strTell (c : CoreId) (rd : Reg) (rs1 : Reg)
  /-- STR_WAIT (R147). Stall until a stream item is readable or a MODTICK deadline passes. -/
  | strWait (c : CoreId) (rs1 : Reg) (rs2 : Reg)
  /-- STR_WAIT_WAKE (R147). A stalled STR.WAIT completes on a readable item or the deadline. -/
  | strWaitWake (l : LaneId)
  /-- STR_EPOCH (R147). Copy the retained epoch item of a stream. -/
  | strEpoch (c : CoreId) (rd : Reg) (rs1 : Reg) (rs2 : Reg)
  /-- FRM_EMIT (R150). Send a result frame with CRC to PAIR, stalling while the buffer is full. -/
  | frmEmit (c : CoreId) (rd : Reg) (rs1 : Reg)
  /-- FRM_EMIT_UNSTALL (R150). A stalled FRM.EMIT completes once the PAIR input buffer has room. -/
  | frmEmitUnstall (l : LaneId)
  /-- FRM_XEMIT (R150). Send an extension frame to the lane's extension buffer or drop it. -/
  | frmXemit (c : CoreId) (rd : Reg) (rs1 : Reg)
  /-- FRM_CKPT (R201). Mark the state segment consistent; the lane's pass mark. -/
  | frmCkpt (c : CoreId)
  /-- CAP_READ (R162). Read the capability descriptor. -/
  | capRead (c : CoreId) (rs : Reg)
  /-- CHN_CFGIN (R42). Write a channel input word. -/
  | chnCfgin (c : CoreId) (rs : Reg)
  /-- CHN_CFGCH (R78). Write chain configuration words, attaching or detaching SURGE. -/
  | chnCfgch (c : CoreId) (rs : Reg)
  /-- CHN_RDST (R163). Read a channel's input, configuration and status words. -/
  | chnRdst (c : CoreId) (rs : Reg)
  /-- CHN_LDCOEF (R80). Load a channel's coefficient bank from memory or ROM. -/
  | chnLdcoef (c : CoreId) (rs : Reg)
  /-- CHN_STOP (R81). Stop a channel's chain in SERVICE mode. -/
  | chnStop (c : CoreId) (rs : Reg)
  /-- CHN_START (R82). Start a stopped chain and return its origin and phase. -/
  | chnStart (c : CoreId) (rs : Reg)
  /-- CHN_RELIEF_QUERY (R62). Return a cluster's relief slot index, phase and wait. -/
  | chnReliefQuery (c : CoreId) (rs : Reg)
  /-- CHN_RELIEF_PAUSE (R62). Pause a cluster's relief rotation in SERVICE mode. -/
  | chnReliefPause (c : CoreId) (rs : Reg)
  /-- CHN_RELIEF_RESUME (R62). Resume a cluster's relief rotation in SERVICE mode. -/
  | chnReliefResume (c : CoreId) (rs : Reg)
  /-- CHN_CLRO (R65). Clear OVR, BSI_STUCK and stage saturation flags of a channel. -/
  | chnClro (c : CoreId) (rs : Reg)
  /-- AUX_SEQ (R368). Write the AUX regular sequence. -/
  | auxSeq (c : CoreId) (rs : Reg)
  /-- AUX_INJ (R370). Queue an injected conversion into a pair. -/
  | auxInj (c : CoreId) (rs : Reg)
  /-- AUX_ACC (R375). Read and clear an accumulator. -/
  | auxAcc (c : CoreId) (rs : Reg)
  /-- AUX_TRK (R375). Read and reset a min/max tracker. -/
  | auxTrk (c : CoreId) (rs : Reg)
  /-- AUX_WIN (R374). Set a pair's input, window and qualification. -/
  | auxWin (c : CoreId) (rs : Reg)
  /-- AUX_CAL (R372). Request an AUX self-calibration. -/
  | auxCal (c : CoreId) (rs : Reg)
  /-- AUX_RDST (R382). Read the AUX status. -/
  | auxRdst (c : CoreId) (rs : Reg)
  /-- PAIR_RDST (R226). Read lane roles, states and pairing counts. -/
  | pairRdst (c : CoreId) (rs : Reg)
  /-- PAIR_CNT (R226). Read a lane's ended and aborted slot-run counts. -/
  | pairCnt (c : CoreId) (rs : Reg)
  /-- PAIR_CLR (R226). Clear pairing or slot counts. -/
  | pairClr (c : CoreId) (rs : Reg)
  /-- PAIR_LANE (R227). Restart a named lane with cause MANUAL. -/
  | pairLane (c : CoreId) (rs : Reg)
  /-- BIL_MPCFG (R167). Define, change or delete a metering point. -/
  | bilMpcfg (c : CoreId) (rs : Reg)
  /-- BIL_RDREG (R262). Read a register set of a metering point. -/
  | bilRdreg (c : CoreId) (rs : Reg)
  /-- BIL_SESS_OPEN (R253). Open a session of a point and debit the fee. -/
  | bilSessOpen (c : CoreId) (rs : Reg)
  /-- BIL_SESS_CLOSE (R253). Close a session at the acceptance instant. -/
  | bilSessClose (c : CoreId) (rs : Reg)
  /-- BIL_TARW (R247). Write a block of the shadow tariff bank. -/
  | bilTarw (c : CoreId) (rs : Reg)
  /-- BIL_TSWAP (R247). Request a tariff bank swap at the next minute boundary. -/
  | bilTswap (c : CoreId) (rs : Reg)
  /-- BIL_CREDIT_ADD (R266). Add a signed amount to the credit register. -/
  | bilCreditAdd (c : CoreId) (rs : Reg)
  /-- BIL_CREDIT_SET (R266). Set a credit threshold, reserve or PREPAY. -/
  | bilCreditSet (c : CoreId) (rs : Reg)
  /-- BIL_CREDIT_READ (R266). Read a credit field. -/
  | bilCreditRead (c : CoreId) (rs : Reg)
  /-- BIL_DEMCFG (R248). Configure a demand engine for the next minute boundary. -/
  | bilDemcfg (c : CoreId) (rs : Reg)
  /-- BIL_RDST (R262). Read billing engine status. -/
  | bilRdst (c : CoreId) (rs : Reg)
  /-- RLY_CFG (R270). Configure grace, pilot and contactor times of a relay. -/
  | rlyCfg (c : CoreId) (rs : Reg)
  /-- RLY_CFG_CLRFLT (R270). Clear a relay's fault and return it to OPEN. -/
  | rlyCfgClrflt (c : CoreId) (rs : Reg)
  /-- RLY_CLOSE (R274). Twice-taken close decision and arming of the close. -/
  | rlyClose (c : CoreId) (rs : Reg) (agree : Bool)
  /-- RLY_OPEN (R277). Start an open with trigger COMMAND. -/
  | rlyOpen (c : CoreId) (rs : Reg)
  /-- RLY_GRANT (R282). Grant or withhold close permission and return the holds. -/
  | rlyGrant (c : CoreId) (rs : Reg)
  /-- RLY_RDST (R284). Read relay status and close count. -/
  | rlyRdst (c : CoreId) (rs : Reg)
  /-- LDG_APPEND (R302). Append a METRO_EVENT or CONFIG_SEAL record. -/
  | ldgAppend (c : CoreId) (rs : Reg)
  /-- LDG_READ (R302). Read a ledger record by index. -/
  | ldgRead (c : CoreId) (rs : Reg)
  /-- LDG_FLASH (R295). Set the flash geometry and identity. -/
  | ldgFlash (c : CoreId) (rs : Reg)
  /-- LDG_RDST (R302). Read ledger status. -/
  | ldgRdst (c : CoreId) (rs : Reg)
  /-- OBJ_TAKE (R311). Take the next queued object write or execute. -/
  | objTake (c : CoreId) (rs : Reg)
  /-- OBJ_REPLY (R311). Answer a taken object request. -/
  | objReply (c : CoreId) (rs : Reg)
  /-- OBJ_ACL (R308). Load the access table. -/
  | objAcl (c : CoreId) (rs : Reg)
  /-- OBJ_RDST (R312). Read object gate status. -/
  | objRdst (c : CoreId) (rs : Reg)
  /-- KEY_SIGN (R330). ECDSA P-256 signature with a cached key. -/
  | keySign (c : CoreId) (rs : Reg)
  /-- KEY_VERIFY (R330). ECDSA P-256 verification. -/
  | keyVerify (c : CoreId) (rs : Reg)
  /-- KEY_MAC (R330). HMAC-SHA-256 with a cached key. -/
  | keyMac (c : CoreId) (rs : Reg)
  /-- KEY_GCM_ENCRYPT (R342). AES-256-GCM encryption. -/
  | keyGcmEncrypt (c : CoreId) (rs : Reg)
  /-- KEY_GCM_DECRYPT (R342). AES-256-GCM decryption with tag check. -/
  | keyGcmDecrypt (c : CoreId) (rs : Reg)
  /-- KEY_DERIVE (R333). Derive a child key into a slot. -/
  | keyDerive (c : CoreId) (rs : Reg)
  /-- KEY_WRAP (R328). Export a slot as a blob. -/
  | keyWrap (c : CoreId) (rs : Reg)
  /-- KEY_UNWRAP (R329). Load a blob into a slot. -/
  | keyUnwrap (c : CoreId) (rs : Reg)
  /-- KEY_WRITE (R331). Write a key in clear as a pending update. -/
  | keyWrite (c : CoreId) (rs : Reg)
  /-- KEY_COMMIT (R331). Commit a pending key update by a single-word write. -/
  | keyCommit (c : CoreId) (rs : Reg)
  /-- KEY_INVAL (R334). Invalidate a key and purge its descendants. -/
  | keyInval (c : CoreId) (rs : Reg)
  /-- KEY_LIFE (R319). Twice-taken lifecycle move from a verified token. -/
  | keyLife (c : CoreId) (rs : Reg) (agree : Bool)
  /-- KEY_ATTEST (R339). Build and sign an attestation statement. -/
  | keyAttest (c : CoreId) (rs : Reg)
  /-- KEY_RAND (R341). Return two words from the DRBG. -/
  | keyRand (c : CoreId) (rs : Reg)
  /-- KEY_MASK (R330). Set the re-mask period. -/
  | keyMask (c : CoreId) (rs : Reg)
  /-- KEY_RDST (R342). Read key store status. -/
  | keyRdst (c : CoreId) (rs : Reg)
  /-- KEY_ERASE (R336). Twice-taken ERASE requested by the Legal image. -/
  | keyErase (c : CoreId) (rs : Reg) (agree : Bool)
  /-- TMP_CFG (R353). Write a monitor's configuration and limits. -/
  | tmpCfg (c : CoreId) (rs : Reg)
  /-- TMP_RDST (R364). Read a monitor's status. -/
  | tmpRdst (c : CoreId) (rs : Reg)
  /-- TMP_LOGRD (R364). Read a Strandline entry. -/
  | tmpLogrd (c : CoreId) (rs : Reg)
  /-- TMP_ACK (R352). Acknowledge a LATCHED monitor and write an ACK entry. -/
  | tmpAck (c : CoreId) (rs : Reg)
  /-- SIT_CFG (R412). Write the site-link node configuration. -/
  | sitCfg (c : CoreId) (rs : Reg)
  /-- SIT_CFG_JOIN (R393). SIT.CFG with JOIN set starts listening and joining. -/
  | sitCfgJoin (c : CoreId) (rs : Reg)
  /-- SIT_CFG_LEAVE (R393). SIT.CFG with LEAVE set leaves the network. -/
  | sitCfgLeave (c : CoreId) (rs : Reg)
  /-- SIT_SEND (R405). Queue a LEGAL, OPEN or OBJECT frame for sending. -/
  | sitSend (c : CoreId) (rs : Reg)
  /-- SIT_RECV (R406). Take a received frame from a queue. -/
  | sitRecv (c : CoreId) (rs : Reg)
  /-- SIT_TMAP (R388). Write a segment of the shadow tone mask. -/
  | sitTmap (c : CoreId) (rs : Reg)
  /-- SIT_TSWAP (R388). Request a tone mask swap at the next transmitted frame. -/
  | sitTswap (c : CoreId) (rs : Reg)
  /-- SIT_NBR (R409). Read a neighbour's phase entry. -/
  | sitNbr (c : CoreId) (rs : Reg)
  /-- SIT_RDST (R412). Read site-link status. -/
  | sitRdst (c : CoreId) (rs : Reg)
  /-- DPY_CFG (R425). Write the panel configuration. -/
  | dpyCfg (c : CoreId) (rs : Reg)
  /-- DPY_UPD (R426). Queue a region update, possibly superseding older entries. -/
  | dpyUpd (c : CoreId) (rs : Reg)
  /-- DPY_GAMMA (R418). Write a shadow gamma segment. -/
  | dpyGamma (c : CoreId) (rs : Reg)
  /-- DPY_GSWAP (R418). Request a gamma table swap at the next frame start. -/
  | dpyGswap (c : CoreId) (rs : Reg)
  /-- DPY_BLINK (R421). Set a blink group. -/
  | dpyBlink (c : CoreId) (rs : Reg)
  /-- DPY_LOCK (R423). Set the LEGAL region. -/
  | dpyLock (c : CoreId) (rs : Reg)
  /-- DPY_RDST (R433). Read display status. -/
  | dpyRdst (c : CoreId) (rs : Reg)
  /-- CLK_MODE_RUN (R441). Request the transition to RUN. -/
  | clkModeRun (c : CoreId) (rs : Reg)
  /-- CLK_MODE_REDUCED (R441). Request the transition to REDUCED at the next MEAN batch boundary. -/
  | clkModeReduced (c : CoreId) (rs : Reg)
  /-- CLK_MODE_SERVICE (R441). Request the transition to SERVICE. -/
  | clkModeService (c : CoreId) (rs : Reg)
  /-- CLK_SLACK (R449). Twice-taken SLACK freeze request with a duration. -/
  | clkSlack (c : CoreId) (rs : Reg) (agree : Bool)
  /-- CLK_RDST (R453). Read clock and mode status. -/
  | clkRdst (c : CoreId) (rs : Reg)
  /-- CLK_DBG (R453). Open the IEEE 1149.1 port and switch to the test root. -/
  | clkDbg (c : CoreId) (rs : Reg)
  /-- HST_SEND (R478). Queue a message or event to a host port. -/
  | hstSend (c : CoreId) (rs : Reg)
  /-- HST_RECV (R478). Take a host message. -/
  | hstRecv (c : CoreId) (rs : Reg)
  /-- HST_RDST (R478). Read host port status. -/
  | hstRdst (c : CoreId) (rs : Reg)
  /-- PLS_CFG (R471). Set a pulse output's source and meter constant. -/
  | plsCfg (c : CoreId) (rs : Reg)
  /-- PLS_CFG_RUN (R473). Start a calibration run of COUNT pulses. -/
  | plsCfgRun (c : CoreId) (rs : Reg)
  /-- PLS_CFG_ABORT (R473). End a calibration run. -/
  | plsCfgAbort (c : CoreId) (rs : Reg)
  /-- PLS_RDST (R471). Read pulse counts and flags. -/
  | plsRdst (c : CoreId) (rs : Reg)
  /-- TIM_READ (R235). Read billing time, RTC and discipline state. -/
  | timRead (c : CoreId) (rs : Reg)
  /-- TIM_SET_ABSOLUTE (R233). Set billing time to an absolute value for a role. -/
  | timSetAbsolute (c : CoreId) (rs : Reg)
  /-- TIM_SET_ADJUST (R233). Adjust billing time by a signed delta for a role. -/
  | timSetAdjust (c : CoreId) (rs : Reg)
  /-- TIM_DISC (R231). Select the discipline source. -/
  | timDisc (c : CoreId) (rs : Reg)
  /-- TIM_LEDGE (R448). Read the current or found Ledge latches. -/
  | timLedge (c : CoreId) (rs : Reg)
  /-- POSTED_OPERATION_COMPLETE (R156). A posted unit operation completes, writes results and DONE, and raises the unit event. -/
  | postedOperationComplete (u : UnitId) (w : World)
  /-- POWER_ON (R443). Supplies rise above reset thresholds and STARTUP begins. -/
  | powerOn (viosel : Bool)
  /-- REF_STABLE (R443). The REF oscillator becomes stable and AUX self-calibrates. -/
  | refStable
  /-- PLL_LOCK_STARTUP (R69). PLL locks at t0; MODTICK starts and the front end, boot sequencer and key derivation begin. -/
  | pllLockStartup
  /-- CLUSTER_START (R69). A cluster's modulators are powered at their staggered instant. -/
  | clusterStart (k : ClusterId)
  /-- TMP_STARTUP_CHECK_DONE (R355). The full detector check of the blind interval completes. -/
  | tmpStartupCheckDone (asserted : List (Nat × Nat))
  /-- LANE_RELEASE (R134). Both lanes are released in the same MOD cycle after loading and the tamper check. -/
  | laneRelease (agree : BitVec 5)
  /-- LEGAL_WORLD_RELEASE (R134). The Legal image is loaded and the LEGAL world released. -/
  | legalWorldRelease (agree : Bool)
  /-- OPEN_IMAGE_LOADED (R134). The OPEN image is loaded and LOADED is set. -/
  | openImageLoaded (agree : Bool)
  /-- POWER_FAIL_WARNING (R445). VIO below VPF for 2 us starts the power-fail sequence. -/
  | powerFailWarning
  /-- SUPPLY_LOSS (R441). Supplies fall below reset thresholds and the part enters BACKUP. -/
  | supplyLoss
  /-- SUPPLY_RETURN (R446). VIO returns above VPF for 10 ms after a warning and STARTUP begins. -/
  | supplyReturn
  /-- PLL_LOSS (R437). Loss of lock switches PLL domains to REF-derived clocks. -/
  | pllLoss (cause : Nat)
  /-- PLL_RELOCK (R438). Lock held 1 ms; domains switch back to the PLL. -/
  | pllRelock
  /-- RELOCK_HOLDOFF_END (R438). The 60 s relock holdoff after eight losses ends. -/
  | relockHoldoffEnd
  /-- REF_LOSS (R439). No REF edge for 1 us starts the power-fail sequence with REFLOSS. -/
  | refLoss
  /-- REF_RESTORED (R439). REF runs stably for 2 ms and STARTUP begins. -/
  | refRestored
  /-- REDUCED_ENTRY (R442). The mode enters REDUCED at a MEAN batch boundary and non-REDMASK chains end. -/
  | reducedEntry
  /-- SLACK_N_FALL (R449). SLACK_N low for 1 us requests a twice-taken freeze. -/
  | slackNFall (agree : Bool)
  /-- SLACK_N_RISE (R450). SLACK_N rises and releases a pin freeze. -/
  | slackNRise
  /-- SLACK_DURATION_END (R450). The duration of a CLK.SLACK freeze ends and the freeze is released. -/
  | slackDurationEnd
  /-- RELIEF_SLOT_START (R51). A relief slot starts and the relief modulator self-calibrates. -/
  | reliefSlotStart (k : ClusterId) (zero : Int) (levels : Int × Int) (refb : Int)
  /-- RELIEF_CONNECT (R51). At 200 ms SPk commits its trim and connects to the channel pins. -/
  | reliefConnect (k : ClusterId)
  /-- RELIEF_TAKE_OVER (R51). Take-over comparison ends; the channel moves to SPk or the slot is abandoned. -/
  | reliefTakeOver (k : ClusterId) (loud : Bool) (dGain : Int) (dOff : Int)
  /-- RELIEF_TAKEOVER_TIMEOUT (R53). A take-over not passed within 1 s abandons the slot with reason HELD. -/
  | reliefTakeoverTimeout (k : ClusterId)
  /-- RELIEF_MJ_RECONNECT (R51). Mj's calibration ends and Mj is reconnected with its old trim. -/
  | reliefMjReconnect (k : ClusterId) (zero : Int) (levels : Int × Int) (refb : Int)
  /-- RELIEF_TRIM_APPLY (R51). After the return comparison Mj's new trim is applied. -/
  | reliefTrimApply (k : ClusterId) (loud : Bool) (dGain : Int)
  /-- RELIEF_HANDBACK (R51). Verification passes and the channel returns to Mj; the trim record is committed. -/
  | reliefHandback (k : ClusterId) (loud : Bool) (dGain : Int) (dOff : Int)
  /-- RELIEF_SLOT_END (R50). A 2 s slot ends and the next slot of the cluster follows. -/
  | reliefSlotEnd (k : ClusterId)
  /-- RELIEF_WAIT_60S (R53). A slot waiting 60 s in return or verification records RELIEF_ABORT HELD. -/
  | reliefWait60s (k : ClusterId)
  /-- OVERLOAD_START (R63). A channel's input passes the overload limit; samples saturate and tag OVR. -/
  | overloadStart (ch : ChanId) (pos : Bool)
  /-- OVERLOAD_END (R64). The input returns within the limit and the integrator is clamped. -/
  | overloadEnd (ch : ChanId)
  /-- INTEGRATOR_CLAMP_RELEASE (R64). The 4 us integrator clamp is released. -/
  | integratorClampRelease (ch : ChanId)
  /-- CLUSTER_DISTURBANCE_END (R64). 20 us after overload end the cluster disturbance interval ends. -/
  | clusterDisturbanceEnd (k : ClusterId)
  /-- BSI_STUCK (R49). 64 BSCLK periods without a level change declare a BSI channel stuck. -/
  | bsiStuck (ch : ChanId) (pos : Bool)
  /-- CHAIN_SAMPLE_OUTPUT (R87). A chain writes a sample and completes a block into its ring. -/
  | chainSampleOutput (ch : ChanId) (surge : Bool) (bits : List Bool × List Bool)
  /-- RING_RELEASE (R88). An ended chain's ring is released after the retained depth. -/
  | ringRelease (ch : ChanId)
  /-- ZERO_CROSSING (R93). The fast path detects an armed crossing and sends an event to RLY and the lanes. -/
  | zeroCrossing (ch : ChanId) (n : Nat) (bits : List Bool) (relief : List Bool)
  /-- FREQ_DETECTOR_BLOCK_END (R94). A single-frequency detector block completes and emits a detector item. -/
  | freqDetectorBlockEnd (ch : ChanId)
  /-- LANE_PASS (R181). A lane processes a MEAN and NEAP batch once all inputs are readable. -/
  | lanePass (l : LaneId)
  /-- PAIR_FRAME_ARRIVAL (R203). A result frame reaches PAIR and is held, forwarded, compared or discarded. -/
  | pairFrameArrival (l : LaneId)
  /-- PAIRING_WINDOW_END (R202). The 250 us window ends without a twin; the held frame goes SINGLE. -/
  | pairingWindowEnd (mp : PointId)
  /-- EXT_FRAME_ARRIVAL (R205). An extension or analysis frame reaches PAIR's pending table. -/
  | extFrameArrival (l : LaneId)
  /-- LANE_SILENCE_TIMEOUT (R206). A lane makes no pass mark for 8 ms while the other does; lane fault SILENCE. -/
  | laneSilenceTimeout (l : LaneId)
  /-- LANE_CLOCK_FAULT (R206). CLK reports a missing or shortened pulse on a lane clock. -/
  | laneClockFault (l : LaneId)
  /-- LANE_RELOAD_DONE (R212). A restarting lane's program is copied and measured; the lane goes COPYING. -/
  | laneReloadDone (l : LaneId)
  /-- LANE_RELOAD_RETRY (R212). A sole lane's failed reload is copied and measured again after 3 ms. -/
  | laneReloadRetry (l : LaneId)
  /-- SNAPSHOT_COPY_DONE (R213). The snapshot copy completes and the lane is released JOINING. -/
  | snapshotCopyDone (l : LaneId)
  /-- JOIN_TIMEOUT (R214). A JOINING lane not STANDBY within 1 s faults with JOIN_FAIL. -/
  | joinTimeout (l : LaneId)
  /-- PROBATION_END (R210). A standby lane's 60 s probation ends. -/
  | probationEnd (l : LaneId)
  /-- CHECKPOINT_COMMIT (R218). The checkpoint buffer is written and CKSEQ committed. -/
  | checkpointCommit (l : LaneId)
  /-- REBUILD_RELEASE (R220). The checkpoint is loaded and a REBUILDING lane released with g2 = 2. -/
  | rebuildRelease (l : LaneId)
  /-- BIL_FRAME_APPLY (R239). BIL applies a forwarded frame twice-computed to registers, windows, session and credit. -/
  | bilFrameApply (mp : PointId) (agree1 : Bool) (agree2 : Bool)
  /-- BIL_HOLD_RETRY (R240). A held frame is attempted again every 100 us. -/
  | bilHoldRetry (mp : PointId) (agree1 : Bool) (agree2 : Bool)
  /-- MINUTE_BOUNDARY (R245). A minute boundary of billing time falls due for boundary processing. -/
  | minuteBoundary
  /-- BOUNDARY_TIMEOUT (R256). Billing time reaches T + 100 ms and boundary processing runs for a point. -/
  | boundaryTimeout (mp : PointId)
  /-- TIM_DISCIPLINE_TICK (R231). Once per second TIM forms the correction from its source and steps or slews. -/
  | timDisciplineTick
  /-- BEACON_LOSS_TIMEOUT (R231). No beacon for 10 s; TIM disciplines to the RTC and clears LOCKED. -/
  | beaconLossTimeout
  /-- GRACE_EXPIRY (R268). The grace period runs out and RLY opens with trigger EXHAUST. -/
  | graceExpiry (r : RelayId)
  /-- RELAY_COMMAND_INSTANT (R275). An armed close or waiting open reaches its command instant. -/
  | relayCommandInstant (r : RelayId)
  /-- COIL_CHANGE (R275). The coil output changes 10 us after the command. -/
  | coilChange (r : RelayId)
  /-- FEEDBACK_CHANGE (R269). A feedback input's level is stable 1 ms and its indication changes. -/
  | feedbackChange (r : RelayId) (inputB : Bool) (level : Bool)
  /-- CLOSE_DEADLINE (R276). The 60 ms close deadline passes without confirmation. -/
  | closeDeadline (r : RelayId)
  /-- OPEN_DEADLINE (R279). The 100 ms open deadline passes without confirmation. -/
  | openDeadline (r : RelayId)
  /-- FEEDBACK_STEADY_TIMEOUT (R281). Feedback disagreement or wrong indication for 10 ms in a steady state. -/
  | feedbackSteadyTimeout (r : RelayId)
  /-- PILOT_PERIOD_END (R380). RLY takes the pilot pair, classifies the pilot and may open. -/
  | pilotPeriodEnd (r : RelayId)
  /-- FLASH_PROGRAM_DONE (R296). A flash program ends, is read back and the pending slot released. -/
  | flashProgramDone (ok : Bool)
  /-- FLASH_RETRY (R298). LDG retries a faulted flash every 10 s. -/
  | flashRetry
  /-- READ (R310). Object READ request served from unit state after the role check. -/
  | read (m : ObjMaster) (node : Nat) (reqid : Nat) (oid : Nat) (offset : Nat) (len : Nat)
  /-- WRITE (R310). Object WRITE request queued to the serving world. -/
  | write (m : ObjMaster) (node : Nat) (reqid : Nat) (oid : Nat) (data : List Nat)
  /-- EXEC (R310). Object EXEC request queued to the serving world. -/
  | exec (m : ObjMaster) (node : Nat) (reqid : Nat) (oid : Nat) (data : List Nat)
  /-- AUTH_BEGIN (R304). Start authentication for a role and return a nonce. -/
  | authBegin (m : ObjMaster) (node : Nat) (reqid : Nat) (data : List Nat)
  /-- AUTH_PROVE (R304). Verify a role proof and grant the role. -/
  | authProve (m : ObjMaster) (node : Nat) (reqid : Nat) (data : List Nat) (agree : Bool)
  /-- LOGOUT (R305). End the requester's association. -/
  | logout (m : ObjMaster) (node : Nat) (reqid : Nat)
  /-- REQUEST_TIMEOUT (R311). A queued object request unanswered for 2 s is answered BUSY and abandoned. -/
  | requestTimeout (w : World)
  /-- ASSOCIATION_IDLE_TIMEOUT (R305). An association ends after 300 s without a request. -/
  | associationIdleTimeout (m : ObjMaster) (node : Nat)
  /-- REMASK (R330). Every PERIOD the key shares and fuse shadow are re-masked and fuses re-read. -/
  | remask
  /-- DRBG_RESEED (R341). The DRBG reseeds after 65,536 requests or 60 s. -/
  | drbgReseed
  /-- ENTROPY_FAIL (R341). An entropy health test fails and the DRBG stops. -/
  | entropyFail (adaptive : Bool)
  /-- ENTROPY_RESTART_TEST (R341). A restart test of the entropy source runs at most once in 10 s. -/
  | entropyRestartTest (pass : Bool)
  /-- TAMPER_FUSE (R336). The TAMP fuse reads back blown and the Ledge marker is cleared. -/
  | tamperFuse
  /-- DETECTOR_ASSERT (R347). A detector asserts after F positive samples and may raise an alarm. -/
  | detectorAssert (m : MonitorId) (d2 : Bool) (value : Nat) (agree : Bool)
  /-- DETECTOR_DEASSERT (R347). A detector deasserts after F negative samples. -/
  | detectorDeassert (m : MonitorId) (d2 : Bool)
  /-- DETECTOR_NO_SAMPLE (R347). A monitor 7 or 8 detector gets no AUX sample for 10 ms and asserts. -/
  | detectorNoSample (m : MonitorId) (d2 : Bool)
  /-- DETECTOR_DISAGREE (R348). One detector asserted DISW ms without the other; DISAGREE entry. -/
  | detectorDisagree (m : MonitorId) (d2 : Bool)
  /-- ERASE_DECISION_RETRY (R351). A disagreeing ERASE decision is taken again every 100 us. -/
  | eraseDecisionRetry (agree : Bool)
  /-- STRANDLINE_HANDOVER_TIMEOUT (R360). The oldest unhanded entry is 1 s old; a padded STRANDLINE record is handed over. -/
  | strandlineHandoverTimeout
  /-- AUX_CONVERSION_DONE (R374). An AUX conversion completes and updates pairs and handovers. -/
  | auxConversionDone (code : Nat)
  /-- AUX_DIE_CONVERSION (R369). A scheduled die temperature conversion is inserted every 256 us. -/
  | auxDieConversion (code : Nat)
  /-- AUX_CAL_DUE (R372). Die temperature moves 8 degrees and a self-calibration starts. -/
  | auxCalDue
  /-- AUX_CALIBRATION_DONE (R373). The 16 calibration steps complete and trims are applied. -/
  | auxCalibrationDone (inRange : Bool) (gain : Bool)
  /-- AUX_BATCH_HANDOVER (R378). At each MEAN batch end AUX hands temperatures to CHN. -/
  | auxBatchHandover
  /-- BEACON_TRANSMIT (R395). The coordinator sends the four beacon copies after its reference crossing. -/
  | beaconTransmit (limit : Bool)
  /-- BEACON (R407). A decoded beacon gives membership, time correction and phase classification. -/
  | beacon (p : Coupling) (snr : Nat) (stamp : Nat) (frame : List Nat)
  /-- JOIN_FRAME (R393). The coordinator receives JOIN and admits or refuses the node. -/
  | joinFrame (p : Coupling) (snr : Nat) (frame : List Nat)
  /-- JOIN_REPLY_FRAME (R393). A joining node receives JOIN_REPLY; a duplicate enters DUPID. -/
  | joinReplyFrame (p : Coupling) (snr : Nat) (frame : List Nat)
  /-- PHASE_FRAME (R409). A member's PHASE frame updates its PMAP and keep-alive. -/
  | phaseFrame (p : Coupling) (snr : Nat) (frame : List Nat)
  /-- TMAP_FRAME (R389). A TMAP report loads a new tone map for the link. -/
  | tmapFrame (p : Coupling) (snr : Nat) (frame : List Nat)
  /-- LEGAL_FRAME (R404). A LEGAL copy is accepted or discarded as a twin and acknowledged. -/
  | legalFrame (p : Coupling) (snr : Nat) (frame : List Nat)
  /-- SITE_OBJECT_FRAME (R406). An OBJECT frame carries an object request or response. -/
  | siteObjectFrame (p : Coupling) (snr : Nat) (frame : List Nat) (agree : Bool)
  /-- OPEN_FRAME (R406). An OPEN frame enters the OPEN receive queue. -/
  | openFrame (p : Coupling) (snr : Nat) (frame : List Nat)
  /-- ACK_FRAME (R405). An ACK completes a sent frame. -/
  | ackFrame (p : Coupling) (snr : Nat) (frame : List Nat)
  /-- ACK_TIMEOUT (R405). No ACK; the frame is repeated or SIT.SEND fails. -/
  | ackTimeout
  /-- CFP_SLOT_START (R398). The owner's CFP half-slot starts and a LEGAL copy is sent. -/
  | cfpSlotStart (limit : Bool)
  /-- CSMA_BACKOFF_END (R399). A CSMA backoff of idle symbols ends and the frame starts. -/
  | csmaBackoffEnd (limit : Bool)
  /-- JOIN_RETRY (R393). A joining node repeats JOIN every 500 ms. -/
  | joinRetry
  /-- PHASE_REPORT_DUE (R394). A member sends its PHASE frame every 16 beacon periods. -/
  | phaseReportDue
  /-- MEMBER_TIMEOUT (R394). The coordinator removes a member not heard for 10 s. -/
  | memberTimeout (node : Nat)
  /-- COORDINATOR_START (R400). A candidate hearing no beacon for its wait starts a network. -/
  | coordinatorStart
  /-- BACKUP_TAKEOVER (R401). The BACKUP takes over after three missed beacon regions. -/
  | backupTakeover
  /-- TXCTR_EXHAUSTED (R392). TXCTR reaches 2^32 - 1 and the node leaves and joins again. -/
  | txctrExhausted
  /-- FRAME_START (R414). A display frame starts; blink and gamma changes take effect. -/
  | frameStart
  /-- ROW_TIME_BOUNDARY (R428). A row time ends; accounts update and one update row is written. -/
  | rowTimeBoundary
  /-- PULSE_START (R472). A due pulse starts on a pulse output. -/
  | pulseStart (n : PulseId)
  /-- PULSE_END (R472). A pulse ends after its width. -/
  | pulseEnd (n : PulseId)
  /-- IDLE (R459). Host IDLE frame carries acknowledgement, credit and NAK. -/
  | idle (p : PortId) (frame : List Nat)
  /-- MESSAGE (R465). Host MESSAGE frame queued to the OPEN or LEGAL world. -/
  | message (p : PortId) (frame : List Nat) (agree : Bool)
  /-- STREAM (R464). Host STREAM frame replaces the port's frame subscription. -/
  | stream (p : PortId) (frame : List Nat)
  /-- READOUT (R451). HOSTA READOUT during a freeze returns chain bits as RDATA. -/
  | readout (p : PortId) (frame : List Nat)
  /-- RELEASE (R450). HOSTA RELEASE ends a freeze. -/
  | release (p : PortId) (frame : List Nat)
  /-- RESET (R462). Host RESET resets the port's link state and association. -/
  | reset (p : PortId) (frame : List Nat)
  /-- OPTICAL_CHAR_TIMEOUT (R469). A pause over 20 ms between characters discards the optical frame. -/
  | opticalCharTimeout
  /-- EXTEST (R477). TAP EXTEST instruction while the port is open. -/
  | extest
  /-- SAMPLE_PRELOAD (R477). TAP SAMPLE/PRELOAD instruction while the port is open. -/
  | samplePreload
  /-- CLAMP (R477). TAP CLAMP instruction while the port is open. -/
  | clamp
  /-- HIGHZ (R477). TAP HIGHZ instruction while the port is open. -/
  | highz
  /-- DBGACC (R477). TAP debug access: freeze request and read-out chains. -/
  | dbgacc (agree : Bool)
  /-- IDCODE (R477). TAP IDCODE instruction. -/
  | idcode
  /-- BYPASS (R477). TAP BYPASS instruction, and every other code while closed. -/
  | bypass
  /-- BSCLK_START (R69). At t0 + 200 µs + 25g µs the BSCLKg output starts and the BSI chains of group g take their origin. -/
  | bsclkStart (g : BsGroup)
  /-- HOST_TRANSACTION (R456). A host SPI transaction runs from CS_N falling to CS_N rising; it carries the part's frame, raises IRQ_N, and cuts short frames counted in TRUNC. -/
  | hostTransaction (p : PortId) (clocks : Nat) (rx : List Nat) (agree : Bool)
  /-- CRCERR (R458). A link frame with wrong SYNC, CRC or LEN, or a reserved KIND, is discarded and counted, and NAK is set on the next frame. -/
  | crcerr (p : PortId) (frame : List Nat)
  /-- SEND_MEMBER_TIMEOUT (R405). A SIT.SEND whose node has not been a member for 10 s since acceptance completes FAULT with ATTEMPTS = 0. -/
  | sendMemberTimeout
  /-- SLEW_COMPLETE (R232). A slew has absorbed its correction; r returns to 0, a new time-map segment opens and SLEWSUM/SLEWNET are updated. -/
  | slewComplete
  /-- VBAKLOW (R447). VBAK falls below 2.0 V in BACKUP, which sets VBAKLOW or, when the cell is lost, invalidates the Ledge latches and the RTC. -/
  | vbaklow
  /-- RTC_TRIM (R447). Once per second the RTC adds RTCTRIM to its fraction accumulator and adds or removes one period, in every mode including BACKUP. -/
  | rtcTrim
  /-- FLASH_PROGRAM_TIMEOUT (R476). A flash program still busy after 10 ms counts as a failed program under R298. -/
  | flashProgramTimeout
  deriving DecidableEq, Repr

end Sys2Proof
end

