-- ==== Sys2Proof/Decode.lean ====
section
/-! DEFINITION. The command that an instruction word of a core spells (04 R110, R111; 05 R142, R143, R147, R150, R152), and the host's reading of the opcode table, whose rows carry no bits. -/

namespace Sys2Proof

/-- The value of `n` bits of a word from bit `lo` upward. -/
def fieldOf (w : Word) (lo n : Nat) : Nat := w.toNat / 2 ^ lo % 2 ^ n

/-- The general register that five bits from `lo` upward name (04 R110). -/
def regAt (w : Word) (lo : Nat) : Reg := ⟨w.toNat / 2 ^ lo % 32, Nat.mod_lt _ (by decide)⟩

/-- A vector register of format VA or VM (05 Table 5.1). -/
def vregAt (w : Word) (lo : Nat) : VReg := ⟨w.toNat / 2 ^ lo % 16, Nat.mod_lt _ (by decide)⟩

/-- The accumulator, in bits [29:28] (05 R142). -/
def accAt (w : Word) : AReg := ⟨w.toNat / 2 ^ 28 % 4, Nat.mod_lt _ (by decide)⟩

/-- imm5 of format VA, the amount of an immediate shift, or the index of format SYS: five bits from `lo` upward. -/
def imm5At (w : Word) (lo : Nat) : Imm5 := ⟨w.toNat / 2 ^ lo % 32, Nat.mod_lt _ (by decide)⟩

/-- imm16 and off16, bits [21:6]; off21, bits [26:6] (04 Table 4.6). -/
def imm16At (w : Word) : Imm16 := BitVec.ofNat 16 (w.toNat / 64)
def off21At (w : Word) : Imm21 := BitVec.ofNat 21 (w.toNat / 64)

/-- An instruction whose unused fields are all 0 (04 R111, 05 R142). -/
def unused (ok : Bool) (i : Instr) : Option Instr := if ok then some i else none

/-- Major opcode 0x00: register arithmetic by func (04 Table 4.8). -/
def decodeArith (c : CoreId) (w : Word) : Option Instr :=
  let rd := regAt w 27
  let a := regAt w 22
  let b := regAt w 17
  match fieldOf w 6 11 with
  | 0x001 => some (.add c rd a b)
  | 0x002 => some (.sub c rd a b)
  | 0x003 => some (.and c rd a b)
  | 0x004 => some (.or c rd a b)
  | 0x005 => some (.xor c rd a b)
  | 0x006 => some (.sll c rd a b)
  | 0x007 => some (.srl c rd a b)
  | 0x008 => some (.sra c rd a b)
  | 0x009 => some (.slt c rd a b)
  | 0x00A => some (.sltu c rd a b)
  | 0x00B => some (.adds c rd a b)
  | 0x00C => some (.subs c rd a b)
  | 0x00D => some (.min c rd a b)
  | 0x00E => some (.max c rd a b)
  | 0x00F => some (.minu c rd a b)
  | 0x010 => some (.maxu c rd a b)
  | 0x011 => some (.mul c rd a b)
  | 0x012 => some (.mulh c rd a b)
  | 0x013 => some (.mulhu c rd a b)
  | 0x014 => some (.div c rd a b)
  | 0x015 => some (.divu c rd a b)
  | 0x016 => some (.rem c rd a b)
  | 0x017 => some (.remu c rd a b)
  | 0x018 => unused (b == 0) (.clz c rd a)
  | _ => none

/-- Major opcodes 0x01 to 0x2A: formats I, S, B and J (04 Tables 4.7, 4.8). -/
def decodeImm (c : CoreId) (w : Word) : Option Instr :=
  let r := regAt w 27
  let a := regAt w 22
  let i := imm16At w
  match fieldOf w 0 6 with
  | 0x01 => some (.addi c r a i)
  | 0x02 => some (.andi c r a i)
  | 0x03 => some (.ori c r a i)
  | 0x04 => some (.xori c r a i)
  | 0x05 => some (.slti c r a i)
  | 0x06 => some (.sltiu c r a i)
  | 0x07 =>
    match fieldOf w 11 11 with
    | 0 => some (.slli c r a (imm5At w 6))
    | 1 => some (.srli c r a (imm5At w 6))
    | 2 => some (.srai c r a (imm5At w 6))
    | _ => none
  | 0x08 => unused (a == 0) (.lui c r i)
  | 0x10 => some (.lb c r a i)
  | 0x11 => some (.lbu c r a i)
  | 0x12 => some (.lh c r a i)
  | 0x13 => some (.lhu c r a i)
  | 0x14 => some (.lw c r a i)
  | 0x18 => some (.sb c r a i)
  | 0x19 => some (.sh c r a i)
  | 0x1A => some (.sw c r a i)
  | 0x20 => some (.beq c r a i)
  | 0x21 => some (.bne c r a i)
  | 0x22 => some (.blt c r a i)
  | 0x23 => some (.bge c r a i)
  | 0x24 => some (.bltu c r a i)
  | 0x25 => some (.bgeu c r a i)
  | 0x28 => some (.jal c r (off21At w))
  | 0x2A => some (.jalr c r a i)
  | _ => none

/-- Major opcode 0x30: system instructions by func (04 Table 4.8). A field that the row does not use must be 0 (log 9). -/
def decodeSys (c : CoreId) (agree : Bool) (w : Word) : Option Instr :=
  let r := regAt w 27
  let k := imm5At w 17
  if fieldOf w 22 5 ≠ 0 then none
  else match fieldOf w 6 11 with
  | 0x001 => some (.mfs c r k)
  | 0x002 => some (.mts c r k)
  | 0x003 => unused (r == 0 && k == 0) (.eret c)
  | 0x004 => unused (r == 0 && k == 0) (.fence c)
  | 0x005 => unused (r == 0 && k == 0) (.wfe c)
  | 0x006 => unused (r == 0) (.trap c k)
  | 0x007 => unused (r == 0) (.gate c k agree)
  | 0x008 => unused (r == 0 && k == 0) (.retg c)
  | 0x009 => unused (r == 0 && k == 0) (.slots c)
  | 0x00A => unused (r == 0 && k == 0) (.slotend c)
  | _ => none

/-- Major opcode 0x34: vector instructions by func (05 Tables 5.1, 5.2). -/
def decodeVec (c : CoreId) (w : Word) : Option Instr :=
  let vd := vregAt w 28
  let a := vregAt w 24
  let b := vregAt w 20
  let g := regAt w 15
  let k := imm5At w 10
  match fieldOf w 6 4 with
  | 0 => unused (g == 0 && k == 0) (.vadd c vd a b)
  | 1 => unused (g == 0 && k == 0) (.vsub c vd a b)
  | 2 => unused (g == 0 && k == 0) (.vadds c vd a b)
  | 3 => unused (g == 0 && k == 0) (.vsubs c vd a b)
  | 4 => unused (g == 0 && k == 0) (.vmul c vd a b)
  | 5 => unused (g == 0 && k == 0) (.vmulq c vd a b)
  | 6 => unused (g == 0 && k == 0) (.vmin c vd a b)
  | 7 => unused (g == 0 && k == 0) (.vmax c vd a b)
  | 8 => unused (g == 0 && k == 0) (.vand c vd a b)
  | 9 => unused (g == 0 && k == 0) (.vor c vd a b)
  | 10 => unused (g == 0 && k == 0) (.vxor c vd a b)
  | 11 => unused (b == 0 && g == 0) (.vsra c vd a k)
  | 12 => unused (b == 0 && g == 0) (.vsll c vd a k)
  | 13 => unused (b == 0 && g == 0 && k == 0) (.vabs c vd a)
  | 14 => unused (vd == 0 && k == 0) (.vclt c g a b)
  | 15 => unused (k == 0) (.vsel c vd a b g)
  | _ => none

/-- Major opcode 0x37: accumulator and single-element instructions by func (05 Table 5.2). Bits [31:30] are 0 beside an accumulator (R142). VACR names a vector register and an accumulator, and R142 gives only the accumulator a place, so the vector register is free (log 9). -/
def decodeAcc (c : CoreId) (w : Word) : Option Instr :=
  let vd := vregAt w 28
  let a := vregAt w 24
  let b := vregAt w 20
  let g := regAt w 15
  let k := imm5At w 10
  let z := fieldOf w 30 2 == 0
  match fieldOf w 6 4 with
  | 0 => unused (z && g == 0 && k == 0) (.vmac c (accAt w) a b)
  | 1 => unused (z && g == 0 && k == 0) (.vmsb c (accAt w) a b)
  | 2 => unused (z && b == 0 && k == 0) (.vmacs c (accAt w) a g)
  | 3 => unused (z && g == 0 && k == 0) (.vdot c (accAt w) a b)
  | 4 => unused (z && a == 0 && b == 0 && g == 0 && k == 0) (.aclr c (accAt w))
  | 5 => unused (z && b == 0 && g == 0) (.ald c (accAt w) a k)
  | 6 => unused z (.vacr c (Config.vacrReg w) (accAt w) g k)
  | 7 => unused (a == 0 && b == 0 && k == 0) (.vbc c vd g)
  | 8 => unused (vd == 0 && b == 0) (.vext c g a k)
  | 9 => unused (a == 0 && b == 0) (.vins c vd g k)
  | 10 => unused (b == 0 && g == 0) (.vrot c vd a k)
  | 11 => unused (b == 0 && g == 0 && k == 0) (.vmov c vd a)
  | _ => none

/-- Major opcodes 0x38 and 0x39: stream and frame instructions by func (05 Tables 5.3, 5.5). -/
def decodeStr (c : CoreId) (w : Word) : Option Instr :=
  let rd := regAt w 27
  let a := regAt w 22
  let b := regAt w 17
  match fieldOf w 6 11 with
  | 0x001 => unused (b == 0) (.strPeek c rd a)
  | 0x002 => some (.strPop c rd a b)
  | 0x003 => some (.strRead c rd a b)
  | 0x004 => some (.strSeek c rd a b)
  | 0x005 => unused (b == 0) (.strTell c rd a)
  | 0x006 => unused (rd == 0) (.strWait c a b)
  | 0x007 => some (.strEpoch c rd a b)
  | _ => none

def decodeFrm (c : CoreId) (w : Word) : Option Instr :=
  let rd := regAt w 27
  let a := regAt w 22
  let b := regAt w 17
  match fieldOf w 6 11 with
  | 0x001 => unused (b == 0) (.frmEmit c rd a)
  | 0x002 => unused (b == 0) (.frmXemit c rd a)
  | 0x003 => unused (rd == 0 && a == 0 && b == 0) (.frmCkpt c)
  | _ => none

/-- The operations of a unit in the order of their codes (05 Table 5.9). Rows that share an operation differ in their records alone, and each of them acts by its record: the first one stands for all. `agree` is the outcome of a decision taken twice. -/
def unitOps (c : CoreId) (agree : Bool) : Nat → List (Reg → Instr)
  | 0 => [.capRead c]
  | 1 => [.chnCfgin c, .chnCfgch c, .chnRdst c, .chnLdcoef c, .chnStop c, .chnStart c, .chnReliefQuery c, .chnClro c]
  | 2 => [.auxSeq c, .auxInj c, .auxAcc c, .auxTrk c, .auxWin c, .auxCal c, .auxRdst c]
  | 3 => [.pairRdst c, .pairCnt c, .pairClr c, .pairLane c]
  | 4 => [.bilMpcfg c, .bilRdreg c, .bilSessOpen c, .bilTarw c, .bilTswap c, .bilCreditAdd c, .bilDemcfg c, .bilRdst c]
  | 5 => [.rlyCfg c, fun r => .rlyClose c r agree, .rlyOpen c, .rlyGrant c, .rlyRdst c]
  | 6 => [.ldgAppend c, .ldgRead c, .ldgFlash c, .ldgRdst c]
  | 7 => [.objTake c, .objReply c, .objAcl c, .objRdst c]
  | 8 => [.keySign c, .keyVerify c, .keyMac c, .keyGcmEncrypt c, .keyDerive c, .keyWrap c, .keyUnwrap c, .keyWrite c, .keyCommit c, .keyInval c,
      fun r => .keyLife c r agree, .keyAttest c, .keyRand c, .keyMask c, .keyRdst c, fun r => .keyErase c r agree]
  | 9 => [.tmpCfg c, .tmpRdst c, .tmpLogrd c, .tmpAck c]
  | 10 => [.sitCfg c, .sitSend c, .sitRecv c, .sitTmap c, .sitTswap c, .sitNbr c, .sitRdst c]
  | 11 => [.dpyCfg c, .dpyUpd c, .dpyGamma c, .dpyGswap c, .dpyBlink c, .dpyLock c, .dpyRdst c]
  | 12 => [.clkModeRun c, fun r => .clkSlack c r agree, .clkRdst c, .clkDbg c]
  | 13 => [.hstSend c, .hstRecv c, .hstRdst c]
  | 14 => [.plsCfg c, .plsRdst c]
  | 15 => [.timRead c, .timSetAbsolute c, .timDisc c, .timLedge c]
  | _ => []

/-- Major opcode 0x3C: unit instructions (05 R152). -/
def decodeUnit (c : CoreId) (agree : Bool) (w : Word) : Option Instr :=
  if fieldOf w 16 11 ≠ 0 then none
  else ((unitOps c agree (fieldOf w 12 4))[fieldOf w 6 6]?).map fun f => f (regAt w 27)

/-- The command that an instruction word spells on core `c`; none is an encoding that no table defines, or one that Headland lacks: ILLEGAL (04 R111, Table 4.7; 05 R141). -/
def decodeInstr (c : CoreId) (agree : Bool) (w : Word) : Option Instr :=
  let op := fieldOf w 0 6
  if op = 0x00 then decodeArith c w
  else if op < 0x30 then decodeImm c w
  else if op = 0x30 then decodeSys c agree w
  else if op = 0x3C then decodeUnit c agree w
  else if c = .headland then none
  else match op with
  | 0x34 => decodeVec c w
  | 0x35 => unused (fieldOf w 27 1 == 0) (.vld c (vregAt w 28) (regAt w 22) (imm16At w))
  | 0x36 => unused (fieldOf w 27 1 == 0) (.vst c (vregAt w 28) (regAt w 22) (imm16At w))
  | 0x37 => decodeAcc c w
  | 0x38 => decodeStr c w
  | 0x39 => decodeFrm c w
  | _ => none

/-- The opcode table gives no row any bits: its rows are commands, which come as they are, with their operands (log 9). -/
def decodeTableWord (_nbits _w : Nat) : Option Instr := none

end Sys2Proof
end

