-- ==== Sys2Proof/Machine/Crypto.lean ====
section
/-! DEFINITION. Byte strings, CRC-32C (00 Table 0.4), SHA-256 (FIPS 180-4) and HMAC-SHA-256, and the derivation of 11 R322. -/

namespace Sys2Proof.Machine

abbrev Bytes := List Byte

/-- `n` in `k` little-endian bytes (00 R7). -/
def le (k n : Nat) : Bytes := (List.range k).map fun i => BitVec.ofNat 8 (n >>> (8 * i))

/-- `n` in `k` bytes, most significant first. -/
def be (k n : Nat) : Bytes := (le k n).reverse

/-- The number that little-endian bytes spell. -/
def unle : Bytes → Nat
  | [] => 0
  | b :: bs => b.toNat + 256 * unle bs

/-- The number that bytes spell, the most significant first. -/
def beNat (b : Bytes) : Nat := b.foldl (fun n x => 256 * n + x.toNat) 0

/-- A byte string cut or zero-padded to `k` bytes. -/
def fit (k : Nat) (b : Bytes) : Bytes := (b ++ List.replicate (k - b.length) 0).take k

/-- `len` bytes from offset `off`, zero-padded. -/
def slice (off len : Nat) (b : Bytes) : Bytes := fit len (b.drop off)

/-- Field of `k` little-endian bytes at `off`. -/
def fld (off k : Nat) (b : Bytes) : Nat := unle (slice off k b)

/-- `words`, each in four little-endian bytes. -/
def wordsBytes (ws : List Word) : Bytes := ws.flatMap fun w => le 4 w.toNat

/-- Steps of the reflected CRC-32C. -/
def crcStep (c : Nat) : Nat → Nat
  | 0 => c
  | n + 1 => crcStep (if c % 2 = 1 then (c / 2) ^^^ 0x82F63B78 else c / 2) n

/-- CRC-32C: polynomial 0x1EDC_6F41 reflected, initial value and final XOR 0xFFFF_FFFF. -/
def crc32c (b : Bytes) : Word := BitVec.ofNat 32 ((b.foldl (fun c x => crcStep (c ^^^ x.toNat) 8) 0xFFFFFFFF) ^^^ 0xFFFFFFFF)

/-- Word `i` of a number, counted from its low end. -/
def wordAt (x i : Nat) : Nat := x >>> (32 * i) % 2 ^ 32

/-- FIPS 180-4, section 4.2.2: the constants of the 64 rounds in one number, the first round's at the top. -/
def shaRoundKeys : Nat :=
  0x428a2f9871374491b5c0fbcfe9b5dba53956c25b59f111f1923f82a4ab1c5ed5d807aa9812835b01243185be550c7dc372be5d7480deb1fe9bdc06a7c19bf174e49b69c1efbe47860fc19dc6240ca1cc2de92c6f4a7484aa5cb0a9dc76f988da983e5152a831c66db00327c8bf597fc7c6e00bf3d5a7914706ca63511429296727b70a852e1b21384d2c6dfc53380d13650a7354766a0abb81c2c92e92722c85a2bfe8a1a81a664bc24b8b70c76c51a3d192e819d6990624f40e3585106aa07019a4c1161e376c082748774c34b0bcb5391c0cb34ed8aa4a5b9cca4f682e6ff3748f82ee78a5636f84c878148cc7020890befffaa4506cebbef9a3f7c67178f2

/-- FIPS 180-4, section 5.3.3: the hash value before the first block, H0 at the top. -/
def shaStart : Nat := 0x6a09e667bb67ae853c6ef372a54ff53a510e527f9b05688c1f83d9ab5be0cd19

/-- Σ of a word: the XOR of three rotations to the right. -/
def turns (w i j k : Nat) : Nat :=
  let d := w * 2 ^ 32 + w
  wordAt (d >>> i ^^^ d >>> j ^^^ d >>> k) 0

/-- σ of a word: two rotations and a shift. -/
def turnsShift (w i j k : Nat) : Nat :=
  let d := w * 2 ^ 32 + w
  wordAt (d >>> i ^^^ d >>> j) 0 ^^^ w >>> k

/-- The window of sixteen schedule words, its oldest at the top, one word further. -/
def windowNext (w : Nat) : Nat :=
  (w % 2 ^ 480) <<< 32 + wordAt (wordAt w 15 + turnsShift (wordAt w 14) 7 18 3 + wordAt w 6 + turnsShift (wordAt w 1) 17 19 10) 0

/-- One round: the eight working words move down by one; the fifth and the first take the new sums. `k` is schedule word plus constant. -/
def hashNext (v k : Nat) : Nat :=
  let e := wordAt v 3
  let a := wordAt v 7
  let choose := (e &&& wordAt v 2) + ((e ^^^ 0xFFFFFFFF) &&& wordAt v 1)
  let most := a &&& wordAt v 6 ||| a &&& wordAt v 5 ||| wordAt v 6 &&& wordAt v 5
  let sum := wordAt v 0 + turns e 6 11 25 + choose + k
  (wordAt (sum + turns a 2 13 22 + most) 0) <<< 224 + (v >>> 160) <<< 128 + (wordAt (wordAt v 4 + sum) 0) <<< 96 + v >>> 32 % 2 ^ 96

/-- The last `n` rounds of a block from a window and working words. -/
def hashRounds : Nat → Nat → Nat → Nat
  | 0, _, v => v
  | n + 1, w, v => hashRounds n (windowNext w) (hashNext v (wordAt w 15 + wordAt shaRoundKeys n))

/-- The eight words of two numbers added, each modulo 2³². -/
def addWords (x y : Nat) : Nat := ((List.range 8).map fun i => wordAt (wordAt x i + wordAt y i) 0 <<< (32 * i)).foldl (· + ·) 0

/-- The hash value after the last `n` blocks of a padded message `m`. -/
def hashBlocks : Nat → Nat → Nat → Nat
  | 0, h, _ => h
  | n + 1, h, m => hashBlocks n (addWords h (hashRounds 64 (m >>> (512 * n) % 2 ^ 512) h)) m

/-- SHA-256 (FIPS 180-4): a one bit, zeros and the length in bits fill the message up to whole blocks of 64 bytes. -/
def sha256 (m : Bytes) : Bytes :=
  let n := (m.length + 72) / 64
  be 32 (hashBlocks n shaStart ((beNat m * 2 + 1) <<< (8 * (64 * n - m.length) - 1) + 8 * m.length))

/-- HMAC-SHA-256. -/
def hmac (key m : Bytes) : Bytes :=
  let k := fit 64 (if key.length > 64 then sha256 key else key)
  sha256 (k.map (· ^^^ 0x5C#8) ++ sha256 (k.map (· ^^^ 0x36#8) ++ m))

/-- 11 R322: SP 800-108 in counter mode, `bits` long. -/
def kdf (ki : Bytes) (purpose world lcdom : Nat) (ctx : Bytes) (bits : Nat) : Bytes :=
  let k := fun i => hmac ki (be 4 i ++ [0x4D#8, 0x5A#8, 0x37#8] ++
    [BitVec.ofNat 8 purpose, BitVec.ofNat 8 world, BitVec.ofNat 8 lcdom, 0#8] ++ ctx ++ be 4 bits)
  ((List.range ((bits + 255) / 256)).flatMap fun i => k (i + 1)).take (bits / 8)

end Sys2Proof.Machine
end

