-- ==== Sys2Proof/Machine/Cipher.lean ====
section
/-! DEFINITION. AES-256 (FIPS 197), AES-GCM (SP 800-38D) and AES key wrap with padding (SP 800-38F), as 00_scope names them (log 35). -/

namespace Sys2Proof.Machine

/-! ## AES-256: a block is a number of 128 bits, its first byte the most significant; a column is a word of 32 bits -/

/-- The S-box and its inverse: byte `x` is the value at `x`. -/
def sboxTable : Nat :=
  0x75b227ebe28012079a059618c323c7041531d871f1e5a534ccf73f362693fdb7c072a49cafa2d4adf04759fa7dc982ca76abd7fe2b670130c56f6bf27b777c63 +
  0xd2f3ff1021dab6bcf5389d928f40a351a89f3c507f02f94585334d43fbaaefd0cf584c4a39becb6a5bb1fc20ed00d153842fe329b3d63b52a05a6e1b1a2c8309 * 2 ^ 512 +
  0x08ae7a65eaf4566ca94ed58d6d37c8e779e4959162acd3c25c2406490a3a32e0db0b5ede14b8ee4688902a22dc4f816073195d643d7ea7c41744975fec130ccd * 2 ^ 1024 +
  0x16bb54b00f2d99416842e6bf0d89a18cdf2855cee9871e9b948ed9691198f8e19e1dc186b95735610ef6034866b53e708a8bbd4b1f74dde8c6b4a61c2e2578ba * 2 ^ 1536
def sboxInvTable : Nat :=
  0x25d18b6d49a25b76b224d92866a12e084ec3fa420b954cee3d23c2a632947b54cbe9dec444438e3487ff2f9b8239e37cfbd7f3819ea340bf38a53630d56a0952 +
  0x6b8a130103bdafc1020f3fca8f1e2cd00645b3b80558e4f70ad3bc8c00abd890849d8da75746155edab9edfd5048706c92b6655dcc5ca4d41698688664f6f872 * 2 ^ 512 +
  0xf45acd78fec0db9a2079d2c64b3e56fc1bbe18aa0e62b76f89c5291d711af1476edf751ce837f9e28535ade72274ac9673e6b4f0cecff297eadc674f4111913a * 2 ^ 1024 +
  0x7d0c2155631469e126d677ba7e042b17619953833cbbebc8b0f52aae4d3be0a0ef9cc9939f7ae52d0d4ab519a97f51605fec8027591012b131c7078833a8dd1f * 2 ^ 1536
def sbox (x : Nat) : Nat := (sboxTable >>> (8 * x)) % 256
def sboxInv (x : Nat) : Nat := (sboxInvTable >>> (8 * x)) % 256

/-- Byte `r` of a word, the most significant first, and the word of four bytes. -/
def byteOf (w r : Nat) : Nat := (w >>> (24 - 8 * r)) % 256
def ofBytes (a b c d : Nat) : Nat := 2 ^ 24 * a + 2 ^ 16 * b + 256 * c + d

/-- Multiplication by x modulo x⁸ + x⁴ + x³ + x + 1. -/
def xtime (x : Nat) : Nat := if x < 128 then 2 * x else (2 * x) ^^^ 0x11B

def subWord (w : Nat) : Nat := ofBytes (sbox (byteOf w 0)) (sbox (byteOf w 1)) (sbox (byteOf w 2)) (sbox (byteOf w 3))
def rotWord (w : Nat) : Nat := w % 2 ^ 24 * 256 + w / 2 ^ 24

/-- The next `n` words of the key schedule, newest first; `i` is the number of the first. -/
def keyWords : Nat → Nat → List Nat → List Nat
  | 0, _, ws => ws
  | n + 1, i, ws =>
    let t := ws.getD 0 0
    let u := if i % 8 = 0 then subWord (rotWord t) ^^^ (2 ^ (i / 8 - 1) * 2 ^ 24) else if i % 8 = 4 then subWord t else t
    keyWords n (i + 1) ((ws.getD 7 0 ^^^ u) :: ws)

/-- The 60 words of a 32-byte key, in order. -/
def aesKey (key : Bytes) : List Nat :=
  let k := fit 32 key
  (keyWords 52 8 ((List.range 8).map fun i => beNat (slice (4 * i) 4 k)).reverse).reverse

/-- The four words of round `r`. -/
def roundKey (ks : List Nat) (r : Nat) : List Nat := (ks.drop (4 * r)).take 4

def mixWord (w : Nat) : Nat :=
  let a := byteOf w 0
  let b := byteOf w 1
  let c := byteOf w 2
  let d := byteOf w 3
  ofBytes (xtime a ^^^ xtime b ^^^ b ^^^ c ^^^ d) (a ^^^ xtime b ^^^ xtime c ^^^ c ^^^ d) (a ^^^ b ^^^ xtime c ^^^ xtime d ^^^ d) (xtime a ^^^ a ^^^ b ^^^ c ^^^ xtime d)

/-- SubBytes and ShiftRows on column `j`. -/
def shiftSub (c : List Nat) (j : Nat) : Nat :=
  let at' (r : Nat) : Nat := sbox (byteOf (c.getD ((j + r) % 4) 0) r)
  ofBytes (at' 0) (at' 1) (at' 2) (at' 3)

def addKey (c k : List Nat) : List Nat := List.zipWith (fun a b => a ^^^ b) c k

/-- Rounds 1 to 14 from round `r` on. -/
def aesRounds : Nat → Nat → List Nat → List Nat → List Nat
  | 0, _, _, c => c
  | n + 1, r, ks, c =>
    let d := (List.range 4).map fun j => shiftSub c j
    aesRounds n (r + 1) ks (addKey (if n = 0 then d else d.map mixWord) (roundKey ks r))

def columns (x : Nat) : List Nat := [x / 2 ^ 96 % 2 ^ 32, x / 2 ^ 64 % 2 ^ 32, x / 2 ^ 32 % 2 ^ 32, x % 2 ^ 32]
def ofColumns (c : List Nat) : Nat := c.foldl (fun n w => n * 2 ^ 32 + w) 0

/-- A block enciphered under a key schedule. -/
def aesEnc (ks : List Nat) (x : Nat) : Nat := ofColumns (aesRounds 14 1 ks (addKey (columns x) (roundKey ks 0)))

/-- InvShiftRows and InvSubBytes on column `j`. -/
def shiftSubInv (c : List Nat) (j : Nat) : Nat :=
  let at' (r : Nat) : Nat := sboxInv (byteOf (c.getD ((j + 4 - r) % 4) 0) r)
  ofBytes (at' 0) (at' 1) (at' 2) (at' 3)

/-- InvMixColumns is MixColumns three times. -/
def mixInv (w : Nat) : Nat := mixWord (mixWord (mixWord w))

/-- The inverse cipher, from round `r` down. -/
def aesRoundsInv : Nat → List Nat → List Nat → List Nat
  | 0, _, c => c
  | r + 1, ks, c =>
    let d := addKey ((List.range 4).map fun j => shiftSubInv c j) (roundKey ks r)
    aesRoundsInv r ks (if r = 0 then d else d.map mixInv)

def aesDec (ks : List Nat) (x : Nat) : Nat := ofColumns (aesRoundsInv 14 ks (addKey (columns x) (roundKey ks 14)))

/-! ## AES-GCM -/

/-- Multiplication in GF(2¹²⁸), most significant bit first: `n` bits of `x` are left. -/
def gfMul : Nat → Nat → Nat → Nat → Nat
  | 0, _, _, z => z
  | n + 1, x, v, z => gfMul n x (if v % 2 = 0 then v / 2 else (v / 2) ^^^ (0xE1 * 2 ^ 120)) (if x.testBit n then z ^^^ v else z)

/-- `n` blocks of 16 bytes, the last padded. -/
def ghash (h : Nat) : Nat → Bytes → Nat → Nat
  | 0, _, y => y
  | n + 1, b, y => ghash h n (b.drop 16) (gfMul 128 (y ^^^ beNat (fit 16 b)) h 0)

/-- The counter block of a 12-byte IV after `i` increments. -/
def counterBlock (iv : Bytes) (i : Nat) : Nat := beNat (fit 12 iv) * 2 ^ 32 + (1 + i) % 2 ^ 32

def xorBytes (a b : Bytes) : Bytes := List.zipWith (· ^^^ ·) a b

/-- AES-256-GCM: the text of as many bytes, in either direction. -/
@[irreducible] def gcmCrypt (key iv text : Bytes) : Bytes :=
  let ks := aesKey key
  xorBytes text ((List.range ((text.length + 15) / 16)).flatMap fun i => be 16 (aesEnc ks (counterBlock iv (i + 1))))

/-- The 16-byte tag over additional data and ciphertext. -/
@[irreducible] def gcmTag (key iv aad cipher : Bytes) : Bytes :=
  let ks := aesKey key
  let h := aesEnc ks 0
  let y := ghash h ((cipher.length + 15) / 16) cipher (ghash h ((aad.length + 15) / 16) aad 0)
  let z := gfMul 128 (y ^^^ (8 * aad.length * 2 ^ 64 + 8 * cipher.length)) h 0
  be 16 (aesEnc ks (counterBlock iv 0) ^^^ z)

/-! ## Key wrap with padding -/

/-- One pass over the semiblocks: the integrity register, the ones done (newest first), the ones left; `t` counts steps. -/
def wrapPass (ks : List Nat) : List Nat → Nat → Nat → List Nat → Nat × List Nat
  | [], _, a, out => (a, out.reverse)
  | r :: rs, t, a, out =>
    let b := aesEnc ks (a * 2 ^ 64 + r)
    wrapPass ks rs (t + 1) ((b / 2 ^ 64) ^^^ t) (b % 2 ^ 64 :: out)

/-- `n` passes over `k` semiblocks, counted from pass `j`. -/
def wrapPasses (ks : List Nat) : Nat → Nat → Nat → Nat × List Nat → Nat × List Nat
  | 0, _, _, x => x
  | n + 1, j, k, x => wrapPasses ks n (j + 1) k (wrapPass ks x.2 (j * k + 1) x.1 [])

/-- One pass backwards: the semiblocks left, last first; those undone. -/
def unwrapPass (ks : List Nat) : List Nat → Nat → Nat → List Nat → Nat × List Nat
  | [], _, a, out => (a, out)
  | r :: rs, t, a, out =>
    let b := aesDec ks ((a ^^^ t) * 2 ^ 64 + r)
    unwrapPass ks rs (t - 1) (b / 2 ^ 64) (b % 2 ^ 64 :: out)

def unwrapPasses (ks : List Nat) : Nat → Nat → Nat × List Nat → Nat × List Nat
  | 0, _, x => x
  | j + 1, k, x => unwrapPasses ks j k (unwrapPass ks x.2.reverse ((j + 1) * k) x.1 [])

/-- Semiblocks of a byte string. -/
def semis (b : Bytes) : List Nat := (List.range ((b.length + 7) / 8)).map fun i => beNat (slice (8 * i) 8 b)

/-- KWP of more than 8 bytes. -/
@[irreducible] def kwpWrap (kek plain : Bytes) : Bytes :=
  let p := semis plain
  let x := wrapPasses (aesKey kek) 6 0 p.length (0xA65959A6 * 2 ^ 32 + plain.length, p)
  (x.1 :: x.2).flatMap (be 8)

/-- The plaintext, unless the integrity check value, the length or the padding is wrong. -/
@[irreducible] def kwpUnwrap (kek cipher : Bytes) : Option Bytes :=
  let c := semis cipher
  let k := c.length - 1
  let x := unwrapPasses (aesKey kek) 6 k (c.getD 0 0, c.drop 1)
  let n := x.1 % 2 ^ 32
  let p := x.2.flatMap (be 8)
  if x.1 / 2 ^ 32 = 0xA65959A6 ∧ 8 * k < n + 8 ∧ n ≤ 8 * k ∧ (p.drop n).all (· == 0) then some (p.take n) else none

end Sys2Proof.Machine
end

