-- ==== Sys2Proof/Machine/Curve.lean ====
section
/-! DEFINITION. ECDSA on P-256 (FIPS 186-5), as 00_scope names it: points, keys, signatures and their verification (log 35). -/

namespace Sys2Proof.Machine

/-- The field prime, the group order, the coefficient b and the base point. -/
def p256P : Nat := 0xFFFFFFFF00000001000000000000000000000000FFFFFFFFFFFFFFFFFFFFFFFF
def p256N : Nat := 0xFFFFFFFF00000000FFFFFFFFFFFFFFFFBCE6FAADA7179E84F3B9CAC2FC632551
def p256B : Nat := 0x5AC635D8AA3A93E7B3EBBD55769886BC651D06B0CC53B0F63BCE3C3E27D2604B
def p256Gx : Nat := 0x6B17D1F2E12C4247F8BCE6E563A440F277037D812DEB33A0F4A13945D898C296
def p256Gy : Nat := 0x4FE342E2FE1A7F9B8EE7EB4A7C0F9E162BCE33576B315ECECBB6406837BF51F5

/-- A point in Jacobian coordinates; z = 0 is the point at infinity. -/
structure Point where
  x : Nat
  y : Nat
  z : Nat
  deriving DecidableEq, Repr

/-- b^e modulo m over the low `n` bits of e. -/
def powMod (m b e : Nat) : Nat → Nat
  | 0 => 1
  | n + 1 => let r := powMod m b (e / 2) n; if e % 2 = 0 then r * r % m else r * r % m * b % m

def subP (a b : Nat) : Nat := (a + p256P - b % p256P) % p256P

def ptDouble (a : Point) : Point :=
  let d := a.z * a.z % p256P
  let g := a.y * a.y % p256P
  let b := a.x * g % p256P
  let m := 3 * subP a.x d * (a.x + d) % p256P
  let x := subP (m * m) (8 * b)
  { x := x, y := subP (m * subP (4 * b) x) (8 * (g * g % p256P)), z := 2 * a.y * a.z % p256P }

def ptAdd (a b : Point) : Point :=
  if a.z = 0 then b
  else if b.z = 0 then a
  else
    let za := a.z * a.z % p256P
    let zb := b.z * b.z % p256P
    let u1 := a.x * zb % p256P
    let u2 := b.x * za % p256P
    let s1 := a.y * zb % p256P * b.z % p256P
    let s2 := b.y * za % p256P * a.z % p256P
    let h := subP u2 u1
    let r := subP s2 s1
    if h = 0 then (if r = 0 then ptDouble a else { x := 1, y := 1, z := 0 })
    else
      let hh := h * h % p256P
      let hhh := h * hh % p256P
      let v := u1 * hh % p256P
      let x := subP (r * r) (hhh + 2 * v)
      { x := x, y := subP (r * subP v x) (s1 * hhh), z := a.z * b.z % p256P * h % p256P }

/-- k × a over the low `n` bits of k. -/
def ptMul (a : Point) (k : Nat) : Nat → Point
  | 0 => { x := 1, y := 1, z := 0 }
  | n + 1 => let r := ptDouble (ptMul a (k / 2) n); if k % 2 = 0 then r else ptAdd r a

/-- Affine coordinates of a point other than infinity. -/
def ptX (a : Point) : Nat := let i := powMod p256P a.z (p256P - 2) 256; a.x * (i * i % p256P) % p256P
def ptY (a : Point) : Nat := let i := powMod p256P a.z (p256P - 2) 256; a.y * (i * i % p256P * i % p256P) % p256P

def p256G : Point := { x := p256Gx, y := p256Gy, z := 1 }

/-- x³ − 3x + b. -/
def curveRhs (x : Nat) : Nat := (x * x % p256P * x + 3 * (p256P - x % p256P) + p256B) % p256P
def onCurve (x y : Nat) : Bool := decide (x < p256P) && decide (y < p256P) && y * y % p256P == curveRhs x

/-- The public key X ‖ Y of a private scalar. -/
@[irreducible] def p256Pub (d : Bytes) : Bytes := let q := ptMul p256G (beNat (fit 32 d)) 256; be 32 (ptX q) ++ be 32 (ptY q)

/-- The point with abscissa X and the given parity of Y (11 R331), as X ‖ Y; for an X that no point has, Y is a free value (log 1). -/
@[irreducible] def p256Decompress (m : Bytes) (odd : Bool) : Bytes :=
  let x := beNat (fit 32 m)
  let y := powMod p256P (curveRhs x) ((p256P + 1) / 4) 256
  fit 32 m ++ (if onCurve x y then be 32 (if (y % 2 == 1) == odd then y else p256P - y) else fit 32 (Config.noPointY (fit 32 m) odd))

/-- (c mod (n − 1)) + 1 for 40 bytes, most significant first (11 R323), as 32 bytes. -/
@[irreducible] def p256Scalar (c : Bytes) : Bytes := be 32 (beNat c % (p256N - 1) + 1)

/-- The per-signature k of number `n`, drawn from the DRBG as R323 draws a scalar (11 R330; FIPS 186-5). -/
def ecdsaK (n : Nat) : Nat := beNat ((List.range 40).map fun i => Config.drbgByte n i) % (p256N - 1) + 1

/-- A signature r ‖ s of `digest` under the private scalar `d` with per-signature secret `k`. -/
def ecdsaSignK (d digest : Bytes) (k : Nat) : Bytes :=
  let r := ptX (ptMul p256G k 256) % p256N
  let s := powMod p256N k (p256N - 2) 256 * ((beNat (fit 32 digest) + r * beNat (fit 32 d)) % p256N) % p256N
  be 32 r ++ be 32 s

@[irreducible] def ecdsaSign (d digest : Bytes) (n : Nat) : Bytes := ecdsaSignK d digest (ecdsaK n)

/-- Verification of r ‖ s over `digest` under the public key X ‖ Y. -/
@[irreducible] def ecdsaVerify (pub digest sig : Bytes) : Bool :=
  let x := beNat (slice 0 32 pub)
  let y := beNat (slice 32 32 pub)
  let r := beNat (slice 0 32 sig)
  let s := beNat (slice 32 32 sig)
  let w := powMod p256N s (p256N - 2) 256
  let q := ptAdd (ptMul p256G (beNat (fit 32 digest) * w % p256N) 256) (ptMul { x := x, y := y, z := 1 } (r * w % p256N) 256)
  onCurve x y && decide (0 < r) && decide (r < p256N) && decide (0 < s) && decide (s < p256N) && q.z != 0 && ptX q % p256N == r

end Sys2Proof.Machine
end

