-- ==== Sys2Proof/Machine/State.lean ====
section
/-! DEFINITION. The state of the MZ7128 as plain data, unit by unit, and the state after reset. -/

namespace Sys2Proof.Machine

/-- A memory: bytes by rising address, no listed byte equal to 0 (log 3). -/
abbrev Mem := List Host.Cell

/-- Why a step stops. No meaning raises it: the part's own exceptions and faults are states (INVENTORY, Faults); safe. -/
inductive Fault where
  /-- A machine that cannot go on. Raised by no meaning; safe. -/
  | stuck
  deriving DecidableEq, Repr

/-- Why a command has no next state. -/
inductive Refusal where
  /-- The command has no meaning yet; raised by the dispatch alone; safe. -/
  | notModelled (mnemonic : String)
  deriving DecidableEq, Repr

/-- The ordering options (00 Table 0.2). -/
inductive Variant where
  | fa | fd | fs | fm
  deriving DecidableEq, Repr, Inhabited

/-- Fuses and identity (00 R1, 05 R162, 11 R314, R317, 18 R483). -/
structure Fuse where
  variant : Variant
  uidLo : Word
  uidHi : Word
  stepMajor : Byte
  stepMinor : Byte
  /-- The factory root, 32 bytes, and the check fuse ROOTCHK (11 R314). -/
  root : List Byte
  rootChk : List Byte
  /-- The Gwyndex image key in ROM, X ‖ Y (04 R132). -/
  gwyndex : List Byte
  /-- Blown physical fuses, 0 to 3, of LCFUSE bits 0 to 9 (11 R317). -/
  lc : List Nat
  deriving DecidableEq, Repr, Inhabited

/-- The Ledge latches (16 Table 16.7); CRC is computed. -/
structure Ledge where
  valid : Word
  lflags : BitVec 16
  pupcnt : Nat
  pdBt : Nat
  pdRtc : Nat
  rtctrim : BitVec 16
  cellRtc : Nat
  deriving DecidableEq, Repr, Inhabited

/-- The BACKUP domain (16 R447): RTC count, signed fraction accumulator, the latches and their found copy. -/
structure Backup where
  rtc : Nat
  frac : Int
  /-- REF periods of the current RTC second, 0 to 23,999,999. -/
  phase : Nat
  /-- Seconds of the RTC whose trim is due. -/
  trims : Nat
  ledge : Ledge
  found : Ledge
  rtcLost : Bool
  /-- The backup cell holds. -/
  vbak : Bool
  deriving DecidableEq, Repr, Inhabited

/-- A SLACK freeze in progress (16 R450). -/
structure Freeze where
  tick : Nat
  rtc : Nat
  /-- 1 SLACK_N, 2 CLK.SLACK. -/
  cause : Nat
  endRef : Option Nat
  /-- One bit per chain read. -/
  chains : Nat
  mode : Nat
  deriving DecidableEq, Repr, Inhabited

/-- CLK (16). Instants are REF counts. -/
structure Clk where
  powered : Bool
  vio33 : Bool
  ref : Nat
  /-- t_r and t0 (16 R443). -/
  refStable : Option Nat
  t0 : Option Nat
  modRun : Bool
  modPhase : Nat
  modtick : Nat
  /-- SYS cycles counted since power-on. -/
  sys : Nat
  /-- REF cycles while SYS ran (07 R202). -/
  sysRef : Nat
  mode : Nat
  prevMode : Nat
  refOk : Bool
  dbg : Bool
  pfw : Option Nat
  slackPin : Bool
  slackArmed : Bool
  fallback : Option Nat
  lock : Bool
  redmask : Word
  /-- MODTICKs at which the last REDUCED spans began and ended (06 Table 6.12). -/
  reducedSpans : List (Nat × Option Nat)
  /-- Batch boundary at which a requested REDUCED takes effect. -/
  reduceTo : Option Nat
  pllLoss : Nat
  grants : Nat
  refused : Nat
  modechg : Nat
  fbRef : Nat
  losses : List Nat
  holdoff : Option Nat
  freeze : Option Freeze
  freezeEnd : Option Nat
  bootStage : Nat
  bootEntry : Nat
  bootReason : Nat
  tmpChecked : Bool
  refLost : Bool
  tap : Byte
  deriving DecidableEq, Repr, Inhabited

/-- General registers and pc (04 R100). -/
structure Bank where
  g : List Word
  pc : Word
  deriving DecidableEq, Repr, Inhabited

/-- Vector registers and accumulators of a lane bank (05 R141). -/
structure Vec where
  v : List (List Word)
  a : List (List Acc)
  deriving DecidableEq, Repr, Inhabited

/-- Core state words of a core or world (04 Table 4.1, 4.2). -/
structure Ctl where
  cause : Word
  epc : Word
  eaddr : Word
  evec : Word
  active : Bool
  inGate : Bool
  eccCorr : Nat
  evpend : Word
  evmask : Word
  cycles : Nat
  cycleHi : Word
  deriving DecidableEq, Repr, Inhabited

/-- A SECDED error waiting in a memory word (04 R109). -/
structure MemErr where
  /-- 0 instruction memory, 1 data memory, 2 MRAM. -/
  kind : Nat
  addr : Nat
  double : Bool
  deriving DecidableEq, Repr, Inhabited

/-- An extension slot (04 R128, R129). -/
structure Slot where
  present : Bool
  disabled : Bool
  entry : Word
  budget : Nat
  lastStart : Int
  fails : Nat
  deriving DecidableEq, Repr, Inhabited

/-- SLOTS in progress (04 R128): the running slot, its start in lane cycles, and the masks so far. -/
structure SlotRun where
  k : Nat
  start : Nat
  done : Nat
  aborted : Nat
  deriving DecidableEq, Repr, Inhabited

/-- What a lane instruction waits for: STR.WAIT (05 R147) or room in the PAIR buffer (05 R150). -/
inductive Stall where
  | none
  | wait (sel dead : Word)
  | emit (rd rs1 : Reg)
  deriving DecidableEq, Repr, Inhabited

/-- A copy of the lane calibration block (06 R173): its bytes by offset. -/
structure CalBlock where
  gen : Nat
  eff : Nat
  mem : Mem
  deriving DecidableEq, Repr, Inhabited

/-- A stretch of a stream as the reference program holds it (06 R169 to R171): its epoch, the index of the first sample held, and samples with their tags; tag bit 4 is the block's FALLBACK. -/
structure SRun where
  tf : Nat
  preset : Nat
  n0 : Nat
  xs : List (Int × Nat)
  ended : Bool
  deriving DecidableEq, Repr, Inhabited

/-- A closed cycle of the reference program (06 R178, R179): grid instants [S, E), frequency in mHz, its crossings in 1/256 MOD cycle, flags that its end decides, and the grid instant at which the program closed it. -/
structure Cycle where
  mp : Nat
  S : Nat
  E : Nat
  freq : Nat
  cross : Option (Nat × Nat)
  flags : Nat
  seen : Nat
  deriving DecidableEq, Repr, Inhabited

/-- What the reference program keeps of a metering point (06 R175 to R190). The eight roles are V0-V2, VLOAD, I0-I2, IN. -/
structure LPoint where
  seq : Nat
  /-- Exact energies EP, EQ, ES, EPC, ESC in 2⁻⁴⁰ µWh (06 R183). -/
  acc : List Int
  /-- Band in force per role; 255 none yet (06 R175). -/
  bands : List Nat
  /-- The last grid values of the reference phase, newest first, and the filter's last value (06 R178). -/
  trk : List Int
  filt : Option Int
  armed : Bool
  /-- First grid instant of the cycle in progress; its opening crossing in 1/256 MOD cycle; the grid instant at which it ends untracked. -/
  start : Option Nat
  openX : Option Nat
  closeAt : Option Nat
  first : Bool
  /-- Bands of the last cycle; empty before the first (06 R190). -/
  lastBands : List Nat
  vloadOn : Bool
  cold : Bool
  /-- Rogowski means and integrators per role: m_x, m_w, the last w and x′, in units of 2⁻³² of a code (06 R177). -/
  mx : List Int
  mw : List Int
  rw : List Int
  rx : List Int
  latest : List Byte
  deriving DecidableEq, Repr, Inhabited

/-- A harmonic analysis window of a channel (06 R192, R195): its cycles so far, their tags, the samples by represented instant; the frames that fall due by batch. -/
structure AWin where
  idx : Nat
  start : Option Nat
  cycles : Nat
  flags : Nat
  xs : List (Int × Int)
  due : List (Nat × List Byte)
  deriving DecidableEq, Repr, Inhabited

/-- A window of a SURGE path (06 R194): epoch of the stream and next block, window number, the samples of the segment, the segments done and their sums by band. -/
structure SWin where
  idx : Nat
  tf : Option Nat
  next : Nat
  win : Option Nat
  seg : List Int
  segs : Nat
  sums : List Nat
  flags : Nat
  due : List (Nat × List Byte)
  deriving DecidableEq, Repr, Inhabited

/-- The state segment of the reference program (06, 07 R201). -/
structure Prog where
  use : Option CalBlock
  pend : Option CalBlock
  /-- The block in use before, and the MEAN batch from which on it is not (06 R173). -/
  old : Option CalBlock
  useFrom : Nat
  /-- The accepted definitions of each point that the counters follow (06 R499). -/
  defSeen : List Nat
  /-- Cycles that time NEAP channels, with the batch at which those channels' values cover them (06 R181, R192). -/
  late : List (Nat × Cycle)
  /-- MEAN batch of the next pass. -/
  batch : Nat
  pts : List LPoint
  wins : List AWin
  swins : List SWin
  /-- Band state of channels in no metering point (06 R175). -/
  chBand : List Nat
  /-- Stretches of each channel's stream, newest first. -/
  runs : List (List SRun)
  /-- Fundamental phasor of each channel's last cycle (06 Table 6.11). -/
  ph : List (Int × Int)
  /-- The backlog exceeds one pass (07 R215). -/
  catchUp : Bool
  /-- Analysis frames dropped (06 R195). -/
  drops : Nat
  deriving DecidableEq, Repr, Inhabited

/-- A lane core (04 R100, 01 Table 1.2). -/
structure Lane where
  bank : Bank
  vec : Vec
  slotBank : Bank
  slotVec : Vec
  ctl : Ctl
  running : Bool
  slots : List Slot
  run : Option SlotRun
  stall : Stall
  imem : Mem
  dmem : Mem
  errs : List MemErr
  entry : Word
  prog : Prog
  deriving DecidableEq, Repr, Inhabited

/-- A Headland world (04 R101, R103, R121). -/
structure WorldSt where
  bank : Bank
  ctl : Ctl
  released : Bool
  waiting : Bool
  wdogPeriod : Nat
  wdogCount : Nat
  entry : Word
  deriving DecidableEq, Repr, Inhabited

/-- A store to MRAM that no FENCE of its world covers yet (04 R108): offset, the bytes before it and its own. -/
structure Unfenced where
  world : World
  off : Nat
  old : List Byte
  new : List Byte
  deriving DecidableEq, Repr, Inhabited

/-- What Headland's worlds share (04 Table 4.1, 4.12, R124, R137). -/
structure Headland where
  imem : Mem
  dmem : Mem
  errs : List MemErr
  gateBase : Word
  gateN : Nat
  restarts : Nat
  loaded : Bool
  run : Bool
  callseq : Word
  /-- Commands of a restarted world are dropped; the LEGAL image's load is due (04 R119). -/
  restarting : Bool
  /-- Close permission waits for a new grant after a Headland restart (09 hold HEADLAND). -/
  grantLost : Bool
  /-- Measurements of the loaded images by directory entry (04 R133). -/
  measures : List (Option (List Byte))
  deriving DecidableEq, Repr, Inhabited

/-- A posted operation (05 R156 to R158); its outcome is known once it is some. -/
structure Posted where
  unit : UnitId
  world : World
  live : Bool
  addr : Nat
  op : Nat
  words : List Word
  outcome : Option Nat
  results : List (Nat × Word)
  deriving DecidableEq, Repr, Inhabited

/-- A segment of the time map (08 R230). -/
structure Seg where
  m0 : Nat
  b0 : Nat
  r : Int
  deriving DecidableEq, Repr, Inhabited

/-- TIM (08 R230 to R235, 16 R448); segments newest first. -/
structure Tim where
  segs : List Seg
  beacons : Bool
  locked : Bool
  unset : Bool
  slew : Int
  slewSum : Nat
  slewNet : Int
  rtcOff : Int
  lastBeacon : Option Nat
  lastDisc : Nat
  deriving DecidableEq, Repr, Inhabited

/-- A record waiting in the pending store (10 R296), with the Strandline entries it carries. -/
structure PendRec where
  index : Nat
  bytes : List Byte
  eseqs : List Nat
  deriving DecidableEq, Repr, Inhabited

/-- LDG (10 R286 to R302). -/
structure Ldg where
  recs : List PendRec
  flash : List (Nat × List Byte)
  next : Nat
  chain : List Byte
  lastCkpt : Nat
  since : Nat
  dropped : List Nat
  gapDue : Bool
  capacity : Nat
  sizeCode : Nat
  dtr : Bool
  jedec : Nat
  /-- Lifecycle state code in which LDG.FLASH last completed. -/
  setIn : Option Nat
  fault : Bool
  nodev : Bool
  fullSeen : Bool
  /-- Identity the attached flash answers, if any. -/
  device : Option Nat
  prog : Option Nat
  tries : Nat
  retryAt : Option Nat
  subTick : Nat
  subSeq : Nat
  deriving DecidableEq, Repr, Inhabited

/-- An association of the object gate (10 R304). -/
structure Assoc where
  role : Nat
  mp : Nat
  sessid : Nat
  last : Nat
  nonce : Option (List Byte × Nat × Nat)
  node : Nat
  deriving DecidableEq, Repr, Inhabited

/-- A queued or taken write or execute (10 R310, R311). -/
structure ObjReq where
  master : Nat
  node : Nat
  reqid : Nat
  oid : Nat
  offset : Nat
  exec : Bool
  role : Nat
  data : List Byte
  born : Nat
  handle : Nat
  opn : Bool
  deriving DecidableEq, Repr, Inhabited

/-- An access table entry (10 Table 10.15). -/
structure AclEnt where
  cls : Nat
  instLo : Nat
  instHi : Nat
  attrLo : Nat
  attrHi : Nat
  rights : Nat
  deriving DecidableEq, Repr, Inhabited

/-- OBJ (10 R303 to R312). -/
structure Obj where
  ports : List Assoc
  site : List Assoc
  fails : List Nat
  lockEnd : List Nat
  legalQ : List ObjReq
  openQ : List ObjReq
  taken : List ObjReq
  handle : Nat
  acl : List AclEnt
  keySlots : List Nat
  aclImage : List Byte
  aclGen : Nat
  authFail : Nat
  abandoned : Nat
  /-- Responses to SITE requests on their way to the site link: node and message. -/
  siteOut : List (Nat × List Byte)
  deriving DecidableEq, Repr, Inhabited

/-- A slot record (11 Table 11.8). -/
structure SlotRec where
  st : Nat
  bank : Bool
  vol : Bool
  gen : Nat
  pend : Bool
  pendGen : Nat
  attr0 : Word
  attr1 : Word
  link0 : Nat
  link1 : Nat
  pub0 : List Byte
  pub1 : List Byte
  deriving DecidableEq, Repr, Inhabited

/-- A loaded key: its material and the generation it was loaded with (11 R330). -/
structure Cached where
  key : List Byte
  gen : Nat
  deriving DecidableEq, Repr, Inhabited

/-- KEY (11). -/
structure Key where
  recs : List SlotRec
  cache : List (Option Cached)
  pendKeys : List (Option (List Byte))
  ks : List (Option (List Byte))
  test : Bool
  shadow : Nat
  misread : Nat
  scuttle : Word
  lastLc : Nat
  erases : Nat
  entropyFail : Bool
  period : Nat
  drbgOk : Bool
  requests : Nat
  reseedAt : Nat
  restartAt : Nat
  remaskAt : Nat
  mask : Nat
  tampPend : Bool
  deriving DecidableEq, Repr, Inhabited

/-- A Strandline entry (12 R356): the 32 bytes, tagged or not, and the REF instant it arose. -/
structure Strand where
  eseq : Nat
  bytes : List Byte
  tagged : Bool
  born : Nat
  deriving DecidableEq, Repr, Inhabited

/-- The pressure slot (12 R361, Table 12.6). -/
structure Press where
  others : Nat
  counts : List Nat
  resp : Nat
  rtc : Nat
  deriving DecidableEq, Repr, Inhabited

/-- A tamper monitor (12 Tables 12.1, 12.3, 12.10). -/
structure Monitor where
  cfg : Word
  limits : Word
  input : Nat
  st : Nat
  resp : Nat
  /-- The response of the standing or latched alarm that keeps MARK in force. -/
  d1 : Bool
  d2 : Bool
  n1 : Nat
  n2 : Nat
  dis : Bool
  disSince : Option Nat
  cfgDone : Bool
  reason : Nat
  start : Nat
  v1 : Nat
  v2 : Nat
  alarms : Nat
  disagrees : Nat
  lastSample : Nat
  deriving DecidableEq, Repr, Inhabited

/-- TMP (12). -/
structure Tmp where
  mons : List Monitor
  mark : Bool
  logpress : Bool
  collapsed : Nat
  ring : List Strand
  staging : List Strand
  next : Nat
  handed : Nat
  sealedTo : Nat
  press : Option Press
  notes : List Nat
  eraseWait : Option Nat
  lastRef : Nat
  lastSub : Nat
  deriving DecidableEq, Repr, Inhabited

/-- An outbound link frame: kind, sequence number once sent, payload (17 R457). -/
structure OutFrame where
  kind : Nat
  tseq : Nat
  payload : List Byte
  world : Option World
  addr : Nat
  deriving DecidableEq, Repr, Inhabited

/-- A message waiting in an inbound slot (17 R460). -/
structure InMsg where
  chan : Nat
  tseq : Nat
  data : List Byte
  deriving DecidableEq, Repr, Inhabited

/-- A host port or the optical port (17 R455 to R470). -/
structure HPort where
  txSeq : Nat
  rxSeq : Option Nat
  unacked : List OutFrame
  events : List OutFrame
  boots : List OutFrame
  objs : List (List Byte)
  msgs : List OutFrame
  frames : List (List Byte)
  inbox : List InMsg
  hostCredit : Nat
  lastCredit : Nat
  nak : Bool
  /-- Next of the unacknowledged frames to repeat. -/
  rep : Option Nat
  idleTx : Nat
  sub : Word
  subExt : Bool
  synced : Bool
  resetOut : Bool
  crcErr : Nat
  retx : Nat
  overrun : Nat
  strDrop : Nat
  evLost : Nat
  trunc : Nat
  /-- Characters of an optical frame received so far. -/
  part : List Byte
  /-- Bytes that the part sent in the last transaction. -/
  sent : List Byte
  deriving DecidableEq, Repr, Inhabited

/-- A pulse output (17 R471 to R473). -/
structure Pulse where
  src : Nat
  mp : Nat
  qty : Nat
  basis : Bool
  k : Nat
  pol : Bool
  width : Nat
  count : Nat
  acc : Nat
  backlog : Nat
  spacing : Nat
  lastStart : Int
  lastEnd : Int
  level : Bool
  overrate : Bool
  runDone : Bool
  run : Bool
  stopping : Bool
  pulses : Nat
  started : Nat
  deriving DecidableEq, Repr, Inhabited

/-- A stream item: 0 block, 1 epoch, 2 end, 3 detector, with its bytes (03 R85, R86); `bseq` is that of the block, or of the next block. -/
structure SItem where
  kind : Nat
  bseq : Nat
  bytes : List Byte
  deriving DecidableEq, Repr, Inhabited

/-- A ring that an ended chain keeps while the channel runs again with another preset (03 R88): its words, the number after its last item, and when it is released. -/
structure OldRing where
  words : Nat
  upto : Nat
  due : Nat
  deriving DecidableEq, Repr, Inhabited

/-- A stream in the sample fabric (03 R85 to R90): the items still held, the number of the first of them, each lane's position. -/
structure Stream where
  items : List SItem
  base : Nat
  posE : Nat
  posF : Nat
  nextB : Nat
  epoch : Option (List Byte)
  /-- The epoch item that the oldest retained items follow, once it has left the ring itself. -/
  oldEpoch : Option (List Byte)
  /-- MODTICK at which the end item was written. -/
  ended : Option Nat
  /-- Ring words held (03 Table 3.11). -/
  words : Nat
  depth : Nat
  skipE : Nat
  skipF : Nat
  /-- Samples and tags of the block being written, newest first, and whether one was computed in fallback. -/
  blk : List (Int × Nat)
  blkFb : Bool
  /-- GEN of the trim in force and CARRIER at the tick of its newest sample (03 Table 3.9). -/
  blkGen : Nat
  blkCar : Nat
  /-- Rings of other presets that ended chains of the channel still keep, oldest first. -/
  olds : List OldRing
  deriving DecidableEq, Repr, Inhabited

/-- A decimation chain or SURGE path (03 R70 to R84): pipeline histories hold values and tags, newest first, stage S1 first. -/
structure Chain where
  st : Nat
  t1 : Nat
  preset : Nat
  n : Nat
  n0 : Nat
  /-- The epoch item has been emitted; its cause. -/
  started : Bool
  cause : Nat
  /-- Cause of the end item due when the block being filled is complete. -/
  ending : Option Nat
  /-- Waits for its origin at relock. -/
  wait : Bool
  /-- Ended, to restart at relock (1) or on return to RUN (2). -/
  again : Nat
  bits : List Bool
  /-- The window of the relief modulator's own S1 stage (02 R51). -/
  spBits : List Bool
  hist : List (List (Int × Nat))
  deriving DecidableEq, Repr, Inhabited

/-- The single-frequency detector (03 R94, R95): inputs of the block in progress, newest first, and the values in use. -/
structure Detector where
  freq : Nat
  hann : Bool
  len : Nat
  xs : List (Int × Nat)
  idx : Nat
  tstart : Nat
  /-- Detector items that wait for the end of the block that holds their last input's tick. -/
  out : List (List Byte)
  deriving DecidableEq, Repr, Inhabited

def Stream.zero : Stream :=
  { items := [], base := 0, posE := 0, posF := 0, nextB := 0, epoch := none, oldEpoch := none, ended := none, words := 0, depth := 0, skipE := 0,
    skipF := 0, blk := [], blkFb := false, blkGen := 0, blkCar := 0, olds := [] }

def Chain.zero : Chain :=
  { st := 0, t1 := 0, preset := 1, n := 1, n0 := 0, started := false, cause := 0, ending := none, wait := false,
    again := 0, bits := [], spBits := [], hist := List.replicate 7 [] }

def Detector.zero : Detector :=
  { freq := 5000, hann := false, len := 15625, xs := [], idx := 0, tstart := 0,
    out := [] }

/-- An overload (02 R63): MODTICK of its start and of its end, and its sign. -/
structure Over where
  start : Nat
  stop : Option Nat
  pos : Bool
  deriving DecidableEq, Repr, Inhabited

/-- A trim record (02 Table 2.9). -/
structure Trim where
  gen : Nat
  g : Int
  o : Int
  cals : Nat
  drift : Int
  time : Nat
  deriving DecidableEq, Repr, Inhabited

def Trim.zero : Trim := { gen := 0, g := 0, o := 0, cals := 0, drift := 0, time := 0 }

/-- A fast path and its zero-crossing detector (03 R92, R93). -/
structure Fast where
  /-- Origin TF, and the cycles from it to the first valid input bit. -/
  tf : Nat
  first : Nat
  /-- Number of the next value. -/
  n : Nat
  /-- Windows of the channel's own and of the relief modulator's sinc³ stage, newest bit first. -/
  bits : List Bool
  spBits : List Bool
  /-- The last value and its tag. -/
  value : Option (Int × Nat)
  /-- 0 unarmed, 1 armed for a rising, 2 for a falling crossing. -/
  arm : Nat
  deriving DecidableEq, Repr, Inhabited

def Fast.zero : Fast := { tf := 0, first := 0, n := 1, bits := [], spBits := [], value := none, arm := 0 }

/-- A measurement channel (02, 03). -/
structure Ch where
  input : Word
  cfg0 : Word
  cfg1 : Word
  cfg2 : Word
  cfg3 : Word
  bank : List Word
  chain : Chain
  su : Chain
  str : Stream
  sus : Stream
  det : Detector
  aborts : Nat
  /-- Overloads of the last 8192 MOD cycles, newest first; the integrator clamp; a stuck BSI input. -/
  overs : List Over
  clamp : Bool
  stuck : Bool
  /-- Relief handovers of the last 8192 MOD cycles, newest first: the S1 boundary, whether the relief modulator carried before it, and the trim then in force. -/
  rlf : List (Nat × Bool × Trim)
  /-- The fast path, and the latest crossings, newest first: rising, instant. -/
  fast : Fast
  zc : List (Bool × Nat)
  deriving DecidableEq, Repr, Inhabited

def Ch.zero : Ch :=
  { input := 0, cfg0 := 0x10000008, cfg1 := 0x00400000, cfg2 := 5000, cfg3 := 15624, bank := List.replicate 96 0, chain := Chain.zero,
    su := Chain.zero, str := Stream.zero, sus := Stream.zero, det := Detector.zero, aborts := 0, overs := [],
    clamp := false, stuck := false, rlf := [], fast := Fast.zero, zc := [] }


/-- A cluster and its relief rotation (02 R50 to R57). Instants are MODTICKs. -/
structure Cluster where
  on : Bool
  slot : Nat
  /-- 0 before the slot, 1 self-calibration, 2 take-over comparison, 3 Mj under calibration, 4 return comparison, 5 verification, 6 idle. -/
  phase : Nat
  start : Nat
  /-- Hold-up of the slot so far. -/
  off : Nat
  cmpAt : Nat
  first : Nat
  dirty : Bool
  held60 : Bool
  second : Bool
  skip : Bool
  /-- The chain of a relieved channel stopped; SPk carries on. -/
  parked : Bool
  next : Option Nat
  pausing : Bool
  paused : Bool
  stopped : Bool
  retired : Option Nat
  drift : Bool
  /-- A disturbance is in progress. -/
  dist : Bool
  /-- SPk's measured codes of zero, +L, −L and REFB, until they are judged at 200 ms (02 Table 2.7). -/
  cal : Option (Int × Int × Int × Int)
  /-- Computed trims that may be applied: SPk's, Mj's. -/
  sp : Option (Int × Int)
  mj : Option (Int × Int)
  driftG : Int
  deriving DecidableEq, Repr, Inhabited

def Cluster.zero : Cluster :=
  { on := false, slot := 0, phase := 0, start := 0, off := 0, cmpAt := 0, first := 0, dirty := false, held60 := false, second := false,
    skip := false, parked := false, next := none, pausing := false, paused := false, stopped := false, retired := none, drift := false,
    dist := false, cal := none, sp := none, mj := none, driftG := 0 }

/-- A relay (09 Tables 9.5, 9.6, 9.12). Instants are MODTICKs. -/
structure Relay where
  st : Nat
  fault : Nat
  trigger : Nat
  grace : Nat
  pilotAcc : Nat
  pilotEn : Bool
  polB : Bool
  polA : Bool
  openT : Nat
  closeT : Nat
  /-- Filtered levels of RFAn and RFBn. -/
  a : Bool
  b : Bool
  /-- Command instant, and whether it has come; instant of the coil change; predicted crossing. -/
  cmd : Nat
  cmdDone : Bool
  m : Nat
  cross : Option Nat
  /-- Feedback and voltage conditions of the confirmation met. -/
  fbMet : Bool
  vMet : Bool
  graceAt : Option Nat
  /-- Fault that the open in progress ends in. -/
  faultDue : Nat
  badSince : Option Nat
  pilot : Nat
  pilotBad : Nat
  /-- Pilot periods taken since t0; the first take after a freeze is discarded. -/
  pilotPer : Nat
  pilotSkip : Bool
  reduce : Nat
  closes : Nat
  /-- Coil changes, newest first. -/
  coils : List (Nat × Bool)
  /-- No post-disconnect import has followed the last open yet (R280). -/
  yieldDue : Bool
  /-- The two latest forwarded frames with their status. -/
  frames : List (List Byte × Nat)
  deriving DecidableEq, Repr, Inhabited

/-- A demand engine (08 R248 to R251). -/
structure Demand where
  cfg : Word
  pend : Option (Nat × Word)
  start : Nat
  acc : Nat
  subs : List Nat
  short : Bool
  flags : Nat
  /-- Where the powered part of the running interval began, and its open time in µs in earlier powered spans (R250). -/
  seg : Nat
  ran : Nat
  /-- The value of the last closed interval in mW (R249, R250). -/
  value : Nat
  peaks : List (Nat × Nat)
  deriving DecidableEq, Repr, Inhabited

/-- A session (08 R253 to R255). -/
structure Sess where
  id : Word
  o : Nat
  oBt : Nat
  c : Option (Nat × Nat)
  world : World
  fee : Nat
  energy : Nat
  pd : Nat
  /-- Sums in units of 10⁻¹⁵/256 and 10⁻⁶/240,000,000. -/
  ecost : Nat
  tcost : Nat
  chg : Nat
  idle : Nat
  /-- Blind time in MOD cycles within powered spans and in microseconds across outages. -/
  blindM : Nat
  blindB : Nat
  flags : Nat
  applied : Nat
  single : Nat
  disag : Nat
  regStart : Nat
  bankO : Nat
  /-- End of the last applied cycle: MODTICK in this powered span, and billing time. -/
  lastEnd : Option Nat
  lastBt : Option Nat
  deriving DecidableEq, Repr, Inhabited

/-- A frame with its place in time (08 R236); the power-fail snapshot keeps it as the old span fixed it: stamp, whether the coil was off at its end, and whether it is processed after a restart (08 R243). -/
structure Saved where
  frame : List Byte
  status : Nat
  start : Nat
  stamp : Nat
  endBt : Nat
  pdisc : Bool
  par : Bool
  deriving DecidableEq, Repr, Inhabited

/-- What held before a step of billing time that the point took: its instant, the tariff, the last boundary and the bank (08 R260). -/
structure PreStep where
  m : Nat
  tariff : Nat
  bT : Nat
  bank : List (List Byte)
  deriving DecidableEq, Repr, Inhabited

/-- A metering point's state in BIL (08, 09 Table 9.1). Registers hold value × 256 + residue. -/
structure BPoint where
  lastSeq : Option Nat
  mark : Bool
  /-- By quantity, at the meter then connector-referred: total, then T1 to T8. -/
  regs : List (List Nat)
  pdM : Nat
  pdC : Nat
  applied : Nat
  single : Nat
  disagree : Nat
  dup : Nat
  late : Nat
  jumps : Nat
  lateEv : Nat
  tariff : Nat
  dems : List Demand
  dayFlags : Nat
  perFlags : Nat
  /-- Local date of the last daily snapshot, in days since 2020-01-01. -/
  snapDay : Int
  sess : Option Sess
  lastClose : List Byte
  credit : Int
  warn : Int
  reduce : Int
  exhaust : Int
  reserve : Int
  crgen : Word
  prepay : Bool
  level : Nat
  /-- Last boundary processed. -/
  bT : Nat
  /-- The progress word of a boundary begun and not finished: T and the last step committed (08 R258). -/
  prog : Option (Nat × Nat)
  /-- Steps of billing time not yet taken: instant, from, to. -/
  steps : List (Nat × Nat × Nat)
  /-- The last steps taken, newest first. -/
  preStep : List PreStep
  held : Option Saved
  retryAt : Nat
  /-- A late frame counted for the next record was processed after a restart. -/
  latePar : Bool
  /-- Power-down and power-up time of an outage that waits for the point's saved frames (08 R243, R259). -/
  due : Option (Nat × Nat)
  /-- CGEN of the copy in force (08 R242). -/
  cgen : Nat
  /-- The point has not reached the boundary of the last swap yet. -/
  old : Bool
  deriving DecidableEq, Repr, Inhabited


/-- BIL (08). -/
structure Bil where
  pts : List BPoint
  bank : List (List Byte)
  oldBank : List (List Byte)
  /-- Boundary of the last swap. -/
  swapT : Nat
  shadow : List (Option (List Byte))
  sgen : Word
  swap : Option Nat
  hw : Nat
  minute : Nat
  /-- Snapshot groups that wait for the other points (R252): point, restarted, parts. -/
  snaps : List (Nat × Bool × List (List Byte))
  saved : List Saved
  /-- CGEN of the global state, and whether the snapshot's commit word is written (08 R242, Table 8.4). -/
  cgen : Nat
  snapOk : Bool
  deriving DecidableEq, Repr, Inhabited

def Relay.zero : Relay :=
  { st := 0, fault := 0, trigger := 0, grace := 10, pilotAcc := 0, pilotEn := false, polB := false, polA := false, openT := 15000,
    closeT := 20000, a := false, b := false, cmd := 0, cmdDone := false, m := 0, cross := none, fbMet := false, vMet := false,
    graceAt := none, faultDue := 0, badSince := none, pilot := 0, pilotBad := 0, pilotPer := 0, pilotSkip := false, reduce := 0, closes := 0, coils := [],
    yieldDue := false, frames := [] }

def Demand.zero : Demand :=
  { cfg := 0, pend := none, start := 0, acc := 0, subs := [], short := false, flags := 0, seg := 0, ran := 0, value := 0,
    peaks := List.replicate 9 (0, 0) }

def BPoint.zero : BPoint :=
  { lastSeq := none, mark := false, regs := List.replicate 14 (List.replicate 9 0), pdM := 0, pdC := 0, applied := 0, single := 0,
    disagree := 0, dup := 0, late := 0, jumps := 0, lateEv := 0, tariff := 0, dems := [Demand.zero, Demand.zero],
    dayFlags := 0, perFlags := 0, snapDay := 0, sess := none, lastClose := [], credit := 0, warn := 0, reduce := 0, exhaust := 0,
    reserve := 0, crgen := 0, prepay := false, level := 0, bT := 0, prog := none, steps := [], preStep := [], held := none, retryAt := 0,
    latePar := false, due := none, cgen := 0, old := false }

/-- The factory bank: one season, one day profile with T1 from minute 0, offset 0, prices 0, and the CRC-32C of its blocks in bytes 60 to 63 of block 0 (08 R244, R247; log 17). -/
def factoryBank : List (List Byte) :=
  let z (n : Nat) : List Byte := List.replicate n 0
  [z 4 ++ [34, 0, 0, 1] ++ z 52 ++ [0x44, 0xA1, 0x5F, 0x59], [0, 0, 0, 1] ++ z 60] ++ List.replicate 17 (z 64) ++ [[1, 1, 0, 0, 0, 1, 0, 0] ++ z 56] ++ List.replicate 14 (z 64)

def Bil.zero : Bil :=
  { pts := List.replicate 32 BPoint.zero, bank := factoryBank, oldBank := factoryBank, swapT := 0, shadow := List.replicate 34 none,
    sgen := 0, swap := none, hw := 0, minute := 0, snaps := [], saved := [], cgen := 0, snapOk := false }

/-- A held result frame (07 R202): its lane and the REF count of SYS at which its window opened. -/
structure Held where
  frame : List Byte
  lane : LaneId
  opened : Nat
  deriving DecidableEq, Repr, Inhabited

/-- PAIR's record of a metering point (07 R202, R499). -/
structure PPoint where
  last : Option Nat
  hist : List (Nat × Nat)
  held : Option Held
  mark : Bool
  lastEnd : Nat
  ebbSeq : Option Nat
  floodSeq : Option Nat
  deriving DecidableEq, Repr, Inhabited

/-- PAIR's record of a lane (07 Table 7.1, R206 to R215). -/
structure PLane where
  st : Nat
  inbuf : List (List Byte)
  xbuf : List (List Byte)
  faults : List Nat
  lastMark : Nat
  cause : Nat
  probation : Option Nat
  joinDead : Option Nat
  reload : Bool
  reloadBad : Bool
  reloadAt : Nat
  paired : Word
  ended : List Nat
  aborted : List Nat
  /-- The last pass mark since the lane's release (07 R201, R206). -/
  marked : Option Nat
  /-- SYS count of the lane's last fault (07 R207). -/
  faultAt : Option Nat
  /-- Result frames that LANE_PASS emitted, by bytes 0 to 4, and the MODTICK at which the last input of their cycle became readable (07 R221). -/
  inputAt : List (List Byte × Nat)
  /-- Extension programs that the boot sequencer still has to reload, in slot order (07 R212). -/
  slotsDue : List Nat
  /-- The lane would have entered REBUILDING during the PLL-loss fallback (07 R222). -/
  cold : Bool
  deriving DecidableEq, Repr, Inhabited

/-- A copy of a state segment with the read positions at its mark (07 R213, R217). -/
structure SegCopy where
  lane : LaneId
  mark : Nat
  prog : Prog
  seg : Mem
  pos : List (Option Nat)
  stream : List Nat
  started : Nat
  deriving DecidableEq, Repr, Inhabited

/-- A checkpoint buffer (07 Table 7.5); `good` says that SEGCRC matches. -/
structure Ckpt where
  ckseq : Nat
  copy : Option SegCopy
  good : Bool
  deriving DecidableEq, Repr, Inhabited

/-- An output stop (07 R221). -/
structure Stop where
  longest : Nat
  firstSeq : Nat
  lastSeq : Nat
  deriving DecidableEq, Repr, Inhabited

/-- PAIR (07), with the BIL input buffer (01 R31): forwarded frames and their status. -/
structure Pair where
  pts : List PPoint
  ebb : PLane
  flood : PLane
  active : LaneId
  xtab : List Held
  xdone : List (List Byte)
  disagree : Nat
  single : Nat
  replay : Nat
  xdrop : Nat
  xdisagree : Nat
  maxStop : Nat
  lastFault : Word
  snap : Option SegCopy
  ckCopy : Option SegCopy
  ckBase : Nat
  ck0 : Ckpt
  ck1 : Ckpt
  stop : Option Stop
  bilIn : List (List Byte × Nat)
  /-- The extension or analysis frame last handed to Headland, with its status (07 R205; log 13). -/
  toHead : Option (List Byte × Nat)
  deriving DecidableEq, Repr, Inhabited

def PPoint.zero : PPoint :=
  { last := none, hist := [], held := none, mark := false, lastEnd := 0, ebbSeq := none, floodSeq := none }

def PLane.zero : PLane :=
  { st := 0, inbuf := [], xbuf := [], faults := [], lastMark := 0, cause := 0, probation := none, joinDead := none, reload := false,
    reloadBad := false, reloadAt := 0, paired := 0, ended := [0, 0, 0, 0], aborted := [0, 0, 0, 0], marked := none, faultAt := none,
    inputAt := [], slotsDue := [], cold := false }

def Ckpt.zero : Ckpt := { ckseq := 0, copy := none, good := false }

def Pair.zero : Pair :=
  { pts := List.replicate 32 PPoint.zero, ebb := PLane.zero, flood := PLane.zero, active := .ebb, xtab := [], xdone := [], disagree := 0,
    single := 0, replay := 0, xdrop := 0, xdisagree := 0, maxStop := 0, lastFault := 0, snap := none, ckCopy := none, ckBase := 0,
    ck0 := Ckpt.zero, ck1 := Ckpt.zero, stop := none, bilIn := [], toHead := none }

/-- An AUX pair: accumulator and tracker (13 R374 to R376). -/
structure Pair13 where
  input : Nat
  wen : Bool
  qual : Bool
  lo : Nat
  hi : Nat
  sum : Nat
  count : Nat
  mn : Nat
  mx : Nat
  /-- The last two codes of the input, newest first. -/
  last : List Nat
  /-- RLY's last take: SUM, COUNT, MIN, MAX. -/
  take : Nat × Nat × Nat × Nat
  /-- The number of pilot periods that had ended at that take; 0 for none. -/
  takePer : Nat
  /-- A window of a bound pair that waits for the next pilot period: the words of AUX.WIN. -/
  pend : Option (List Word)
  deriving DecidableEq, Repr, Inhabited

/-- AUX (13). Instants are REF counts. -/
structure Auxc where
  /-- Slots in force: SPAN and INPUT. -/
  seq : List (Nat × Nat)
  pause : Nat
  newSeq : Option (List Word)
  slot : Nat
  turn : Nat
  idleUntil : Nat
  /-- Injected requests: pair and input, oldest first. -/
  inj : List (Nat × Nat)
  lastInj : List (Option Nat)
  pairs : List Pair13
  calRun : Bool
  calTemp : Int
  cals : Nat
  aborts : Nat
  /-- A range fault of a calibration before t0, recorded at t0: its step. -/
  rangeAt : Option Nat
  die : Int
  dieSum : Int
  dieN : Nat
  nextDie : Nat
  batch : Nat
  /-- Per input: sum and number of the batch's conversions, the last value, batches without one. -/
  ins : List (Nat × Nat × Int × Nat)
  /-- Input records in use (words 0 and 1), their GEN, and the pending ones with EFFBATCH (13 R377). -/
  recs : List (Word × Word)
  gen : Nat
  pend : Option (Nat × List (Word × Word))
  /-- Values handed over: batch, then die and XA0 to XA15; newest first. -/
  temps : List (Nat × List Int)
  deriving DecidableEq, Repr, Inhabited

def Pair13.zero (n : Nat) : Pair13 :=
  { input := n, wen := false, qual := false, lo := 0, hi := 0, sum := 0, count := 0, mn := 16383, mx := 0, last := [], take := (0, 0, 16383, 0), takePer := 0,
    pend := none }

/-- AUX after power-up: the reset sequence converts XA0 to XA15 (13 R375, Table 13.2). -/
def Auxc.zero : Auxc :=
  { seq := (List.range 16).map fun i => (0, i), pause := 0, newSeq := none, slot := 0, turn := 0, idleUntil := 0, inj := [],
    lastInj := List.replicate 16 none, pairs := (List.range 16).map Pair13.zero, calRun := false, calTemp := 0, cals := 0, aborts := 0,
    rangeAt := none, die := 0, dieSum := 0, dieN := 0, nextDie := 0, batch := 0, ins := List.replicate 16 (0, 0, -32768, 8),
    recs := List.replicate 16 (0, 0), gen := 0, pend := none, temps := [] }

/-- A queued region update (15 R426 to R429). -/
structure DEntry where
  world : World
  /-- Address of the record, which names the posted operation. -/
  addr : Nat
  x0 : Nat
  y0 : Nat
  x1 : Nat
  y1 : Nat
  what : Nat
  src : Word
  bsrc : Word
  rows : Nat
  /-- 0 waiting, 1 running, 2 suspended. -/
  st : Nat
  /-- It stops at the next boundary with this outcome. -/
  stop : Option Nat
  frame : Nat
  deriving DecidableEq, Repr, Inhabited

/-- DPY (15). The frame memory, the blink memory and the charge accounts (two bytes each) are memories. -/
structure Dpy where
  cfg1 : Word
  cfg2 : Word
  cfg3 : Word
  cfgDone : Bool
  lockDone : Bool
  lock : Word
  fm : Mem
  bm : Mem
  acc : Mem
  gamma : List Nat
  shadow : List (Option (List Nat))
  gsgen : Nat
  gswap : Bool
  /-- PERIOD, ON and OFFSET of each group, and those of the next frame. -/
  blink : List (Nat × Nat × Nat)
  blinkNew : List (Nat × Nat × Nat)
  /-- Rows are being scanned; the row time in progress (32 between frames); its end in 1/75 MOD cycle. -/
  scan : Bool
  row : Nat
  at' : Nat
  frames : Nat
  bal : Bool
  balNow : Bool
  q : List DEntry
  cuts : Nat
  doneN : Nat
  /-- Dark until the restart that follows a warning. -/
  dark : Bool
  /-- KEY.ATTEST waits for the next frame start, and what it then read. -/
  attWait : Bool
  attRead : Option Mem
  deriving DecidableEq, Repr, Inhabited

def Dpy.zero : Dpy :=
  { cfg1 := 0x043F0062, cfg2 := 0x00646464, cfg3 := 0x00401000, cfgDone := false, lockDone := false, lock := 0x9F007F00, fm := [], bm := [], acc := [],
    gamma := (List.range 768).map fun i => i % 256 * 1023 / 255, shadow := List.replicate 48 none, gsgen := 0, gswap := false,
    blink := List.replicate 4 (1, 1, 0), blinkNew := List.replicate 4 (1, 1, 0), scan := false, row := 32, at' := 0, frames := 0, bal := false,
    balNow := false, q := [], cuts := 0, doneN := 0, dark := false, attWait := false, attRead := none }

/-- The tone map of a link on which the node sends (14 R389): in force, and the one that the next frame brings. -/
structure Tone where
  tmid : Nat
  rate : Nat
  codes : List Byte
  next : Option (Nat × List Byte)
  fails : Nat
  stale : Bool
  /-- As receiver of the link: instant of the last report and the capacity reported. -/
  repAt : Option Nat
  repCap : Nat
  deriving DecidableEq, Repr, Inhabited

/-- What the node holds of another node (14 R392, R394, R404, R409). -/
structure Nbr where
  node : Nat
  uid : List Byte
  jn : List Byte
  /-- The last four JNONCEs replaced. -/
  old : List (List Byte)
  hi : Option Nat
  seen : List Nat
  crank : Nat
  trk : Bool
  pmap : List Byte
  flags : Nat
  heard : Nat
  heardBpi : Nat
  snrT : Nat
  snrP : Nat
  /-- The phase coupling of the last frame with the highest weight; 0 none. Whether the last frame came over the trunk. -/
  best : Nat
  viaTrk : Bool
  /-- The last 32 LSEQs accepted, and the next LSEQ to use. -/
  seqs : List Nat
  lseq : Nat
  ph : Tone
  tk : Tone
  deriving DecidableEq, Repr, Inhabited

/-- A frame that waits to be sent or acknowledged (14 R398, R399, R405). -/
structure SOut where
  dest : Nat
  typ : Nat
  payload : List Byte
  world : Option World
  lseq : Nat
  born : Nat
  atP : Nat
  atT : Nat
  acked : Nat
  /-- Symbol times drawn, and the instant of the draw. -/
  draw : Option (Nat × Nat)
  deriving DecidableEq, Repr, Inhabited

/-- The last beacon, heard or sent (14 Table 14.5): its region's start in 1/256 MOD cycle. -/
structure Bcn where
  coord : Nat
  backup : Nat
  flags : Nat
  bpi : Nat
  epoch : Nat
  crank : Nat
  period : Nat
  start : Nat
  members : Nat
  deriving DecidableEq, Repr, Inhabited

/-- Classification of a voltage channel (14 R408, R409): candidate sector and its run, sector in force, beacons without one, θ as a fraction. -/
structure SClass where
  cand : Nat
  run : Nat
  cur : Option Nat
  lost : Nat
  th : Nat
  p : Nat
  deriving DecidableEq, Repr, Inhabited

/-- A received frame in a queue (14 R406). -/
structure SMsg where
  src : Nat
  lseq : Nat
  trk : Bool
  robust : Bool
  data : List Byte
  deriving DecidableEq, Repr, Inhabited

/-- SIT (14). -/
structure Sit where
  st : Nat
  cfg : List Word
  /-- The next beacon's MEMBERS decides whether the node is still a member. -/
  resume : Bool
  jn : List Byte
  txctr : Nat
  mask : List Byte
  shadow : List (Option (List Byte))
  sgen : Nat
  swap : Bool
  bcn : Option Bcn
  /-- Since when no beacon has been heard. -/
  since : Nat
  trkBpi : Option Nat
  phBpi : Option Nat
  members : Nat
  nbrs : List Nbr
  q : List SOut
  /-- Object requests sent: node, REQID, world. -/
  reqs : List (Nat × Nat × World)
  legalQ : List SMsg
  openQ : List SMsg
  objL : List SMsg
  objO : List SMsg
  /-- A LEGAL copy accepted: source, LSEQ, over the trunk, end of its slot. -/
  twin : Option (Nat × Nat × Bool × Nat)
  /-- The frame that waits for its ACK: destination, LSEQ, trunk, deadline. -/
  flight : Option (Nat × Nat × Bool × Nat)
  twinMiss : Nat
  retries : Nat
  fcsFail : Nat
  limitN : Nat
  limit : Bool
  replay : Nat
  dropQ : Nat
  deltas : List Int
  medAt : Nat
  cls : List SClass
  joinAt : Nat
  phaseBpi : Nat
  memUntil : Option Nat
  /-- Coordinator: reference instant of the last beacon, and whether its reference is the site's. -/
  zref : Nat
  zok : Bool
  lastSlot : Nat
  /-- Frames that the last sending step put on the wire: coupling (0 TRK, 1 to 3) and bytes. -/
  air : List (Nat × List Byte)
  deriving DecidableEq, Repr, Inhabited

def Tone.zero : Tone := { tmid := 0, rate := 0, codes := [], next := none, fails := 0, stale := false, repAt := none, repCap := 0 }

def Nbr.zero (n : Nat) : Nbr :=
  { node := n, uid := [], jn := [], old := [], hi := none, seen := [], crank := 0, trk := false, pmap := List.replicate 16 0, flags := 0, heard := 0,
    heardBpi := 0, snrT := 0, snrP := 0, best := 0, viaTrk := false, seqs := [], lseq := 0, ph := Tone.zero, tk := Tone.zero }

def SClass.zero : SClass := { cand := 0, run := 0, cur := none, lost := 0, th := 0, p := 0 }

def Sit.zero : Sit :=
  { st := 0, cfg := [0, 0, 0, 0], resume := false, jn := [], txctr := 0, mask := List.replicate 355 0xAA, shadow := List.replicate 12 none, sgen := 0,
    swap := false, bcn := none, since := 0, trkBpi := none, phBpi := none, members := 0, nbrs := [], q := [], reqs := [], legalQ := [], openQ := [],
    objL := [], objO := [], twin := none, flight := none, twinMiss := 0, retries := 0, fcsFail := 0, limitN := 0, limit := false, replay := 0,
    dropQ := 0, deltas := [], medAt := 0, cls := List.replicate 64 SClass.zero, joinAt := 0, phaseBpi := 0, memUntil := none, zref := 0, zok := false,
    lastSlot := 0, air := [] }

/-- The whole part. The last two fields are the model's own: the counter of free values (log 1) and the waiting commands. -/
structure State where
  fuse : Fuse
  clk : Clk
  bk : Backup
  ebb : Lane
  flood : Lane
  legal : WorldSt
  opn : WorldSt
  hl : Headland
  mram : Mem
  /-- MRAM stores that a power failure may still lose, oldest first (04 R108). -/
  unfenced : List Unfenced
  chs : List Ch
  clus : List Cluster
  bsclk : List Bool
  pair : Pair
  defs : List (List Word)
  /-- BIL.MPCFG operations accepted for each point (06 R499). -/
  defCount : List Nat
  tim : Tim
  bil : Bil
  rly : List Relay
  grant : Bool
  ldg : Ldg
  obj : Obj
  key : Key
  tmp : Tmp
  aux : Auxc
  hst : List HPort
  pls : List Pulse
  dpy : Dpy
  sit : Sit
  posts : List Posted
  free : Nat
  pending : List Instr
  deriving DecidableEq, Repr

/-- g1 to g31 and pc at 0 (log 2). -/
def Bank.zero : Bank := { g := List.replicate 32 0, pc := 0 }

/-- Vector registers and accumulators at 0 (05 R141). -/
def Vec.zero : Vec := { v := List.replicate 16 (List.replicate 8 0), a := List.replicate 4 (List.replicate 8 0) }

/-- Core state words at their reset values (04 Table 4.1). -/
def Ctl.zero : Ctl :=
  { cause := 0, epc := 0, eaddr := 0, evec := 0, active := false, inGate := false, eccCorr := 0, evpend := 0, evmask := 0,
    cycles := 0, cycleHi := 0 }

/-- The latches at their reset values (16 Table 16.7). -/
def Ledge.zero : Ledge :=
  { valid := 0x4C454447, lflags := 0, pupcnt := 0, pdBt := 0, pdRtc := 0, rtctrim := 0, cellRtc := 0 }

def Slot.zero : Slot := { present := false, disabled := false, entry := 0, budget := 0, lastStart := -4000, fails := 0 }

def LPoint.zero : LPoint :=
  { seq := 0, acc := [0, 0, 0, 0, 0], bands := List.replicate 8 255, trk := [], filt := none, armed := false, start := none, openX := none,
    closeAt := none, first := true, lastBands := [], vloadOn := false, cold := true, mx := List.replicate 8 0, mw := List.replicate 8 0,
    rw := List.replicate 8 0, rx := List.replicate 8 0, latest := [] }

def AWin.zero : AWin := { idx := 0, start := none, cycles := 0, flags := 0, xs := [], due := [] }

def SWin.zero : SWin := { idx := 0, tf := none, next := 0, win := none, seg := [], segs := 0, sums := [], flags := 0, due := [] }

/-- The reference program at a cold start (06 R180). -/
def Prog.zero : Prog :=
  { use := none, pend := none, old := none, useFrom := 0, defSeen := [], late := [], batch := 0, pts := List.replicate 32 LPoint.zero, wins := List.replicate 128 AWin.zero,
    swins := List.replicate 128 SWin.zero, chBand := List.replicate 128 255, runs := List.replicate 128 [], ph := List.replicate 128 (0, 0),
    catchUp := false, drops := 0 }

def Lane.zero : Lane :=
  { bank := Bank.zero, vec := Vec.zero, slotBank := Bank.zero, slotVec := Vec.zero, ctl := Ctl.zero, running := false,
    slots := List.replicate 4 Slot.zero, run := none, stall := .none, imem := [], dmem := [], errs := [], entry := 0,
    prog := Prog.zero }

def WorldSt.zero (wd : Nat) : WorldSt :=
  { bank := Bank.zero, ctl := Ctl.zero, released := false, waiting := false, wdogPeriod := wd, wdogCount := 0, entry := 0 }

def Assoc.zero : Assoc := { role := 0, mp := 0, sessid := 0, last := 0, nonce := none, node := 0 }

def SlotRec.zero : SlotRec :=
  { st := 0, bank := false, vol := false, gen := 0, pend := false, pendGen := 0, attr0 := 0, attr1 := 0, link0 := 0x7F,
    link1 := 0x7F, pub0 := List.replicate 64 0, pub1 := List.replicate 64 0 }

/-- A monitor with the reset configuration of 12 Tables 12.1 and 12.3. -/
def Monitor.zero (f1 f2 lo hi input : Nat) : Monitor :=
  { cfg := BitVec.ofNat 32 (0x9000000A + f2 * 0x10000 + f1 * 0x100), limits := BitVec.ofNat 32 (hi * 0x10000 + lo), input := input,
    st := 0, resp := 0, d1 := false, d2 := false, n1 := 0, n2 := 0, dis := false, disSince := none, cfgDone := false, reason := 0,
    start := 0, v1 := 0, v2 := 0, alarms := 0, disagrees := 0, lastSample := 0 }

def HPort.zero : HPort :=
  { txSeq := 0, rxSeq := none, unacked := [], events := [], boots := [], objs := [], msgs := [], frames := [], inbox := [],
    hostCredit := 0, lastCredit := 8, nak := false, rep := none, idleTx := 0, sub := 0, subExt := false, synced := false,
    resetOut := false, crcErr := 0, retx := 0, overrun := 0, strDrop := 0, evLost := 0, trunc := 0, part := [], sent := [] }

def Pulse.zero : Pulse :=
  { src := 0, mp := 0, qty := 0, basis := false, k := 0, pol := false, width := 40, count := 0, acc := 0, backlog := 0, spacing := 0,
    lastStart := -1099511627776, lastEnd := -1099511627776, level := false, overrate := false, runDone := false, run := false, stopping := false, pulses := 0,
    started := 0 }

/-- The image key of State.reset: a published key pair's public part, since the spec does not state the Gwyndex key (log 4). -/
def resetImageKey : List Byte :=
  [0x60, 0xfe, 0xd4, 0xba, 0x25, 0x5a, 0x9d, 0x31, 0xc9, 0x61, 0xeb, 0x74, 0xc6, 0x35, 0x6d, 0x68] ++
    [0xc0, 0x49, 0xb8, 0x92, 0x3b, 0x61, 0xfa, 0x6c, 0xe6, 0x69, 0x62, 0x2e, 0x60, 0xf2, 0x9f, 0xb6] ++
    [0x79, 0x3, 0xfe, 0x10, 0x8, 0xb8, 0xbc, 0x99, 0xa4, 0x1a, 0xe9, 0xe9, 0x56, 0x28, 0xbc, 0x64] ++
    [0xf2, 0xf1, 0xb2, 0xc, 0x2d, 0x7e, 0x9f, 0x51, 0x77, 0xa3, 0xc2, 0x94, 0xd4, 0x46, 0x22, 0x99]

def Fuse.zero : Fuse :=
  { variant := .fa, uidLo := 1, uidHi := 0, stepMajor := 1, stepMinor := 0,
    root := (List.range 32).map fun i => BitVec.ofNat 8 (i + 1), rootChk := [0xae, 0x21, 0x6c, 0x2e], gwyndex := resetImageKey, lc := List.replicate 10 0 }

def Clk.zero : Clk :=
  { powered := true, vio33 := true, ref := 0, refStable := none, t0 := none, modRun := false, modPhase := 0, modtick := 0,
    sys := 0, sysRef := 0, mode := 1, prevMode := 0, refOk := false, dbg := false, pfw := none, slackPin := false,
    slackArmed := false, fallback := none, lock := false, redmask := 0, reducedSpans := [], reduceTo := none, pllLoss := 0, grants := 0, refused := 0,
    modechg := 0, fbRef := 0, losses := [], holdoff := none, freeze := none, freezeEnd := none, bootStage := 0, bootEntry := 0xFF,
    bootReason := 0, tmpChecked := false, refLost := false, tap := 0xFE }

def Backup.zero : Backup :=
  { rtc := 0, frac := 0, phase := 0, trims := 0, ledge := Ledge.zero, found := Ledge.zero, rtcLost := false, vbak := true }

def Headland.zero : Headland :=
  { imem := [], dmem := [], errs := [], gateBase := 0, gateN := 0, restarts := 0, loaded := false, run := false,
    callseq := 0, restarting := false, grantLost := false,
    measures := List.replicate 7 none }

def Tim.zero : Tim :=
  { segs := [{ m0 := 0, b0 := 0, r := 0 }], beacons := false, locked := false, unset := false, slew := 0, slewSum := 0, slewNet := 0,
    rtcOff := 0, lastBeacon := none, lastDisc := 0 }

def Ldg.zero : Ldg :=
  { recs := [], flash := [], next := 0, chain := [], lastCkpt := 0, since := 0, dropped := List.replicate 8 0, gapDue := false,
    capacity := 0, sizeCode := 0, dtr := false, jedec := 0, setIn := none, fault := false, nodev := false, fullSeen := false,
    device := some 1, prog := none, tries := 0, retryAt := none, subTick := 0, subSeq := 0 }

def Obj.zero : Obj :=
  { ports := List.replicate 3 Assoc.zero, site := [], fails := List.replicate 4 0, lockEnd := List.replicate 4 0, legalQ := [],
    openQ := [], taken := [], handle := 0, acl := [], keySlots := List.replicate 5 0xFF, aclImage := [], aclGen := 0, authFail := 0,
    abandoned := 0, siteOut := [] }

def Key.zero : Key :=
  { recs := List.replicate 64 SlotRec.zero, cache := List.replicate 64 none, pendKeys := List.replicate 64 none,
    ks := List.replicate 4 none, test := false, shadow := 0, misread := 0, scuttle := 0, lastLc := 0, erases := 0,
    entropyFail := false, period := 1000, drbgOk := false, requests := 0, reseedAt := 0, restartAt := 0,
    remaskAt := 0, mask := 0, tampPend := false }

def Tmp.zero : Tmp :=
  { mons := [Monitor.zero 8 8 720 880 0, Monitor.zero 1 1 0 0 0, Monitor.zero 2 2 0 0 0, Monitor.zero 1 1 0 0 0,
      Monitor.zero 4 4 15934 1300 0, Monitor.zero 2 2 0 0 0, Monitor.zero 2 2 0 0 0, Monitor.zero 4 50 2048 12288 15,
      Monitor.zero 4 4 0 12288 14, Monitor.zero 1 1 0 0 0],
    mark := false, logpress := false, collapsed := 0, ring := [], staging := [], next := 0, handed := 0, sealedTo := 0, press := none,
    notes := [], eraseWait := none, lastRef := 0, lastSub := 0 }

/-- Cells from an address, zero bytes left out. -/
def cellsAt (a : Nat) (bs : List Byte) : Mem := (bs.mapIdx fun i b => (a + i, b)).filter fun c => c.2 != 0

/-- MRAM as it leaves reset: the reset values of 02 Table 2.3, 03 Table 3.5 and 06 Tables 6.1, 6.3 and 6.7; 0 elsewhere (log 4). -/
def resetMram : Mem :=
  (List.range 128).flatMap (fun n => cellsAt (0x10000 + 512 * n) ([0, if n < 96 then 0 else 3, 0, 0] ++ [8, 0, 0, 0x10, 0, 0, 0x40, 0, 0x88, 0x13, 0, 0, 8, 0x3D, 0, 0])) ++
    (List.range 128).flatMap (fun n => [(0x30043 + 16 * n, 0x40), (0x30048 + 16 * n, 0xFF)]) ++
    (List.range 32).flatMap (fun mp => cellsAt (0x35C40 + 32 * mp) [0xFF, 0, 0, 0, 0x5A, 0x0F, 0x28, 0x23]) ++
    (List.range 32).flatMap fun mp => cellsAt (0x36048 + 48 * mp) (List.replicate 8 0xFF)

/-- The part right after reset: supplies up, STARTUP, no clock but RTC running yet, no image installed (16 R443; log 4). -/
def State.reset : State where
  fuse := Fuse.zero
  clk := Clk.zero
  bk := Backup.zero
  ebb := Lane.zero
  flood := Lane.zero
  legal := WorldSt.zero 1465
  opn := WorldSt.zero 0
  hl := Headland.zero
  mram := resetMram
  unfenced := []
  chs := (List.range 128).map fun i => { Ch.zero with input := if i < 96 then 0 else 0x300 }
  clus := List.replicate 8 Cluster.zero
  bsclk := List.replicate 4 false
  pair := Pair.zero
  defs := List.replicate 32 [0, 0xFFFFFFFF, 0xFFFFFFFF, 0, 0]
  defCount := List.replicate 32 0
  tim := Tim.zero
  bil := Bil.zero
  rly := List.replicate 32 Relay.zero
  grant := false
  ldg := Ldg.zero
  obj := Obj.zero
  key := Key.zero
  tmp := Tmp.zero
  aux := Auxc.zero
  hst := List.replicate 3 HPort.zero
  pls := List.replicate 8 Pulse.zero
  dpy := Dpy.zero
  sit := Sit.zero
  posts := []
  free := 0
  pending := []

end Sys2Proof.Machine
end

