-- ==== Sys2Proof/Machine/Ops.lean ====
section
/-! DEFINITION. Bit fields, serial numbers, memories, time, lifecycle and the other operations that every unit shares. -/

namespace Sys2Proof.Machine

/-- Bits [hi:lo] of a word. -/
def bits (x : Word) (hi lo : Nat) : Nat := (x.toNat >>> lo) % 2 ^ (hi + 1 - lo)

/-- Bits [hi:lo] of a number. -/
def nbits (x hi lo : Nat) : Nat := (x >>> lo) % 2 ^ (hi + 1 - lo)

def w32 (n : Nat) : Word := BitVec.ofNat 32 n

/-- A signed number in one word. -/
def i32 (n : Int) : Word := BitVec.ofInt 32 n

def b2n (b : Bool) : Nat := if b then 1 else 0

/-- A signed number of `k` bits. -/
def sext (k n : Nat) : Int := (BitVec.ofNat k n).toInt

/-- A signed number as an unsigned one of `k` bits. -/
def unsext (k : Nat) (n : Int) : Nat := (BitVec.ofInt k n).toNat

/-- A count that saturates at `m`. -/
def sat (m n : Nat) : Nat := min m n

/-- 00 R8: `a` is later than `b` for sequence numbers of `w` bits. -/
def later (w a b : Nat) : Bool :=
  let d := (a + 2 ^ w - b % 2 ^ w) % 2 ^ w
  decide (0 < d) && decide (d < 2 ^ (w - 1))

/-- First element that satisfies `p`, with its place. -/
def findAt (p : α → Bool) : List α → Nat → Option (Nat × α)
  | [], _ => none
  | x :: t, i => if p x then some (i, x) else findAt p t (i + 1)

/-- `l` without its element at place `i`. -/
def dropAt (l : List α) (i : Nat) : List α := l.take i ++ l.drop (i + 1)

/-- The byte at `a`; an unlisted byte reads 0 (log 3). -/
def Mem.read : Mem → Nat → Byte
  | [], _ => 0
  | (k, v) :: t, a => if k = a then v else if a < k then 0 else Mem.read t a

/-- Write one byte, keeping the list in rising order and free of zeros. -/
def Mem.write : Mem → Nat → Byte → Mem
  | [], a, b => if b = 0 then [] else [(a, b)]
  | (k, v) :: t, a, b =>
    if a < k then (if b = 0 then (k, v) :: t else (a, b) :: (k, v) :: t)
    else if a = k then (if b = 0 then t else (a, b) :: t)
    else (k, v) :: Mem.write t a b

/-- `n` bytes from `a`. -/
def Mem.readN (m : Mem) (a : Nat) : Nat → Bytes
  | 0 => []
  | n + 1 => Mem.read m a :: Mem.readN m (a + 1) n

/-- Write bytes from `a` upward. -/
def Mem.writeN (m : Mem) (a : Nat) : Bytes → Mem
  | [] => m
  | b :: t => Mem.writeN (Mem.write m a b) (a + 1) t

/-- Canonical form from `lo` upward: rising addresses and no zero byte. -/
def Mem.wfFrom : Nat → Mem → Bool
  | _, [] => true
  | lo, (k, v) :: t => decide (lo ≤ k) && (v != 0) && Mem.wfFrom (k + 1) t

/-- The canonical form of a memory. -/
def Mem.wf (m : Mem) : Bool := Mem.wfFrom 0 m

/-- A 32-bit word of a memory. -/
def Mem.word (m : Mem) (a : Nat) : Word := w32 (unle (Mem.readN m a 4))

/-- The next free value's number, and the state that has used it (log 1). -/
def State.used (s : State) : State := { s with free := s.free + 1 }

/-- Next number of the DRBG's output (11 R341): `n` bytes. -/
def drbg (s : State) (n : Nat) : Bytes := (List.range n).map (Config.drbgByte s.free)

/-- Units present under 00 Table 0.2. -/
def Variant.dpy (v : Variant) : Bool := v == .fa || v == .fs
def Variant.sit (v : Variant) : Bool := v == .fa || v == .fd
def Variant.surge (v : Variant) : Bool := v != .fm

/-- 01 Table 1.1: a unit's code. -/
def unitCode (u : UnitId) : Nat :=
  match u with
  | .cap => 0 | .chn => 1 | .aux => 2 | .pair => 3 | .bil => 4 | .rly => 5 | .ldg => 6 | .obj => 7 | .key => 8
  | .tmp => 9 | .sit => 10 | .dpy => 11 | .clk => 12 | .hst => 13 | .pls => 14 | .tim => 15

/-- 00 R3: the ordering option leaves the unit out. -/
def absentUnit (s : State) (u : UnitId) : Bool :=
  match u with
  | .dpy => !s.fuse.variant.dpy
  | .sit => !s.fuse.variant.sit
  | _ => false

/-- A logical lifecycle fuse reads blown with two of its three physical fuses blown (11 R317). -/
def lcBit (f : Fuse) (i : Nat) : Bool := decide (2 ≤ f.lc.getD i 0)

/-- LCFUSE as the fuses read (11 Table 11.1). -/
def lcFuse (f : Fuse) : Nat := ((List.range 10).map fun i => b2n (lcBit f i) * 2 ^ i).foldl (· + ·) 0

/-- Bits [7:0] are a run of blown fuses from bit 0, and its length. -/
def lcRun (n : Nat) : Option Nat := (List.range 9).find? fun k => 2 ^ k - 1 == n % 256

/-- 11 R317: the state code of a lifecycle fuse word. -/
def lcDecode (scuttled : Bool) (n : Nat) : Nat :=
  if n.testBit 9 then 6
  else if n.testBit 8 || scuttled then 5
  else match lcRun n with
    | none => 5
    | some 0 => 1
    | some 1 => 2
    | some k => if k % 2 == 0 then 3 else 4

/-- The lifecycle state code in force: 1 MAKER to 6 RETIRED, from the fuse shadow (11 R316). -/
def lcState (s : State) : Nat := lcDecode (s.key.scuttle != 0) s.key.shadow

/-- 11 Table 11.5. -/
def lcDomain (st : Nat) : Nat :=
  match st with
  | 1 => 0x01
  | 5 => 0x05
  | 6 => 0x06
  | _ => 0x02

/-- MODTICK. -/
def now (s : State) : Nat := s.clk.modtick

/-- REF cycles of `n` µs. -/
def usRef (n : Nat) : Nat := 24 * n

/-- MODTICK of `n` ms. -/
def msTick (n : Nat) : Nat := 4000 * n

/-- The segment in force at MODTICK `m`. -/
def segAt (l : List Seg) (m : Nat) : Seg :=
  match l with
  | [] => { m0 := 0, b0 := 0, r := 0 }
  | [x] => x
  | x :: t => if x.m0 ≤ m then x else segAt t m

/-- 08 R230: billing time of MODTICK `m`. -/
def btAt (s : State) (m : Nat) : Nat :=
  let g := segAt s.tim.segs m
  g.b0 + (m - g.m0) * (1000000 + g.r).toNat / 4000000

/-- Billing time now. -/
def btNow (s : State) : Nat := btAt s (now s)

/-- The MODTICK at which billing time reaches `t`, on the segment in force. -/
def btTick (s : State) (t : Nat) : Nat :=
  let g := segAt s.tim.segs (now s)
  let r := (1000000 + g.r).toNat
  g.m0 + ((t - g.b0) * 4000000 + r - 1) / r

/-- Set an event bit of a world (04 R122). -/
def raiseEv (s : State) (w : World) (n : Nat) : State :=
  match w with
  | .legal => { s with legal := { s.legal with ctl := { s.legal.ctl with evpend := s.legal.ctl.evpend ||| BitVec.ofNat 32 (2 ^ n) } } }
  | .opn => { s with opn := { s.opn with ctl := { s.opn.ctl with evpend := s.opn.ctl.evpend ||| BitVec.ofNat 32 (2 ^ n) } } }

/-- A unit's event bit to a world; an absent unit raises none (05 R161). -/
def unitEv (s : State) (w : World) (u : UnitId) : State := if absentUnit s u then s else raiseEv s w (unitCode u)

/-- A part of the state under a SLACK freeze: SYS, MOD and the lanes stand still (16 R450). -/
def frozen (s : State) : Bool := s.clk.freeze.isSome

/-- The part runs from t0 on and no reset or warning-end holds it. -/
def alive (s : State) : Bool := s.clk.powered && s.clk.t0.isSome && !frozen s

/-- The outcome of a posted operation becomes known: the oldest live one without outcome that `p` selects (05 R156). -/
def settle (s : State) (p : Posted → Bool) (out : Nat) (res : List (Nat × Word)) : State :=
  match findAt (fun q => q.outcome.isNone && p q) s.posts 0 with
  | none => s
  | some (i, _) => { s with posts := s.posts.modify i fun q => { q with outcome := some out, results := res } }

/-- Settle every operation that `p` selects. -/
def settleAll (s : State) (p : Posted → Bool) (out : Nat) : State :=
  { s with posts := s.posts.map fun q => if q.outcome.isNone && p q then { q with outcome := some out } else q }

end Sys2Proof.Machine
end

