-- ==== Sys2Proof/Machine/Calendar.lean ====
section
/-! DEFINITION. The calendar and the tariff bank: dates, seasons, tariffs, prices, completeness (08 R244 to R247). -/

namespace Sys2Proof.Machine

/-- Leap days before year `y`. -/
def leapsBefore (y : Int) : Int := (y - 1) / 4 - (y - 1) / 100 + (y - 1) / 400

/-- Days from 2020-01-01 to the first day of a year. -/
def yearStart (y : Int) : Int := 365 * (y - 2020) + leapsBefore y - leapsBefore 2020

def monthLen (y : Int) (m : Nat) : Nat :=
  if m = 2 then (if yearStart (y + 1) - yearStart y = 366 then 29 else 28)
  else if m = 4 || m = 6 || m = 9 || m = 11 then 30 else 31

def monthStart (y : Int) (m : Nat) : Nat := (List.range (m - 1)).foldl (fun n k => n + monthLen y (k + 1)) 0

/-- The day number of a date. -/
def dayNo (y : Int) (m d : Nat) : Int := yearStart y + monthStart y m + d - 1

def yearOf (day : Int) : Int :=
  let y := 2020 + day * 400 / 146097
  if yearStart (y + 1) ≤ day then y + 1 else if yearStart y ≤ day then y else y - 1

/-- Month and day of month of a day number. -/
def monthDay (day : Int) : Nat × Nat :=
  let y := yearOf day
  let r := (day - yearStart y).toNat
  let m := ((List.range 12).filter fun k => decide (monthStart y (k + 1) ≤ r)).length
  (m, r - monthStart y m + 1)

/-- Monday is 0; 2020-01-01 was a Wednesday. -/
def weekday (day : Int) : Nat := ((day + 2) % 7).toNat

/-- Field of `n` bytes at an offset of a block. -/
def bkFld (b : List Bytes) (blk off n : Nat) : Nat := fld off n (b.getD blk [])

def bankId (b : List Bytes) : Nat := bkFld b 0 0 4
def bankBp (b : List Bytes) : Nat := bkFld b 0 6 1

/-- Bytes of a run of blocks. -/
def bkSpan (b : List Bytes) (lo n : Nat) : Bytes := ((List.range n).map fun i => fit 64 (b.getD (lo + i) [])).flatten

/-- A season (08 Table 8.6). -/
structure Season where
  month : Nat
  day : Nat
  minute : Nat
  week : Nat
  offset : Int
  deriving DecidableEq, Repr, Inhabited

def seasonKey (x : Season) : Nat := (x.month * 32 + x.day) * 1440 + x.minute

/-- Put a season in its place in the year. -/
def insertSeason (x : Season) : List Season → List Season
  | [] => [x]
  | y :: t => if seasonKey x < seasonKey y then x :: y :: t else y :: insertSeason x t

/-- The valid seasons in the order of the year. -/
def seasons (b : List Bytes) : List Season :=
  let f := bkSpan b 19 2
  (List.range 12).foldl (fun l i =>
    let e := slice (8 * i) 8 f
    if fld 5 1 e = 1 then
      insertSeason { month := fld 0 1 e, day := fld 1 1 e, minute := fld 2 2 e, week := fld 4 1 e, offset := sext 16 (fld 6 2 e) } l
    else l) []

/-- The season in force at billing minute `t` (R245): starts lie in the local time of the outgoing season. -/
def seasonAt (b : List Bytes) (t : Int) : Season :=
  let ss := seasons b
  let y := yearOf (t / 1440)
  let starts := ss.mapIdx fun i x =>
    let o := (ss.getD ((i + ss.length - 1) % ss.length) x).offset
    ([y - 1, y, y + 1].map fun v => dayNo v x.month x.day * 1440 + x.minute - o, x)
  let best := starts.foldl (fun (a : Option (Int × Season)) c =>
    c.1.foldl (fun a v => if v ≤ t && (match a with | none => true | some (w, _) => decide (w ≤ v)) then some (v, c.2) else a) a) none
  match best with | some (_, x) => x | none => default

/-- Local minutes of a billing time. -/
def localMin (b : List Bytes) (bt : Nat) : Int := bt / 60000000 + (seasonAt b (bt / 60000000)).offset

/-- Local date of a billing time as a day number. -/
def localDay (b : List Bytes) (bt : Nat) : Int := localMin b bt / 1440

/-- Seconds since local midnight, in µs. -/
def localUs (b : List Bytes) (bt : Nat) : Nat := (localMin b bt % 1440).toNat * 60000000 + bt % 60000000

/-- The special day that matches a date, if any: a given year before every year, then the lowest index (R245). -/
def specialDay (b : List Bytes) (day : Int) : Option Nat :=
  let f := bkSpan b 21 8
  let md := monthDay day
  let es := (List.range 64).map fun i => slice (8 * i) 8 f
  let ok (y : Nat) (e : Bytes) : Bool := fld 5 1 e == 1 && fld 0 2 e == y && fld 2 1 e == md.1 && fld 3 1 e == md.2
  match es.find? (ok (yearOf day).toNat) with
  | some e => some (fld 4 1 e)
  | none => (es.find? (ok 0xFFFF)).map (fld 4 1)

/-- The tariff in force at a billing time (R245), 0 for T1. -/
def tariffAt (b : List Bytes) (bt : Nat) : Nat :=
  let m := localMin b bt
  let day := m / 1440
  let se := seasonAt b (bt / 60000000)
  let p := match specialDay b day with
    | some p => p
    | none => fld (8 * se.week + weekday day) 1 (bkSpan b 17 2)
  let pts := ((List.range 16).map fun i => slice (4 * i) 4 (b.getD (1 + p) [])).filter fun e =>
    fld 3 1 e == 1 && decide ((fld 0 2 e % 2048 : Int) ≤ m % 1440)
  (pts.foldl (fun (a : Nat × Nat) e => if a.1 ≤ fld 0 2 e % 2048 then (fld 0 2 e % 2048, fld 2 1 e % 8) else a) (0, 0)).2

/-- Block of a point's price table. -/
def priceBlk (b : List Bytes) (mp : Nat) : Nat := 29 + bkFld b 33 mp 1 % 4
def ePrice (b : List Bytes) (mp t : Nat) : Nat := bkFld b (priceBlk b mp) (4 * t) 4
def tpChg (b : List Bytes) (mp : Nat) : Nat := bkFld b (priceBlk b mp) 32 4
def tpIdle (b : List Bytes) (mp : Nat) : Nat := bkFld b (priceBlk b mp) 36 4
def priceFee (b : List Bytes) (mp : Nat) : Nat := bkFld b (priceBlk b mp) 40 4
def priceCur (b : List Bytes) (mp : Nat) : Nat := bkFld b (priceBlk b mp) 44 2
def priceMinor (b : List Bytes) (mp : Nat) : Nat := bkFld b (priceBlk b mp) 46 1
def priceBasis (b : List Bytes) (mp : Nat) : Nat := bkFld b (priceBlk b mp) 47 1 % 2

def zeros (b : Bytes) : Bool := b.all (· == 0)

def dateOk (m d : Nat) : Bool := decide (1 ≤ m) && decide (m ≤ 12) && decide (1 ≤ d) && decide (d ≤ monthLen 2020 m)

def switchOk (e : Bytes) : Bool :=
  if fld 3 1 e = 0 then zeros e else fld 3 1 e == 1 && decide (fld 0 2 e ≤ 1439) && decide (fld 2 1 e ≤ 7)

def seasonOk (e : Bytes) : Bool :=
  if fld 5 1 e = 0 then zeros e
  else fld 5 1 e == 1 && dateOk (fld 0 1 e) (fld 1 1 e) && decide (fld 2 2 e ≤ 1439) && decide (fld 4 1 e ≤ 11) &&
    decide (-720 ≤ sext 16 (fld 6 2 e)) && decide (sext 16 (fld 6 2 e) ≤ 840)

def specialOk (e : Bytes) : Bool :=
  if fld 5 1 e = 0 then zeros e
  else fld 5 1 e == 1 && dateOk (fld 2 1 e) (fld 3 1 e) && decide (fld 4 1 e ≤ 15) && fld 6 2 e == 0 &&
    ((decide (2020 ≤ fld 0 2 e) && decide (fld 0 2 e ≤ 2147)) || fld 0 2 e == 0xFFFF)

/-- Entries of `n` bytes. -/
def entries (n k : Nat) (b : Bytes) : List Bytes := (List.range k).map fun i => slice (n * i) n b

def distinct : List Nat → Bool
  | [] => true
  | x :: t => !(t.contains x) && distinct t

/-- The day profile has a valid switch point at MINUTE 0. -/
def startsAt0 (b : List Bytes) (p : Nat) : Bool := (entries 4 16 (b.getD (1 + p) [])).any fun e => fld 3 1 e == 1 && fld 0 2 e == 0

/-- R246, for a bank whose 34 blocks have all been written. -/
def bankOk246 (b : List Bytes) : Bool :=
  let wk := bkSpan b 17 2
  let se := bkSpan b 19 2
  let sp := bkSpan b 21 8
  let h := b.getD 0 []
  fld 4 2 h == 34 && fld 7 1 h == 1 && decide (fld 6 1 h ≤ 28) && zeros (slice 8 52 h) &&
  (crc32c (fit 60 h ++ [0, 0, 0, 0] ++ bkSpan b 1 33)).toNat == fld 60 4 h &&
  ((List.range 16).all fun p =>
    let es := entries 4 16 (b.getD (1 + p) [])
    es.all switchOk && distinct ((es.filter fun e => fld 3 1 e == 1).map (fld 0 2))) &&
  ((entries 8 12 wk).all fun e => (e.take 7).all (fun x => decide (x.toNat ≤ 15)) && fld 7 1 e == 0) && zeros (slice 96 32 wk) &&
  (entries 8 12 se).all seasonOk && zeros (slice 96 32 se) && !(seasons b).isEmpty &&
  (entries 8 64 sp).all specialOk &&
  ((seasons b).all fun x => (slice (8 * x.week) 7 wk).all fun p => startsAt0 b p.toNat) &&
  ((entries 8 64 sp).all fun e => fld 5 1 e == 0 || startsAt0 b (fld 4 1 e)) &&
  ((List.range 4).all fun k =>
    let t := b.getD (29 + k) []
    decide (fld 46 1 t ≤ 6) && decide (fld 47 1 t ≤ 1) && zeros (slice 48 16 t)) &&
  ((slice 0 32 (b.getD 33 [])).all fun x => decide (x.toNat ≤ 3)) && zeros (slice 32 32 (b.getD 33 []))

/-- The shadow as a bank, once every block has been written. -/
def shadowBank (s : State) : Option (List Bytes) := if s.bil.shadow.all (·.isSome) then some (s.bil.shadow.map (·.getD [])) else none

/-- The shadow is complete (R246). -/
def shadowComplete (s : State) : Bool := match shadowBank s with | some b => bankOk246 b | none => false

end Sys2Proof.Machine
end

