-- ==== Sys2Proof/Machine/Ledger.lean ====
section
/-! DEFINITION. The ledger writer's acceptance of records (10 R286 to R301): chain, tags, signatures, checkpoints, holds. -/

namespace Sys2Proof.Machine

/-- Free slots of the pending store (10 R296). -/
def ldgFree (s : State) : Nat := 2048 - s.ldg.recs.length

/-- No ledger key is usable (10 R300). -/
def ldgUnauth (s : State) : Bool := (s.key.ks.getD 0 none).isNone && s.key.scuttle != 0

def ldgReserve (s : State) : Bool := decide (ldgFree s < 128)

def ldgFull (s : State) : Bool := s.ldg.capacity != 0 && decide (s.ldg.capacity ≤ s.ldg.next)

/-- 10 R299: LDG cannot accept records. -/
def ldgHold (s : State) : Bool :=
  s.ldg.fault || s.ldg.nodev || s.ldg.capacity == 0 || ldgFull s || ldgUnauth s || decide (ldgFree s < 512)

/-- SET: LDG.FLASH has completed in this lifecycle state. -/
def ldgSet (s : State) : Bool := s.ldg.setIn == some (lcState s)

/-- 10 Table 10.10. -/
def ldgWord (s : State) : Word :=
  w32 (b2n (ldgSet s) + 2 * b2n s.ldg.nodev + 4 * b2n s.ldg.fault + 8 * b2n (ldgFull s) + 16 * b2n (ldgReserve s) +
    32 * b2n (ldgHold s) + 64 * b2n (ldgUnauth s) + 128 * b2n s.key.test)

/-- 10 R313: a change of the state word raises LDG's event to the LEGAL world. -/
def ldgTouch (old s : State) : State := if ldgWord s == ldgWord old then s else unitEv s .legal .ldg

/-- C of the record before the next one; C of record −1 is SHA-256 of the UID (10 R287). -/
def ldgPrev (s : State) : Bytes :=
  if s.ldg.next = 0 then sha256 (le 4 s.fuse.uidLo.toNat ++ le 4 s.fuse.uidHi.toNat) else s.ldg.chain

/-- How a part is signed: not, as a CHECKPOINT (10 R288), or as a session close (10 R290). -/
inductive SigMode where
  | none
  | ckpt
  | close
  deriving DecidableEq, Repr

/-- An ECDSA signature by the ledger key over `digest`; 64 zero bytes when no ledger key is usable (10 R300). -/
def ldgSign (s : State) (digest : Bytes) : Bytes :=
  match s.key.ks.getD 1 none with
  | some k => fit 64 (ecdsaSign k digest s.free)
  | .none => List.replicate 64 0

/-- One record completed in the pending store (10 R286, R287, R296). -/
def ldgPut (s : State) (ty part last : Nat) (par : Bool) (bt : Nat) (sig : SigMode) (eseqs : List Nat) (body : Bytes) : State :=
  let prev := ldgPrev s
  let rf := b2n s.tmp.mark + 2 * b2n par + 4 * b2n (ldgUnauth s) + 8 * b2n s.key.test
  let hdr := le 4 s.ldg.next ++ [BitVec.ofNat 8 ty, BitVec.ofNat 8 (part + 16 * last)] ++ le 2 rf ++ le 8 bt
  let head := hdr ++ fit 32 body
  let full := match sig with
    | .none => fit 96 body
    | .ckpt => fit 32 body ++ ldgSign s (sha256 head)
    | .close => fit 32 body ++ ldgSign s (sha256 (prev ++ head))
  let core := hdr ++ full
  let c := sha256 (prev ++ core)
  let tag := match s.key.ks.getD 0 none with
    | some k => (hmac k c).take 16
    | none => List.replicate 16 0
  { s with
    free := s.free + 1
    ldg := { s.ldg with recs := s.ldg.recs ++ [{ index := s.ldg.next, bytes := core ++ tag, eseqs := eseqs }],
                        next := s.ldg.next + 1, chain := c, since := s.ldg.since + 1 } }

/-- A CHECKPOINT as the next record (10 R288). -/
def ldgCheckpoint (s : State) : State :=
  let t := ldgPut s 8 0 0 false (btNow s) .ckpt [] (ldgPrev s)
  { t with ldg := { t.ldg with lastCkpt := s.ldg.next, since := 0 } }

/-- Programming starts when the flash is set, answers and is free, and no warning stands (10 R295, R296, R301). -/
def ldgKick (s : State) : State :=
  if s.ldg.prog.isNone && s.ldg.capacity != 0 && !s.ldg.fault && !s.ldg.nodev && s.clk.pfw.isNone then
    match s.ldg.recs with
    | r :: _ => if r.index < s.ldg.capacity then { s with ldg := { s.ldg with prog := some s.clk.ref } } else s
    | [] => s
  else s

/-- The parts of a group, in order (10 R289). -/
def ldgParts (s : State) (ty last : Nat) (par : Bool) (bt : Nat) (eseqs : List Nat) : Nat → List Bytes → State
  | _, [] => s
  | i, b :: t =>
    ldgParts (ldgPut s ty i last par bt (if ty == 1 && i == 1 then .close else .none) eseqs b) ty last par bt eseqs (i + 1) t

/-- LDG accepts a group, or drops and counts it while RESERVE is set (10 R288, R296, R299). -/
def ldgAccept (s : State) (ty : Nat) (par : Bool) (eseqs : List Nat) (parts : List Bytes) : State :=
  if (ldgReserve s && ty != 1) || decide (ldgFree s < parts.length) then
    { s with ldg := { s.ldg with dropped := s.ldg.dropped.modify ty (· + 1), gapDue := true } }
  else
    let a := if s.ldg.next = 0 then ldgCheckpoint s else s
    let b := ldgParts a ty (parts.length - 1) par (btNow s) eseqs 0 parts
    let c := if b.ldg.since ≥ 255 then ldgCheckpoint b else b
    ldgKick c

/-- 10 Table 10.6, TYPE 3: the body of a METRO_EVENT; payload words P0 onward (10 R293). -/
def metroBody (code unit rank subseq tick : Nat) (ps : List Word) : Bytes :=
  [BitVec.ofNat 8 code, BitVec.ofNat 8 unit, BitVec.ofNat 8 rank, BitVec.ofNat 8 subseq] ++ le 8 (tick % 2 ^ 56) ++ le 4 0 ++
    wordsBytes ps

/-- Order among events with equal MODTICK (10 Table 10.6). -/
def subseqOf (s : State) : Nat := if s.ldg.subTick = now s then s.ldg.subSeq else 0

def bumpSubseq (s : State) : State := { s with ldg := { s.ldg with subTick := now s, subSeq := subseqOf s + 1 } }

/-- NEXT first equals CAPACITY: LEDGER_FULL (10 R313). -/
def ldgFullNote (s : State) : State :=
  if ldgFull s && !s.ldg.fullSeen then
    ldgAccept (bumpSubseq { s with ldg := { s.ldg with fullSeen := true } }) 3 false []
      [metroBody 0x42 6 0 (subseqOf s) (now s) [0xFFFFFFFF]]
  else s

/-- A group is handed over to LDG (10 R288, R289, R296, R313). -/
def ldgGroup (s : State) (ty : Nat) (par : Bool) (eseqs : List Nat) (parts : List Bytes) : State :=
  ldgTouch s (ldgFullNote (ldgAccept s ty par eseqs parts))

/-- A unit hands LDG a METRO_EVENT record. -/
def metro (s : State) (code unit rank : Nat) (par : Bool) (ps : List Word) : State :=
  ldgGroup (bumpSubseq s) 3 par [] [metroBody code unit rank (subseqOf s) (now s) ps]

/-- A unit's ordinary event (rank 0, not after restart). -/
def event (s : State) (u : UnitId) (code : Nat) (ps : List Word) : State := metro s code (unitCode u) 0 false ps

/-- An event of the Legal image (10 Table 10.6: UNIT 0xFF). -/
def legalEvent (s : State) (code : Nat) (ps : List Word) : State := metro s code 0xFF 0 false ps

/-- No instance (10 R293). -/
def noInst : Word := 0xFFFFFFFF

/-- A MODTICK or billing time as two payload words, low first. -/
def two (n : Nat) : List Word := [w32 n, w32 (n >>> 32)]

/-- A hash as eight payload words. -/
def hashWords (b : Bytes) : List Word := (List.range 8).map fun i => w32 (fld (4 * i) 4 b)

/-- 10 R299: the room returned, so the first record is a LEDGER_GAP with the counts of TYPE 2 to 7. -/
def ldgGap (s : State) : State :=
  if s.ldg.gapDue && decide (512 ≤ ldgFree s) then
    let cnt := (List.range 6).map fun i => w32 (s.ldg.dropped.getD (i + 2) 0)
    event { s with ldg := { s.ldg with dropped := List.replicate 8 0, gapDue := false } } .ldg 0x40 (noInst :: cnt)
  else s

end Sys2Proof.Machine
end

