-- ==== Sys2Proof/Machine/Strand.lean ====
section
/-! DEFINITION. Strandline entries: forming, tagging, handing over, sealing and collapsing them (12 R356 to R362). -/

namespace Sys2Proof.Machine

/-- Entries not yet sealed (12 R361). -/
def unsealed (s : State) : Nat := s.tmp.next - s.tmp.sealedTo

/-- EFLAGS of 12 Table 12.4. -/
def eflags (s : State) (resp : Nat) (d1 d2 : Bool) : Nat :=
  resp % 4 + 4 * b2n d1 + 8 * b2n d2 + 16 * b2n s.key.test + 32 * b2n (frozen s) + 64 * b2n (decide (5 ≤ lcState s))

/-- The entry's TAG under K_STR (12 R358). -/
def strTag (s : State) (b : Bytes) : Bytes :=
  match s.key.ks.getD 3 none with
  | some k => (hmac k b).take 8
  | none => List.replicate 8 0

/-- 12 R361: an entry collapses into the pressure slot. -/
def tmpCollapse (s : State) (src resp : Nat) : State :=
  let p := s.tmp.press.getD { others := 0, counts := List.replicate 10 0, resp := 0, rtc := s.bk.rtc }
  let q := if src < 10 then { p with counts := p.counts.modify src fun n => sat 255 (n + 1), resp := max p.resp resp }
    else { p with others := sat 255 (p.others + 1), resp := max p.resp resp }
  let t := { s with tmp := { s.tmp with press := some q, logpress := true, collapsed := sat 65535 (s.tmp.collapsed + 1) } }
  if s.tmp.logpress then t else unitEv t .legal .tmp

/-- One STRANDLINE record of up to three entries, while RESERVE is clear (12 R360). -/
def tmpHandOne (s : State) : State :=
  let es := s.tmp.ring.filter fun e => decide (s.tmp.handed ≤ e.eseq) && decide (e.eseq < s.tmp.handed + 3)
  if ldgReserve s || es.isEmpty then s
  else
    ldgGroup { s with tmp := { s.tmp with handed := s.tmp.handed + es.length } } 7 false (es.map (·.eseq)) [es.flatMap (·.bytes)]

/-- Entries in the ring not yet handed over. -/
def unhanded (s : State) : Nat := (s.tmp.ring.filter fun e => decide (s.tmp.handed ≤ e.eseq)).length

/-- Hand over while three consecutive entries wait (12 R360). -/
def tmpHand : Nat → State → State
  | 0, s => s
  | n + 1, s => if 3 ≤ unhanded s && !ldgReserve s then tmpHand n (tmpHandOne s) else s

/-- An entry enters the ring: at most the 4096 newest stay (12 R359). -/
def ringPush (r : List Strand) (e : Strand) : List Strand :=
  let t := r ++ [e]
  t.drop (t.length - 4096)

/-- Tag the staged entries and write them to the ring (12 R359, R362). -/
def tmpFlush (s : State) : State :=
  if frozen s || (s.key.ks.getD 3 none).isNone then s
  else
    let es := s.tmp.staging.map fun e => if e.tagged then e else { e with bytes := e.bytes ++ strTag s e.bytes, tagged := true }
    tmpHand 16 { s with tmp := { s.tmp with ring := es.foldl ringPush s.tmp.ring, staging := [] } }

/-- TMP forms a Strandline entry (12 R356, R359). -/
def tmpEntry (s : State) (kind src reason resp : Nat) (d1 d2 : Bool) (data : Nat) : State :=
  if 4095 ≤ unsealed s || (decide (32 ≤ s.tmp.staging.length)) then tmpCollapse s src resp
  else
    let sub := if s.tmp.lastRef = s.clk.ref + 1 then s.tmp.lastSub + 1 else 0
    let b := le 4 s.tmp.next ++ [BitVec.ofNat 8 kind, BitVec.ofNat 8 src, BitVec.ofNat 8 sub, BitVec.ofNat 8 (eflags s resp d1 d2)] ++
      le 6 s.bk.rtc ++ le 2 reason ++ le 8 data
    let e : Strand := { eseq := s.tmp.next, bytes := b, tagged := false, born := s.clk.ref }
    tmpFlush { s with tmp := { s.tmp with next := s.tmp.next + 1, staging := s.tmp.staging ++ [e], lastRef := s.clk.ref + 1, lastSub := sub } }

/-- Once a slot is sealed, the pressure slot becomes a PRESSURE entry (12 R361, Table 12.6). -/
def tmpRelieve (s : State) : State :=
  match s.tmp.press with
  | none => s
  | some p =>
    if 4095 ≤ unsealed s || frozen s || (s.key.ks.getD 3 none).isNone then s
    else
      let b := le 4 s.tmp.next ++ [10#8, BitVec.ofNat 8 p.others, 0#8, BitVec.ofNat 8 (eflags s p.resp false false)] ++ le 6 p.rtc ++
        p.counts.map (BitVec.ofNat 8)
      let e : Strand := { eseq := s.tmp.next, bytes := b ++ strTag s b, tagged := true, born := s.clk.ref }
      let t := { s with tmp := { s.tmp with next := s.tmp.next + 1, ring := ringPush s.tmp.ring e, press := none, logpress := false } }
      unitEv (event t .tmp 0x51 [noInst, w32 s.tmp.next, w32 s.tmp.collapsed]) .legal .tmp

/-- LDG reports that the read-back of a record with these entries matched (12 R360). -/
def tmpSeal (s : State) (es : List Nat) : State :=
  if es.isEmpty then s
  else tmpRelieve { s with tmp := { s.tmp with sealedTo := es.foldl (fun m e => max m (e + 1)) s.tmp.sealedTo } }

end Sys2Proof.Machine
end

