-- ==== Sys2Proof/Machine/SitCore.lean ====
section
/-! DEFINITION. The site link's configuration and changes of its state (14 R393, R410 to R413). -/

namespace Sys2Proof.Machine

/-- Words 1 to 4 of the last SIT.CFG (14 Table 14.9). -/
def sitW (s : State) (i : Nat) : Word := s.sit.cfg.getD (i - 1) 0
def sitNode (s : State) : Nat := bits (sitW s 1) 7 0
def sitNcfp (s : State) : Nat := bits (sitW s 1) 19 16
def sitRank (s : State) : Nat := bits (sitW s 1) 23 20
def sitNotch (s : State) : Bool := (sitW s 1).getLsbD 29
def sitTrk (s : State) : Bool := (sitW s 1).getLsbD 28
def sitNomf (s : State) : Bool := (sitW s 1).getLsbD 27
def sitZcch (s : State) : Nat := bits (sitW s 2) 23 16
def sitTxph (s : State) : Nat := bits (sitW s 2) 15 14
def sitKeySlot (s : State) : Nat := bits (sitW s 2) 5 0
def sitId (s : State) : Nat := (sitW s 3).toNat

/-- MEMBER, BACKUP or COORD (14 Table 14.13). -/
def sitIn (st : Nat) : Bool := st == 4 || st == 5 || st == 6

/-- COORD and EPOCH of the last beacon. -/
def sitCoord (s : State) : Nat := match s.sit.bcn with | some b => b.coord | none => 0xFE
def sitEpoch (s : State) : Nat := match s.sit.bcn with | some b => b.epoch | none => 0

def setMemUntil (s : State) : State := if sitIn s.sit.st then { s with sit := { s.sit with memUntil := some (now s) } } else s

/-- In state `st` the node counts as a member: MEMBER, BACKUP, or a stop that keeps the membership for the next beacon (14 Table 14.8). -/
def sitMem (s : State) (st : Nat) : Bool := st == 4 || st == 5 || ((st == 8 || st == 2) && s.sit.resume)

/-- A change of STATE: the LEGAL world's event, SITE_COORD, and SITE_JOIN where a membership begins or ends (14 R411, R413). -/
def setSit (s : State) (st coord epoch : Nat) : State :=
  let o := s.sit.st
  if o = st then s
  else
    let a := setMemUntil s
    let b := unitEv { a with sit := { a.sit with st := st } } .legal .sit
    let c := if (o == 6) != (st == 6) then event b .sit 0x58 [noInst, w32 (sitCoord s), w32 coord, w32 (sitEpoch s), w32 epoch] else b
    if sitMem s o != sitMem s st && o != 6 && st != 6 then event c .sit 0x59 [noInst, w32 coord, w32 epoch] else c

/-- A membership kept over a stop ends, and the node joins anew (14 Table 14.8, R413). -/
def sitLapse (s : State) (coord epoch : Nat) : State :=
  if sitMem s s.sit.st && s.sit.resume then event { s with sit := { s.sit with resume := false } } .sit 0x59 [noInst, w32 coord, w32 epoch]
  else { s with sit := { s.sit with resume := false } }

/-- The NETKEY slot and every derivation from it fail: NOKEY (14 Table 14.8). -/
def sitSilence (s : State) : State :=
  if decide (2 ≤ s.sit.st) && decide (s.sit.st ≤ 6) then setSit { s with sit := { s.sit with flight := none } } 1 0xFE (sitEpoch s) else s

/-- PLL loss, a freeze or REDUCED stops the link; a frame in flight counts as a failed attempt; in REDUCED the membership lapses (14 Table 14.8). -/
def sitStop (s : State) (resume : Bool) : State :=
  let a := if !resume && (s.sit.st == 2 || s.sit.st == 8) then sitLapse s 0xFE (sitEpoch s) else s
  if decide (2 ≤ a.sit.st) && decide (a.sit.st ≤ 6) then
    setSit { a with sit := { a.sit with flight := none, resume := resume && (sitIn a.sit.st || (a.sit.st == 2 && a.sit.resume)) } } 8 0xFE (sitEpoch a)
  else a

/-- Relock, release or return to RUN: the node listens (14 R402, Table 14.8). -/
def sitGo (s : State) : State :=
  if s.sit.st = 8 then setSit { s with sit := { s.sit with since := now s } } 2 (sitCoord s) (sitEpoch s) else s

end Sys2Proof.Machine
end

