-- ==== Sys2Proof/Machine/KeyOps.lean ====
section
/-! DEFINITION. Key derivation, the key cache, associations' end, ERASE and the lifecycle fuses (11 R314 to R338). -/

namespace Sys2Proof.Machine

def uidBytes (s : State) : Bytes := le 4 s.fuse.uidLo.toNat ++ le 4 s.fuse.uidHi.toNat

/-- 11 R314: ROOTCHK matches and the root is not all zero. -/
def rootOk (s : State) : Bool := (sha256 s.fuse.root).take 4 == s.fuse.rootChk && s.fuse.root.any (· != 0)

/-- 11 R315: SHA-256 of MZ7TESTROOT ‖ UID. -/
def testRoot (s : State) : Bytes :=
  sha256 ([0x4D, 0x5A, 0x37, 0x54, 0x45, 0x53, 0x54, 0x52, 0x4F, 0x4F, 0x54] ++ uidBytes s)

/-- The root in use. -/
def rootOf (s : State) : Bytes := if s.key.test then testRoot s else s.fuse.root

/-- 11 Table 11.4: a key derived from the root. -/
def rootKey (s : State) (purpose world dom bits : Nat) : Bytes := kdf (rootOf s) purpose world dom (uidBytes s) bits

/-- K_LSIG's private scalar under a domain (11 R323). -/
def lsigKey (s : State) (dom : Nat) : Bytes := p256Scalar (rootKey s 0x03 0 dom 320)

/-- KEK of a world under the current domain (11 R328). -/
def kek (s : State) (w : World) : Bytes :=
  rootKey s 0x01 (match w with | .legal => 1 | .opn => 2) (lcDomain (lcState s)) 256

/-- KS0 to KS3 for the current state (11 R324). -/
def deriveKs (s : State) : State :=
  let st := lcState s
  let d := lcDomain st
  let k3 := some (rootKey s 0x05 0 0 256)
  let ks := if st ≤ 4 then
      [some (rootKey s 0x02 0 d 256), some (lsigKey s d), some (p256Scalar (rootKey s 0x04 0 d 320)), k3]
    else [none, none, none, k3]
  { s with key := { s.key with ks := ks } }

/-- The bank in force of a slot record. -/
def recAttr (r : SlotRec) : Word := if r.bank then r.attr1 else r.attr0
def recLink (r : SlotRec) : Nat := if r.bank then r.link1 else r.link0
def recPub (r : SlotRec) : Bytes := if r.bank then r.pub1 else r.pub0

/-- Fields of the attribute word (11 Table 11.9). -/
def attrType (a : Word) : Nat := bits a 27 24
def attrLcs (a : Word) (st : Nat) : Bool := a.getLsbD (9 + st)

/-- Type 4 keys with SIGN usage load from their records (11 R326). -/
def loadPublic (s : State) (ok : Word → Bool) : State :=
  let f : Nat → Option Cached := fun i =>
    let r := s.key.recs.getD i default
    let a := recAttr r
    if r.st = 1 && attrType a = 4 && a.getLsbD 19 && ok a then some { key := recPub r, gen := r.gen }
    else s.key.cache.getD i none
  { s with key := { s.key with cache := (List.range 64).map f } }

/-- No key in any slot. -/
def purgeAll (s : State) : State :=
  { s with key := { s.key with cache := List.replicate 64 none, pendKeys := List.replicate 64 none } }

/-- Records of volatile children are free again (11 R344). -/
def freeVol (s : State) : State :=
  { s with key := { s.key with recs := s.key.recs.map fun r => if r.vol then SlotRec.zero else { r with pend := false } } }

/-- Slots that hang below `i` through the links in force, `i` included. -/
def descends (rs : List SlotRec) : Nat → Nat → Nat → Bool
  | 0, _, _ => false
  | n + 1, i, j => i == j || (match rs[j]? with | some r => decide (recLink r < 64) && descends rs n i (recLink r) | none => false)

/-- Purge a slot and its loaded descendants, free their VOL records, and count them (11 R334). -/
def purgeTree (s : State) (i : Nat) (self : Bool) : State × Nat :=
  let hit := (List.range 64).filter fun j =>
    (s.key.cache.getD j none).isSome && descends s.key.recs 64 i j && (self || j != i)
  let rs := s.key.recs.mapIdx fun j r => if hit.contains j && r.vol then SlotRec.zero else r
  let ca := s.key.cache.mapIdx fun j c => if hit.contains j then none else c
  ({ s with key := { s.key with recs := rs, cache := ca } }, hit.length)

/-- Every association ends and starts as PUBLIC again, with its subscription (10 R305, 17 R464). -/
def endAssocs (s : State) : State :=
  { s with
    obj := { s.obj with ports := s.obj.ports.map fun _ => Assoc.zero, site := [] }
    hst := s.hst.map fun p => { p with sub := 0, subExt := false } }

/-- A LIFECYCLE_MOVE record (11 Table 11.19). -/
def lifeEvent (s : State) (par : Bool) (old new role : Nat) (pub : Bytes) : State :=
  metro s 0x48 8 0 par ([noInst, w32 old, w32 new, w32 role] ++ (List.range 16).map fun i => w32 (fld (4 * i) 4 pub))

/-- Set or clear a bit of LFLAGS; CRC follows (16 Table 16.7). -/
def setLflag (s : State) (i : Nat) (v : Bool) : State :=
  let f := s.bk.ledge.lflags
  let m := BitVec.ofNat 16 (2 ^ i)
  { s with bk := { s.bk with ledge := { s.bk.ledge with lflags := if v then f ||| m else f &&& ~~~m } } }

/-- A unit's operation in flight. -/
def ofUnit (u : UnitId) (p : Posted) : Bool := p.unit == u

/-- 11 R336: ERASE after its decision. `cause` 1 tamper response, 2 KEY.ERASE, 3 token, 4 retirement; `inst` goes to P0. KEY's records precede those of TMP (10 R289). -/
def eraseKeys (s : State) (cause : Nat) (inst : Word) (role : Nat) : State :=
  if s.key.scuttle != 0 then s
  else
    let old := lcState s
    let a := settleAll (purgeAll (setLflag s 1 true)) (ofUnit .key) 5
    let k := { a.key with
      ks := List.replicate 4 none, scuttle := 0xFFFFFFFF, erases := sat 65535 (a.key.erases + 1), shadow := lcFuse a.fuse,
      mask := a.free, requests := 0, reseedAt := a.clk.ref }
    let b := { a with key := k, free := a.free + 1, tmp := { a.tmp with eraseWait := none } }
    let c := loadPublic (deriveKs b) fun w => attrLcs w 5
    let d := event c .key 0x49 ([inst, w32 cause] ++ two (now s))
    let e := sitSilence (endAssocs (tmpFlush (lifeEvent d false old (lcState d) role (List.replicate 64 0))))
    unitEv { e with key := { e.key with tampPend := e.clk.pfw.isNone } } .legal .key

end Sys2Proof.Machine
end

