-- ==== Sys2Proof/Machine/TamperOps.lean ====
section
/-! DEFINITION. Alarms, MARK, notifications of the fault-injection monitor and critical decisions (12 R347 to R352, 01 R26). -/

namespace Sys2Proof.Machine

def mon (s : State) (m : Nat) : Monitor := s.tmp.mons.getD m default

def modMon (s : State) (m : Nat) (f : Monitor → Monitor) : State :=
  { s with tmp := { s.tmp with mons := s.tmp.mons.modify m f } }

/-- Fields of the configuration word (12 Table 12.3). -/
def monEn (x : Monitor) : Bool := x.cfg.getLsbD 31
def monBoth (x : Monitor) : Bool := x.cfg.getLsbD 30
def monResp (x : Monitor) : Nat := bits x.cfg 29 28
def monF2 (x : Monitor) : Nat := bits x.cfg 23 16
def monF1 (x : Monitor) : Nat := bits x.cfg 15 8
def monDisw (x : Monitor) : Nat := bits x.cfg 7 0

/-- 12 R349: MARK is in force. -/
def markNow (s : State) : Bool := s.tmp.mons.any fun x => x.st != 0 && x.resp != 0

/-- A change of MARK writes TAMPER_MARK with the monitor and the entry concerned. -/
def markUpdate (s : State) (m eseq : Nat) : State :=
  if markNow s == s.tmp.mark then s
  else event { s with tmp := { s.tmp with mark := markNow s } } .tmp 0x50 [w32 m, w32 eseq]

/-- The condition of 12 R348 under the pair logic. -/
def inAlarm (x : Monitor) : Bool := monEn x && (if monBoth x then x.d1 && x.d2 else x.d1 || x.d2)

/-- An alarm of a monitor takes its response (12 R349); an ERASE response waits for its decision (12 R351). -/
def alarm (s : State) (m reason : Nat) : State :=
  let x := mon s m
  let r := max (if x.st = 0 then 0 else x.resp) (monResp x)
  let a := modMon s m fun x => { x with st := 1, resp := r, reason := reason, start := s.clk.ref, alarms := sat 65535 (x.alarms + 1) }
  let b := tmpEntry a 1 m reason r x.d1 x.d2 (x.v1 % 2 ^ 32 + x.v2 % 2 ^ 32 * 2 ^ 32)
  let c := unitEv (markUpdate b m s.tmp.next) .legal .tmp
  if monResp x = 2 && c.key.scuttle = 0 then { c with tmp := { c.tmp with eraseWait := some c.clk.ref } } else c

/-- An alarm ends with a CLEAR entry; the monitor is LATCHED, or IDLE when its response was LOG (12 R352). -/
def alarmEnd (s : State) (m : Nat) : State :=
  let x := mon s m
  let a := modMon s m fun x => { x with st := if x.resp = 0 then 0 else 2 }
  let b := tmpEntry a 3 m 0 x.resp x.d1 x.d2 (sat (2 ^ 32 - 1) ((s.clk.ref - x.start) / 24000))
  unitEv b .legal .tmp

/-- Follow the detectors: start or end the monitor's alarm. -/
def evalAlarm (s : State) (m reason : Nat) : State :=
  let x := mon s m
  if inAlarm x then (if x.st = 1 then s else alarm s m reason) else if x.st = 1 then alarmEnd s m else s

/-- A notification of monitor 9 (12 Table 12.1, R347): D2 asserts when F2 of them fall within 1 s. -/
def notify9 (s : State) (reason v : Nat) : State :=
  let ns := (s.clk.ref :: s.tmp.notes).filter fun t => decide (s.clk.ref ≤ t + 24000000)
  let a := { s with tmp := { s.tmp with notes := ns } }
  if monF2 (mon a 9) ≤ ns.length then evalAlarm (modMon a 9 fun x => { x with d2 := true, v1 := v, v2 := 0 }) 9 reason else a

/-- A critical decision: act when its two computations agree, otherwise notify monitor 9 with reason TWICE (01 Table 1.6, 12 Table 12.7). -/
def twice (s : State) (agree : Bool) (code : Nat) (act : State → State) : State :=
  if agree then act s else notify9 s 6 code

/-- The ERASE decision of a standing alarm (12 R351). -/
def eraseDecide (s : State) (agree : Bool) (m : Nat) : State :=
  if agree then eraseKeys s 1 (w32 m) 0xFF
  else
    let t := notify9 s 6 1
    { t with tmp := { t.tmp with eraseWait := some (s.clk.ref + usRef 100) } }

end Sys2Proof.Machine
end

