-- ==== Sys2Proof/Machine/HostOps.lean ====
section
/-! DEFINITION. What the part queues to the host ports (17 R461 to R466): events, frames, boot frames and responses. -/

namespace Sys2Proof.Machine

def modPort (s : State) (i : Nat) (f : HPort → HPort) : State := { s with hst := s.hst.modify i f }

/-- 17 Table 17.3. -/
def evPayload (code mp a b tick bt : Nat) : Bytes :=
  [BitVec.ofNat 8 code, BitVec.ofNat 8 mp, BitVec.ofNat 8 a, BitVec.ofNat 8 b] ++ le 4 0 ++ le 8 tick ++ le 8 bt

/-- Same code and point, for a code that replaces in place (17 R463). -/
def evSame (x e : Bytes) : Bool :=
  (x.take 2 == e.take 2) && ((e.getD 0 0) == 3#8 || (e.getD 0 0) == 4#8 || (e.getD 0 0) == 5#8)

/-- An EVENT frame that waits for its number. -/
def evFrame (e : Bytes) : OutFrame := { kind := 3, tseq := 0, payload := e, world := none, addr := 0 }

/-- An event enters a port's queue of 32 (17 R463). -/
def pushEvent (p : HPort) (f : OutFrame) : HPort :=
  let e := f.payload
  match findAt (fun (x : OutFrame) => evSame x.payload e) p.events 0 with
  | some (i, x) =>
    let y := if e.getD 0 0 = 4#8 then e.take 3 ++ [x.payload.getD 3 0] ++ e.drop 4 else e
    { p with events := p.events.modify i fun _ => { f with payload := y } }
  | none =>
    if p.events.length < 31 then { p with events := p.events ++ [f] }
    else
      let n := sat 65535 (p.evLost + 1)
      let lost := [6#8, 0xFF#8, BitVec.ofNat 8 n, BitVec.ofNat 8 (n / 256)] ++ e.drop 4
      { p with evLost := n, events := p.events.take 31 ++ [evFrame lost] }

/-- An event to HOSTA and HOSTB. -/
def hostEventAt (s : State) (code mp a b tick : Nat) : State :=
  let e := evFrame (evPayload code mp a b tick (btAt s tick))
  { s with hst := s.hst.mapIdx fun i p => if i < 2 then pushEvent p e else p }

def hostEvent (s : State) (code mp a b : Nat) : State := hostEventAt s code mp a b (now s)

/-- A forwarded frame to every port that subscribes to its point (17 R464): 64 entries, the oldest dropped and counted. -/
def hostFrame (s : State) (mp : Nat) (ext : Bool) (status : Nat) (fr : Bytes) : State :=
  let e := fr ++ le 4 (status + 4 * b2n ext)
  let f : HPort → HPort := fun p =>
    if p.sub.getLsbD mp && (!ext || p.subExt) then
      if p.frames.length < 64 then { p with frames := p.frames ++ [e] }
      else { p with frames := p.frames.drop 1 ++ [e], strDrop := sat 65535 (p.strDrop + 1) }
    else p
  { s with hst := s.hst.mapIdx fun i p => if i < 2 then f p else p }

/-- A BOOT frame on both host ports with the current stage (17 R466, Table 17.5). -/
def hostBoot (s : State) : State :=
  let e : OutFrame :=
    { kind := 6, tseq := 0, world := none, addr := 0,
      payload := [BitVec.ofNat 8 s.clk.bootStage, BitVec.ofNat 8 s.clk.bootEntry, BitVec.ofNat 8 s.clk.bootReason,
        BitVec.ofNat 8 (lcState s)] ++ uidBytes s }
  { s with hst := s.hst.mapIdx fun i p => if i < 2 then { p with boots := p.boots ++ [e] } else p }

/-- A change of the boot stage (17 R466). -/
def setStage (s : State) (stage entry reason : Nat) : State :=
  hostBoot { s with clk := { s.clk with bootStage := stage, bootEntry := entry, bootReason := reason } }

/-- An object response to its master: a port, or the site link's way back to a node (10 R309). -/
def objAnswer (s : State) (master node : Nat) (msg : Bytes) : State :=
  match master with
  | 0 => modPort s 0 fun p => { p with objs := p.objs ++ [msg] }
  | 1 => modPort s 1 fun p => { p with objs := p.objs ++ [msg] }
  | 3 => modPort s 2 fun p => { p with objs := p.objs ++ [msg] }
  | _ => { s with obj := { s.obj with siteOut := s.obj.siteOut ++ [(node, msg)] } }

end Sys2Proof.Machine
end

