-- ==== Sys2Proof/Machine/ChnOps.lean ====
section
/-! DEFINITION. Channels and streams of the sample fabric: rings, items, read positions (03 R85 to R90). -/

namespace Sys2Proof.Machine

def chan (s : State) (c : Nat) : Ch := s.chs.getD c default

def modCh (s : State) (c : Nat) (f : Ch → Ch) : State := { s with chs := s.chs.modify c f }

/-- 03 Table 3.11, by preset code. -/
def ringWords (p : Nat) : Nat := if p = 0 then 4096 else if p = 1 then 2048 else 1024
def ringBlocks (p : Nat) : Nat := if p = 0 then 253 else if p = 1 then 125 else 61

/-- Retained depth in MOD cycles (03 Table 3.11). -/
def retained (p : Nat) : Nat := if p = 0 then 1036288 else if p = 1 then 1024000 else 1998848

/-- D of 03 Table 3.2. -/
def dOf (p : Nat) : Nat := if p = 0 then 256 else if p = 1 then 512 else 2048

/-- Twice d of 03 Table 3.7. -/
def spanOf (p : Nat) : Nat := if p = 0 then 13692 else if p = 1 then 33660 else 153468

def isBlock (i : SItem) : Bool := i.kind == 0

def strPos (st : Stream) (l : LaneId) : Nat := match l with | .ebb => st.posE | .flood => st.posF

def setPos (st : Stream) (l : LaneId) (p : Nat) : Stream :=
  match l with
  | .ebb => { st with posE := p }
  | .flood => { st with posF := p }

/-- The epoch that items end with, after one that went before them. -/
def lastEpoch (is : List SItem) (e : Option Bytes) : Option Bytes :=
  match is.reverse.find? fun i => i.kind == 1 with
  | some i => some i.bytes
  | none => e

/-- The epoch item of the stream that the items before a place belong to. -/
def epochAt (st : Stream) (p : Nat) : Option Bytes := lastEpoch (st.items.take (p - st.base)) st.oldEpoch

/-- The epoch of the newest stream in the ring. -/
def epochNew (st : Stream) : Option Bytes := lastEpoch st.items st.oldEpoch

/-- T_FIRST [31:0] of an epoch item; 0 without one. -/
def tFirst (e : Option Bytes) : Nat := fld 4 4 (e.getD [])

/-- Items of rings of other presets, which the stream still holds before those of its own ring. -/
def oldItems (st : Stream) : Nat := match st.olds.getLast? with | some o => o.upto - st.base | none => 0

/-- Forget the oldest items up to and with the oldest block of the ring, when it holds more blocks than the retained depth; items of older rings go with them (log 12). -/
def strTrim (st : Stream) (surge : Bool) : Stream :=
  let cur := st.items.drop (oldItems st)
  if (cur.filter isBlock).length ≤ st.depth then st
  else
    let k := oldItems st + (cur.takeWhile fun i => !isBlock i).length + 1
    let b := st.base + k
    let t := { st with items := st.items.drop k, base := b, oldEpoch := lastEpoch (st.items.take k) st.oldEpoch }
    if surge then
      { t with
        posE := max st.posE b, posF := max st.posF b
        skipE := if st.posE < b then t.skipE + 1 else t.skipE
        skipF := if st.posF < b then t.skipF + 1 else t.skipF }
    else t

/-- An item is written into the stream. -/
def strPush (st : Stream) (surge : Bool) (i : SItem) : Stream := strTrim { st with items := st.items ++ [i] } surge

/-- STREAM_LOST (03 R89): the position lies behind the retained depth. -/
def strLost (st : Stream) (l : LaneId) : Bool := decide (strPos st l < st.base)

/-- The next item for a lane. -/
def strNext (st : Stream) (l : LaneId) : Option SItem :=
  if strLost st l then none else st.items[strPos st l - st.base]?

/-- Readable items ahead of a lane. -/
def strAhead (st : Stream) (l : LaneId) : Nat := st.base + st.items.length - strPos st l

/-- Place of a lane's next block; past the last item when it is not written yet. -/
def blockAt (st : Stream) (l : LaneId) : Nat :=
  let r := st.items.drop (strPos st l - st.base)
  match findAt isBlock r 0 with
  | some x => max (strPos st l) st.base + x.1
  | none => st.base + st.items.length

/-- BSEQ of the next block for a lane (05 STR.TELL). -/
def strTell (st : Stream) (l : LaneId) : Nat :=
  match (st.items.drop (strPos st l - st.base)).find? isBlock with
  | some i => i.bseq
  | none => st.nextB

/-- Place of the newest block with sequence number `q`. -/
def strFind (st : Stream) (q : Nat) : Option Nat :=
  (findAt (fun i => isBlock i && i.bseq == q) st.items.reverse 0).map fun x => st.base + st.items.length - 1 - x.1

/-- The stream of a selector: its primary chain's or its SURGE path's (05, stream selectors). -/
def selStream (s : State) (sel : Word) : Stream :=
  let c := chan s (bits sel 6 0)
  if sel.getLsbD 8 then c.sus else c.str

def setSelStream (s : State) (sel : Word) (st : Stream) : State :=
  modCh s (bits sel 6 0) fun c => if sel.getLsbD 8 then { c with sus := st } else { c with str := st }

/-- A selector with a reserved bit set (05 Table 5.4). -/
def selBad (sel : Word) : Bool := (sel &&& 0xFFFFFE80#32) != 0

/-- A lane's position in every ring: BSEQ of its next block, none where there is no ring (07 Table 7.5 POS). -/
def lanePos (s : State) (l : LaneId) : List (Option Nat) :=
  s.chs.map fun c => if c.str.words = 0 then none else some (strTell c.str l)

/-- T_FIRST [31:0] of the stream that a lane's next block belongs to, channel by channel (07 Table 7.5 STREAM). -/
def laneStreams (s : State) (l : LaneId) : List Nat := s.chs.map fun c => tFirst (epochAt c.str (blockAt c.str l))

/-- Copy one lane's positions to the other (07 R213). -/
def copyPos (s : State) (frm dst : LaneId) : State :=
  { s with chs := s.chs.map fun c => { c with str := setPos c.str dst (strPos c.str frm), sus := setPos c.sus dst (strPos c.sus frm) } }

/-- The first block of the newest stream in the ring; the oldest item where its epoch has left. -/
def firstBlock (st : Stream) : Nat :=
  match findAt (fun i : SItem => i.kind == 1) st.items.reverse 0 with
  | some x =>
    let k := st.items.length - 1 - x.1
    match findAt isBlock (st.items.drop k) 0 with
    | some y => st.base + k + y.1
    | none => st.base + st.items.length
  | none => st.base

/-- Set a lane's positions to saved BSEQs; a channel whose stream has ended and restarted resumes at the first block of its current one (07 R220). -/
def loadPos (s : State) (l : LaneId) (pos : List (Option Nat)) (streams : List Nat) : State :=
  { s with chs := s.chs.mapIdx fun i c =>
      let same := tFirst (epochNew c.str) == streams.getD i 0
      let p := if same then
          (match pos.getD i none with
          | some q => (strFind c.str q).getD (c.str.base + c.str.items.length)
          | none => strPos c.str l)
        else firstBlock c.str
      { c with str := setPos c.str l p } }

/-- A saved position already lies beyond the retained depth (07 R222). -/
def posGone (s : State) (pos : List (Option Nat)) (streams : List Nat) : Bool :=
  (List.range 128).any fun i =>
    let c := chan s i
    (tFirst (epochNew c.str) == streams.getD i 0) &&
    (match pos.getD i none with
    | some q => (strFind c.str q).isNone && later 32 c.str.nextB q
    | none => false)

/-- Ring words in use by running chains and by ended chains still held (03 R88). -/
def ringSum (s : State) : Nat := s.chs.foldl (fun n c => c.str.olds.foldl (fun k o => k + o.words) (n + c.str.words)) 0

/-- The ring of a start: an ended chain's ring of the same preset continues; one of another preset stays held for its own depth (03 R88). -/
def takeRing (st : Stream) (was p : Nat) : Stream :=
  let olds := match st.ended with
    | some t => if st.words = 0 ∨ st.words = ringWords p then st.olds
                else st.olds ++ [{ words := st.words, upto := st.base + st.items.length, due := t + retained was }]
    | none => st.olds
  { st with words := ringWords p, depth := ringBlocks p, ended := none, olds := olds }

/-- Items before a place are discarded for every lane (05 R149). -/
def dropTo (st : Stream) (b : Nat) : Stream :=
  let k := b - st.base
  { st with items := st.items.drop k, base := st.base + k, oldEpoch := lastEpoch (st.items.take k) st.oldEpoch,
            posE := max (st.base + k) st.posE, posF := max (st.base + k) st.posF }

/-- The ring of an ended chain is released: of its items the end item alone stays (03 R88; 05 R149). -/
def releaseRing (st : Stream) : Stream := { dropTo st (st.base + st.items.length - 1) with words := 0, ended := none }

/-- The oldest ring of another preset is released. -/
def releaseOld (st : Stream) : Stream :=
  match st.olds with
  | [] => st
  | o :: t => { dropTo st (o.upto - 1) with olds := t }

/-- MODTICK at which a stream's oldest held ring is released. -/
def ringDue (c : Ch) : Option Nat :=
  match c.str.olds with
  | o :: _ => some o.due
  | [] => c.str.ended.map fun t => t + retained c.chain.preset

/-- Release the oldest held ring. -/
def releaseNext (st : Stream) : Stream := if st.olds.isEmpty then releaseRing st else releaseOld st

end Sys2Proof.Machine
end

