-- ==== Sys2Proof/Machine/ChainOps.lean ====
section
/-! DEFINITION. Chains, SURGE paths and detectors: filters, tags, items, starting and ending, and what the clocks do to them (02 R57, R58, R63 to R67; 03). -/

namespace Sys2Proof.Machine

/-- Fields of the channel input word (02 Table 2.3). -/
def chEnabled (c : Ch) : Bool := c.input.getLsbD 7
def chInv (c : Ch) : Bool := c.input.getLsbD 11
def chGain (c : Ch) : Nat := bits c.input 2 0
def chPreset (c : Ch) : Nat := bits c.cfg0 29 28
def chSurge (c : Ch) : Bool := c.cfg1.getLsbD 12
def chDet (c : Ch) : Bool := c.cfg2.getLsbD 31

def isAin (n : Nat) : Bool := decide (n < 96)

def clu (s : State) (k : Nat) : Cluster := s.clus.getD k default
def modClu (s : State) (k : Nat) (f : Cluster → Cluster) : State := { s with clus := s.clus.modify k f }

/-- The sticky word of a channel (02 Table 2.15). -/
def stickyAddr (n : Nat) : Nat := 0x36740 + 4 * n
def sticky (s : State) (n : Nat) : Word := Mem.word s.mram (stickyAddr n)
def putSticky (s : State) (n : Nat) (w : Word) : State := { s with mram := Mem.writeN s.mram (stickyAddr n) (le 4 w.toNat) }
def setSticky (s : State) (n i : Nat) : State := putSticky s n (sticky s n ||| w32 (2 ^ i))
def clearSticky (s : State) (n : Nat) (m : Word) : State := putSticky s n (sticky s n &&& ~~~m)

/-- Where a trim record lies in the calibration table (log 15): modulator `m` of a cluster (12 is SPk) at a gain. -/
def trimAddr (k m g : Nat) : Nat := 0x20000 + 16 * (78 * k + 6 * m + g)

/-- A trim record (02 R57, Table 2.9). -/
def trimRec (s : State) (k m g : Nat) : Trim :=
  let w (i : Nat) : Word := Mem.word s.mram (trimAddr k m g + 4 * i)
  { gen := bits (w 0) 31 24, g := sext 24 (bits (w 0) 23 0), o := sext 24 (bits (w 1) 23 0), cals := bits (w 2) 31 16, drift := sext 16 (bits (w 2) 15 0),
    time := (w 3).toNat }

/-- The words of a trim record. -/
def trimBytes (t : Trim) : Bytes :=
  le 4 (t.gen * 2 ^ 24 + unsext 24 t.g) ++ le 4 (unsext 24 t.o) ++ le 4 (t.cals * 65536 + unsext 16 t.drift) ++ le 4 t.time

/-- The relief modulator carries the channel's stream (02 R51, R55). -/
def onRelief (s : State) (n : Nat) : Bool :=
  let c := clu s (n / 12)
  isAin n && (c.retired == some (n % 12) || (c.slot == n % 12 && (c.phase == 3 || c.phase == 4 || c.phase == 5)))

/-- CARRIER of 02 Table 2.12. -/
def carrier (s : State) (n : Nat) : Nat :=
  let c := clu s (n / 12)
  if !isAin n then 0
  else if c.retired = some (n % 12) then 3
  else if c.slot ≠ n % 12 then 0
  else match c.phase with | 2 => 2 | 3 => 1 | 4 => 2 | 5 => 2 | _ => 0

/-- The trim record in force (02 R57). -/
def trimNow (s : State) (n : Nat) : Trim := trimRec s (n / 12) (if onRelief s n then 12 else n % 12) (chGain (chan s n))

/-- Whether the relief modulator carries the S1 sample of a tick, and the trim that then applies: the sample at the boundary of a handover is the last of the old carrier (02 R51; log 16). -/
def carriedAt (s : State) (n t : Nat) : Bool × Trim :=
  match ((chan s n).rlf.filter fun h => decide (t ≤ h.1)).getLast? with
  | some h => h.2
  | none => (onRelief s n, trimNow s n)

/-- The relief modulator is connected to the channel's pins (02 Table 2.7). -/
def spOn (s : State) (n : Nat) : Bool :=
  let c := clu s (n / 12)
  isAin n && (c.retired == some (n % 12) || (c.slot == n % 12 && decide (2 ≤ c.phase) && decide (c.phase ≤ 5)))

/-- Shift right with rounding half up (03 R75). -/
def rshift (x : Int) (k : Nat) : Int := if k = 0 then x else (x + 2 ^ (k - 1)) / 2 ^ k

/-- Saturation to 32 bits: the value and whether it saturated. -/
def satSmp (x : Int) : Int × Bool :=
  if x > 2147483647 then (2147483647, true) else if x < -2147483648 then (-2147483648, true) else (x, false)

def choose2 (n : Nat) : Nat := n * (n - 1) / 2
def choose3 (n : Nat) : Nat := n * (n - 1) * (n - 2) / 6

/-- Weight `i` of the sinc⁴ ÷64 window of 253 bits, of the sinc³ ÷8 window of 22, and of the fast path's sinc³ ÷64 window of 190 (03 Tables 3.1, 3.2). -/
def sinc4 (i : Nat) : Int :=
  let t (j : Nat) : Int := if 64 * j ≤ i then choose3 (i + 3 - 64 * j) else 0
  t 0 - 4 * t 1 + 6 * t 2 - 4 * t 3
def sinc3 (i : Nat) : Int :=
  let t (j : Nat) : Int := if 8 * j ≤ i then choose2 (i + 2 - 8 * j) else 0
  t 0 - 3 * t 1 + 3 * t 2
def sincFast (i : Nat) : Int :=
  let t (j : Nat) : Int := if 64 * j ≤ i then choose2 (i + 2 - 64 * j) else 0
  t 0 - 3 * t 1 + 3 * t 2

/-- The weighted sum of a window of bits, newest first; a bit counts ±`a`. -/
def bitSum (w : Nat → Int) (a : Int) (bs : List Bool) : Int :=
  (bs.mapIdx fun i b => if b then a * w i else -(a * w i)).foldl (· + ·) 0

/-- A sample and its tag (03 Table 3.4). -/
abbrev Smp := Int × Nat

/-- 02 R58 with the scale of the channel's bank, read as an unsigned Q2.30 (DESIGN CHOICE, log 36: R79 does not say whether SCALE is signed); BSI channels have no trim. -/
def trimmed (s : State) (n : Nat) (t : Trim) (x : Int) : Int :=
  if isAin n then rshift (x * (2 ^ 26 + t.g) * 16 - t.o * ((chan s n).bank.getD 1 0).toNat) 30 else x

/-- An interval of overload, lengthened by `ext`, meets the window of `len` bits that ends at tick `t`. -/
def meets (o : Over) (ext len t : Nat) : Bool :=
  decide (o.start ≤ t) && (match o.stop with | none => true | some e => decide (t < e + ext + len - 1))

/-- Some other channel of the cluster disturbs the window (02 R64). -/
def disturbed (s : State) (n len t : Nat) : Bool :=
  isAin n && (List.range 12).any fun j =>
    12 * (n / 12) + j != n && (chan s (12 * (n / 12) + j)).overs.any fun o => meets o 80 len t

/-- The tag of a first-stage sample (03 R76). -/
def firstTag (s : State) (n len t : Nat) (ov : Bool) : Nat :=
  let c := chan s n
  b2n (c.overs.any fun o => meets o 0 len t) + 2 * b2n (disturbed s n len t) +
    4 * b2n (c.rlf.any fun h => decide (h.1 < t) && decide (t < h.1 + len)) + 8 * b2n ov

/-- The overload that holds at tick `t`. -/
def overAt (c : Ch) (t : Nat) : Option Over :=
  c.overs.find? fun o => decide (o.start ≤ t) && (match o.stop with | none => true | some e => decide (t < e))

/-- The first stage's output: shifted, saturated, trimmed, the saturation code in overload, then INV (02 R41, R63; 03 R75). -/
def firstOut (s : State) (n len t : Nat) (tr : Trim) (sum : Int) (sh : Nat) : Smp × Bool :=
  let c := chan s n
  let a := satSmp (rshift sum sh)
  let b := satSmp (trimmed s n tr a.1)
  let v := match overAt c t with
    | some o => if o.pos then 2147483647 else -2147483648
    | none => b.1
  let y := if chInv c then (satSmp (-v)).1 else v
  ((y, firstTag s n len t (a.2 || b.2)), a.2 || b.2)

/-- A filter stage: taps, whether it halves the rate, its shift. -/
structure Stage where
  taps : List Int
  half : Bool
  sh : Nat

def symTaps (h : List Int) : List Int := h ++ h.dropLast.reverse

/-- A half-band's stored taps up to the centre, with DC gain 1 (03 R75, R80): even distances 0, centre 2²¹. -/
def halfBand (ctr : Nat) (f : Nat → Int) : List Int :=
  let odd := (List.range (ctr - 1)).filter fun i => (ctr - i) % 2 == 1
  let s := odd.foldl (fun a i => a + f i) 0
  (List.range (ctr + 1)).map fun i =>
    if i = ctr then 2 ^ 21 else if (ctr - i) % 2 = 0 then 0 else if i = ctr - 1 then 2 ^ 20 - s else f i

/-- A compensation stage's stored taps with coefficient sum 5 × 2²⁰ (03 R73). -/
def compFir (ctr : Nat) (f : Nat → Int) : List Int :=
  let s := (List.range ctr).foldl (fun a i => a + f i) 0
  (List.range (ctr + 1)).map fun i => if i = ctr then 5 * 2 ^ 20 - 2 * s else f i

/-- ROM set `p` as a bank (03 R73, Table 3.6). -/
def romBank (p : Nat) : List Word :=
  let f (st : Nat) (i : Nat) : Int := sext 24 (unsext 24 (Config.romTap p (32 * st + i)))
  let h (st : Nat) : List Word := (halfBand 23 (f st)).map i32
  let k (st : Nat) : List Word := (compFir 16 (f st)).map i32
  let z (n : Nat) : List Word := List.replicate n 0
  let body := if p = 0 then k 0 ++ z 72 else if p = 1 then h 0 ++ k 1 ++ z 48 else h 0 ++ h 1 ++ h 2 ++ k 3
  let ws := [w32 (256 * p + 1), 0x33333333, 0] ++ body ++ z 3
  ws ++ [crc32c (wordsBytes ws)]

/-- Taps of a bank: `n` stored words from word `o` (03 Table 3.6). -/
def bankTaps (b : List Word) (o n : Nat) : List Int := (List.range n).map fun i => (b.getD (o + i) 0).toInt

/-- Stages S2 to the last of the preset (03 Table 3.2). -/
def stagesOf (c : Ch) : List Stage :=
  let sh (k : Nat) := bits c.cfg0 (4 * k - 1) (4 * k - 4)
  let h (o k : Nat) : Stage := { taps := symTaps (bankTaps c.bank o 24), half := true, sh := sh k }
  let f (o k : Nat) : Stage := { taps := symTaps (bankTaps c.bank o 17), half := false, sh := sh k }
  [{ taps := symTaps (halfBand 11 Config.s2Tap), half := true, sh := sh 2 }, { taps := symTaps (halfBand 15 Config.s3Tap), half := true, sh := sh 3 }] ++
    (match chPreset c with
    | 0 => [f 3 4]
    | 1 => [h 3 4, f 27 5]
    | _ => [h 3 4, h 27 5, h 51 6, f 75 7])

/-- The filter's exact sum and the tags in its window. -/
def firSum (taps : List Int) (xs : List Smp) : Int × Nat :=
  (List.zip taps xs).foldl (fun a x => (a.1 + x.1 * x.2.1, a.2 ||| x.2.2)) (0, 0)

/-- One stage output (03 R75): value with tag, and whether the stage saturated. -/
def stageOut (st : Stage) (xs : List Smp) : Smp × Bool :=
  let y := firSum st.taps xs
  let v := satSmp (rshift y.1 (22 + st.sh))
  ((v.1, if v.2 then y.2 ||| 8 else y.2), v.2)

/-- What feeding one sample through stages gives: histories, output, stages that saturated with whether their window held an overload. -/
structure Fed where
  hist : List (List Smp)
  out : Option Smp
  sats : List (Nat × Bool)

/-- Feed input number `m` into the stages, the first of which is stage `k` (03 R72: a ÷2 stage answers at even inputs). -/
def feed : List Stage → Nat → Nat → List (List Smp) → Smp → Fed
  | [], _, _, hs, x => { hist := hs, out := some x, sats := [] }
  | st :: rest, k, m, hs, x =>
    let h := (x :: hs.headD []).take st.taps.length
    if st.half && m % 2 == 1 then { hist := h :: hs.tail, out := none, sats := [] }
    else
      let y := stageOut st h
      let r := feed rest (k + 1) (if st.half then m / 2 else m) hs.tail y.1
      { r with hist := h :: r.hist, sats := if y.2 then (k, y.1.2.testBit 0) :: r.sats else r.sats }

/-- The detector takes an S3 sample at a tick (03 R94, R95): values in use load at a block's first sample. It takes every S3 output from index 0 on, also one whose window reaches back before the chain's first valid bit, and it runs during the PLL-loss fallback (DESIGN CHOICE, log 36: R94 and R95 say neither). -/
def detTake (c : Ch) (x : Smp) (t : Nat) : Detector :=
  if !chDet c then c.det
  else if c.det.xs.isEmpty then
    { c.det with xs := [x], freq := bits c.cfg2 19 0, hann := c.cfg2.getLsbD 30, len := bits c.cfg3 17 0 + 1, tstart := t }
  else { c.det with xs := x :: c.det.xs }

/-- A SOVF flag: STAGE_OVF when it is new and no overload explains it (03 R99). `i` is the bit of the sticky word. -/
def stageOvf (s : State) (n i : Nat) (ovr : Bool) : State :=
  if (sticky s n).getLsbD i then s
  else
    let a := setSticky s n i
    if ovr then a else event a .chn 0x1C [w32 n]

/-- A BSI channel is in overload during an S1 window in which 63 or more of its 64 bits are equal, with the sign of their level (02 R63). -/
def bsiOver (n : Nat) (new : List Bool) : Option Bool :=
  let ones := new.count true
  if isAin n || new.length != 64 then none else if 63 ≤ ones then some true else if ones ≤ 1 then some false else none

/-- Overloads still near enough to matter to a window. -/
def oversKept (c : Ch) (t : Nat) : List Over := c.overs.filter fun o => match o.stop with | some e => decide (t < e + 8192) | none => true

/-- OVR is set and recorded when it changes from 0 to 1 (02 R63, R68). -/
def setOvr (s : State) (n : Nat) : State := if (sticky s n).getLsbD 0 then s else event (setSticky s n 0) .chn 0x17 [w32 n]

/-- The S1 window of a BSI channel that ends at tick `t` is judged: an overload for the length of the window, lengthening one of the window before. -/
def bsiWindow (s : State) (n t : Nat) (new : List Bool) : State :=
  match bsiOver n new with
  | none => s
  | some pos =>
    let c := chan s n
    if (overAt c t).isSome then s
    else
      let os := match oversKept c t with
        | o :: r => if o.pos == pos && o.stop == some (t - 63) then { o with stop := some (t + 1) } :: r else { start := t - 63, stop := some (t + 1), pos := pos } :: o :: r
        | [] => [{ start := t - 63, stop := some (t + 1), pos := pos }]
      setOvr (modCh s n fun c => { c with overs := os }) n

/-- One S1 output of a chain: 64 bits of the channel's own modulator and, while it is connected, of the relief modulator, oldest first, ending at tick `t` = T1 + 64 m; each modulator has its own S1 stage (02 R51). -/
def chainS1 (s0 : State) (n m : Nat) (new sp : List Bool) : State × Option Smp :=
  let t := (chan s0 n).chain.t1 + 64 * m
  let s := bsiWindow s0 n t new
  let c := chan s n
  let win := (new.reverse ++ c.chain.bits).take 253
  let spw := (sp.reverse ++ c.chain.spBits).take 253
  let by' := carriedAt s n t
  let y := firstOut s n 253 t by'.2 (bitSum sinc4 16384 (if by'.1 then spw else win)) (bits c.cfg0 3 0)
  let r := feed (stagesOf c) 2 m c.chain.hist y.1
  let x3 := (r.hist.getD 2 []).head?
  let c2 := { c with chain := { c.chain with bits := win, spBits := spw, hist := r.hist } }
  let c3 := match x3 with | some x => if m % 4 = 0 then { c2 with det := detTake c2 x t } else c2 | none => c2
  let a := modCh s n fun _ => c3
  let b := if y.2 then stageOvf a n 4 (y.1.2.testBit 0) else a
  (r.sats.foldl (fun u k => stageOvf u n (3 + k.1) k.2) b, r.out)

/-- The S1 outputs of one primary output, in order; the answer is the sample of the last. -/
def chainRun (s : State) (n : Nat) : Nat → Nat → List Bool → List Bool → State × Option Smp
  | 0, _, _, _ => (s, none)
  | k + 1, m, bs, sp =>
    let r := chainS1 s n m (bs.take 64) (sp.take 64)
    if k = 0 then r else chainRun r.1 n k (m + 1) (bs.drop 64) (sp.drop 64)

/-- One output of the SURGE path: 8 bits ending at tick `t` (03 R75). -/
def surgeRun (s : State) (n : Nat) (new : List Bool) : State × Smp :=
  let c := chan s n
  let t := c.su.t1 + 8 * c.su.n
  let win := (new.reverse ++ c.su.bits).take 22
  let y := firstOut s n 22 t (carriedAt s n t).2 (bitSum sinc3 2097152 win) (bits c.cfg1 7 4)
  let h := (y.1 :: c.su.hist.headD []).take 63
  let z := stageOut { taps := symTaps (compFir 31 Config.su2Tap), half := false, sh := bits c.cfg1 11 8 } h
  let a := modCh s n fun x => { x with su := { x.su with bits := win, hist := h :: x.su.hist.tail } }
  let b := if y.2 then stageOvf a n 11 (y.1.2.testBit 0) else a
  (if z.2 then stageOvf b n 12 (z.1.2.testBit 0) else b, z.1)

/-- The running chain or path of a channel, its stream, and their update. -/
def pathOf (c : Ch) (surge : Bool) : Chain := if surge then c.su else c.chain
def streamOf (c : Ch) (surge : Bool) : Stream := if surge then c.sus else c.str
def setPath (c : Ch) (surge : Bool) (p : Chain) (st : Stream) : Ch :=
  if surge then { c with su := p, sus := st } else { c with chain := p, str := st }

def dPath (c : Ch) (surge : Bool) : Nat := if surge then 8 else dOf c.chain.preset

/-- The epoch item (03 Table 3.10). -/
def epochItem (n : Nat) (c : Ch) (surge : Bool) : SItem :=
  let p := pathOf c surge
  let d := dPath c surge
  let t := p.t1 + d * p.n0
  { kind := 1, bseq := 0,
    bytes := le 4 (2 ^ 28 + p.cause * 2 ^ 24 + c.chain.preset * 2 ^ 22 + b2n surge * 2 ^ 21 + n * 2 ^ 14 + p.t1 % d) ++ le 8 (t % 2 ^ 56) ++
      le 4 (if surge then 0 else (c.bank.getD 95 0).toNat) }

/-- The end item; `last` is none when no sample was emitted. -/
def endItem (n : Nat) (c : Ch) (surge : Bool) (cause : Nat) (last : Option (Nat × Nat)) : SItem :=
  let l := last.getD (0xFFFFFFFF, 0)
  { kind := 2, bseq := 0,
    bytes := le 4 (2 * 2 ^ 28 + cause * 2 ^ 24 + c.chain.preset * 2 ^ 22 + b2n surge * 2 ^ 21 + n * 2 ^ 14) ++ le 4 l.1 ++ le 4 l.2 ++ le 4 0 }

/-- A block of up to 16 samples (03 R85). -/
def blockItem (s : State) (n : Nat) (surge : Bool) : SItem :=
  let c := chan s n
  let st := streamOf c surge
  let xs := st.blk.reverse
  let tags := (xs.mapIdx fun i x => x.2 * 2 ^ (4 * i)).foldl (· + ·) 0
  let sovf := xs.any fun x => x.2.testBit 3
  let h := st.blkGen * 2 ^ 24 + st.blkCar * 2 ^ 22 + (if surge then 3 else c.chain.preset) * 2 ^ 20 +
    b2n st.blkFb * 2 ^ 19 + b2n sovf * 2 ^ 18 + n * 2 ^ 11 + (pathOf c surge).t1 % dPath c surge
  { kind := 0, bseq := st.nextB,
    bytes := le 4 st.nextB ++ le 4 h ++ le 8 tags ++ (List.range 16).flatMap fun i => le 4 (i32 (xs.getD i (0, 0)).1).toNat }

/-- Write the block being filled, then the detector items that wait for it. -/
def closeBlock (s : State) (n : Nat) (surge : Bool) : State :=
  let b := blockItem s n surge
  modCh s n fun c =>
    let st := streamOf c surge
    let u := strPush { st with blk := [], blkFb := false, nextB := (st.nextB + 1) % 2 ^ 32 } surge b
    if surge then { c with sus := u }
    else { c with str := c.det.out.foldl (fun t o => strPush t false { kind := 3, bseq := 0, bytes := o }) u, det := { c.det with out := [] } }

/-- Write the epoch item before sample 0 (03 R87, R88: the latest epoch is kept). -/
def openStream (s : State) (n : Nat) (surge : Bool) : State :=
  modCh s n fun c =>
    let p := pathOf c surge
    if p.started then c
    else
      let e := epochItem n c surge
      setPath c surge { p with started := true } { strPush (streamOf c surge) surge e with epoch := some e.bytes }

/-- A path without state; the preset stays for its status word. -/
def idlePath (p : Chain) (again : Nat) : Chain := { Chain.zero with preset := p.preset, again := again }

/-- End a chain or path with its end item; `again` says what restarts it (03 R87, R96). Its epoch item is kept only while it runs (R88). -/
def endPath (s : State) (n : Nat) (surge : Bool) (cause again : Nat) : State :=
  let p := pathOf (chan s n) surge
  if p.st = 0 then s
  else if p.wait then modCh s n fun c => setPath c surge (idlePath p again) { streamOf c surge with words := 0, epoch := none }
  else
    let any := p.started
    let a := openStream s n surge
    let k := (streamOf (chan a n) surge).blk.length
    let b := if k = 0 then a else closeBlock a n surge
    modCh b n fun c =>
      let st := streamOf c surge
      let last := if any then some ((st.nextB + 2 ^ 32 - 1) % 2 ^ 32, if k = 0 then 16 else k) else none
      let u := strPush (c.det.out.foldl (fun t o => if surge then t else strPush t false { kind := 3, bseq := 0, bytes := o }) st) surge
        (endItem n c surge cause last)
      let c2 := setPath c surge (idlePath p again) { u with ended := some (now s), epoch := none }
      if surge then c2 else { c2 with det := { Detector.zero with idx := 0 } }

/-- End the chain and, with it, its SURGE path (03 R81); a chain that a CHN.STOP was to end at its block boundary is not restarted. -/
def endChain (s : State) (n cause again : Nat) : State :=
  let k := if (chan s n).chain.ending.isSome then 0 else again
  endPath (endPath s n true cause k) n false cause k

/-- Index of the first emitted output: the earliest whose window reaches back no further than `first` cycles after T1 (03 R83). -/
def firstIndex (d span first : Nat) : Nat := (span + first + d - 1) / d

/-- Words that the ring of a start needs beyond those in use: none when the channel's held ring continues (03 R88). -/
def ringNeed (c : Ch) : Nat := if c.str.words = ringWords (chPreset c) then 0 else ringWords (chPreset c)
def ringFits (s : State) (n : Nat) : Bool := decide (ringSum s + ringNeed (chan s n) ≤ 262144)

/-- The SURGE path starts when the channel's chain runs and the PLL is locked; otherwise it waits (03 R91). -/
def startSurge (s : State) (n cause t1 : Nat) : State :=
  let c := chan s n
  if !chSurge c || c.chain.st = 0 then s
  else if s.clk.fallback.isSome || c.chain.wait then modCh s n fun c => { c with su := { c.su with wait := true, again := 1, cause := cause } }
  else
    modCh s n fun c =>
      { c with su := { Chain.zero with st := 1, t1 := t1, preset := 3, n0 := firstIndex 8 517 0, cause := cause },
               sus := { c.sus with nextB := 0, ended := none, words := 2048, depth := 128, blk := [], blkFb := false } }

/-- A chain starts at origin `t1`; its first valid bit is `first` cycles later (03 R82 to R84). -/
def startChain (s : State) (n cause t1 first : Nat) : State :=
  modCh s n fun c =>
    let p := chPreset c
    { c with chain := { Chain.zero with st := 1, t1 := t1, preset := p, n0 := firstIndex (dOf p) (spanOf p) first, cause := cause },
             str := { takeRing c.str c.chain.preset p with nextB := 0, blk := [], blkFb := false }, det := Detector.zero }

/-- The first MOD edge after now. -/
def nextEdge (s : State) : Nat := now s + 1

/-- Start a chain and its SURGE path at the next edge. -/
def startAll (s : State) (n cause : Nat) : State := startSurge (startChain s n cause (nextEdge s) 0) n cause (nextEdge s)

/-- A chain reserves its ring at issue and waits for relock (03 R82, R88). -/
def startWaiting (s : State) (n cause : Nat) : State :=
  modCh s n fun c =>
    { c with chain := { Chain.zero with st := 1, preset := chPreset c, cause := cause, wait := true },
             str := takeRing c.str c.chain.preset (chPreset c) }

/-- CHAIN_STOP and CHAIN_START (03 Table 3.14). -/
def chainStopEvent (s : State) (n : Nat) : State := event s .chn 0x19 [w32 n]
def chainStartEvent (s : State) (n : Nat) : State :=
  let c := (chan s n).chain
  event s .chn 0x1A ([w32 n] ++ two c.t1 ++ [w32 (c.t1 % dOf c.preset)])

/-- Over all channels in ascending order. -/
def eachCh (s : State) (f : State → Nat → State) : State := (List.range 128).foldl f s

/-- The detectors hold no block across a change of clock (03 R95). -/
def dropDet (s : State) (n : Nat) : State := modCh s n fun c => { c with det := { Detector.zero with out := c.det.out } }

/-- BSCLKg runs: its start instant has passed and one of its eight channels is enabled; it is held low otherwise (02 R46, R69). -/
def bsclkRuns (s : State) (g : Nat) : Bool := s.bsclk.getD g false && (List.range 8).any fun i => chEnabled (chan s (96 + 8 * g + i))

/-- The channel's modulator or bitstream runs. -/
def chRuns (s : State) (n : Nat) : Bool := chEnabled (chan s n) && (if isAin n then (clu s (n / 12)).on else bsclkRuns s ((n - 96) / 8))

/-! ## The fast path (03 R92, R93) -/

/-- A fast path starts at an origin; its first valid bit is `first` cycles later. -/
def startFast (t first : Nat) : Fast := { Fast.zero with tf := t, first := first }

/-- The code of a sinc³ sum of full scale 2¹⁸: 20,480 times the density value with the carrier's trims, rounded half up once, and saturated to ±32,767 (R92; log 36 for the one rounding). -/
def fastCode (t : Trim) (sum : Int) : Int × Bool :=
  let x := rshift (sum * 20480 * (2 ^ 26 + t.g) - t.o * 2 ^ 28) 44
  if 32767 < x then (32767, true) else if x < -32767 then (-32767, true) else (x, false)

/-- t_zc, rounded down to whole MOD cycles (03 R93). -/
def zcInstant (tf n : Nat) (f0 f1 : Int) : Nat :=
  let d := f0 - f1
  let k : Int := 2 * (tf + 64 * (n - 1)) - 189
  ((k * d.natAbs + 128 * f0.natAbs) / (2 * d.natAbs)).toNat

/-- The crossing that value `f1` completes, and the arming after it (R93); nothing is armed while ZC_EN is 0. -/
def zcStep (en : Bool) (hyst : Int) (arm : Nat) (f1 : Int) : Option Bool × Nat :=
  if !en then (none, 0)
  else
    let hit := if arm = 1 ∧ 0 ≤ f1 then some true else if arm = 2 ∧ f1 ≤ 0 then some false else none
    (hit, if f1 < -hyst then 1 else if hyst < f1 then 2 else if hit.isSome then 0 else arm)

/-- One fast-path value: 64 bits of either modulator, oldest first, ending at tick TF + 64n. -/
def fastStep (s : State) (n : Nat) (new sp : List Bool) : State :=
  modCh s n fun c =>
    let f := c.fast
    let t := f.tf + 64 * f.n
    let win := (new.reverse ++ f.bits).take 190
    let spw := (sp.reverse ++ f.spBits).take 190
    let by' := carriedAt s n t
    let tr := if isAin n then by'.2 else Trim.zero
    let y := fastCode tr (bitSum sincFast 1 (if by'.1 then spw else win))
    let g := { f with n := f.n + 1, bits := win, spBits := spw }
    if f.n < firstIndex 64 189 f.first then { c with fast := g }
    else
      let z := zcStep (c.cfg1.getLsbD 15) (bits c.cfg1 27 16) f.arm y.1
      { c with
        fast := { g with value := some (y.1, firstTag s n 190 t y.2), arm := z.2 }
        zc := match z.1, f.value with
          | some up, some f0 => ((up, zcInstant f.tf f.n f0.1 y.1) :: c.zc).take 8
          | _, _ => c.zc }

/-- As many values as 64-bit groups of bits. -/
def fastRun (s : State) (n : Nat) : Nat → List Bool → List Bool → State
  | 0, _, _ => s
  | k + 1, bs, sp => fastRun (fastStep s n (bs.take 64) (sp.take 64)) n k (bs.drop 64) (sp.drop 64)

end Sys2Proof.Machine
end

