-- ==== Sys2Proof/Machine/ReliefOps.lean ====
section
/-! DEFINITION. The relief rotation's shared parts: shadow, trims, abandonment, retirement, hold-ups (02 R44 to R61). -/

namespace Sys2Proof.Machine

/-- Where the shadow of a cluster lies in the calibration table (log 15). -/
def shadowAddr (k : Nat) : Nat := 0x28000 + 0x400 * k
def shadowWord (s : State) (k i : Nat) : Word := Mem.word s.mram (shadowAddr k + 4 * i)

/-- Seal generation; 0 while the shadow has never been written (02 R44). -/
def shadowGen (s : State) (k : Nat) : Nat := (shadowWord s k 0).toNat
/-- REFB ratio for a gain, and the shadow trims of a modulator at a gain (02 Table 2.5). -/
def shadowRatio (s : State) (k g : Nat) : Nat := (shadowWord s k (3 + 3 * g)).toNat
/-- The codes that +L and −L must give: the shadow's, or ±2²⁹ without one (02 R44, R58). -/
def levelPos (s : State) (k g : Nat) : Int := if shadowGen s k = 0 then 2 ^ 29 else (shadowWord s k (1 + 3 * g)).toInt
def levelNeg (s : State) (k g : Nat) : Int := if shadowGen s k = 0 then -2 ^ 29 else (shadowWord s k (2 + 3 * g)).toInt
def shadowG (s : State) (k m g : Nat) : Int := sext 24 (bits (shadowWord s k (19 + 12 * m + 2 * g)) 23 0)
def shadowO (s : State) (k m g : Nat) : Int := sext 24 (bits (shadowWord s k (20 + 12 * m + 2 * g)) 23 0)

/-- A handover boundary falls now: the carrier and the trim up to it (02 R60). -/
def markRlf (s : State) (n : Nat) : State :=
  modCh s n fun c => { c with rlf := (now s, onRelief s n, trimNow s n) :: c.rlf.filter fun h => decide (now s < h.1 + 8192) }

/-- A new shadow clears CAL_DRIFT and CAL_SUSPECT and leaves the drift state, with its record (02 R45, R66, R68); in REPAIR it undoes retirement and loss of relief (R56). When and where the rotation then goes on is DESIGN CHOICE (log 16): the slot that stopped starts again at the store, and a retired channel returns to its own modulator there. -/
def newShadow (s : State) (k : Nat) : State :=
  let a := (List.range 12).foldl (fun t j => clearSticky t (12 * k + j) 0xC) s
  let b := if (clu a k).drift then event (modClu a k fun c => { c with drift := false }) .chn 0x13 [w32 k] else a
  if lcState s = 4 then
    let c := match (clu b k).retired with | some j => markRlf b (12 * k + j) | none => b
    modClu c k fun c => { c with retired := none, stopped := false, next := if c.stopped then some (now s) else c.next, phase := if c.stopped then 0 else c.phase }
  else b

/-- The clusters whose seal generation a store has changed. -/
def shadowHook (old s : State) : State :=
  (List.range 8).foldl (fun t k => if shadowGen old k = shadowGen s k then t else newShadow t k) s

def ms (n : Nat) : Nat := 4000 * n

/-- The channel of the slot in progress. -/
def slotCh (s : State) (k : Nat) : Nat := 12 * k + (clu s k).slot

/-- Instant `n` ms of the slot, hold-ups included (02 R51). -/
def slotAt (s : State) (k n : Nat) : Nat := (clu s k).start + (clu s k).off + ms n

/-- A trim outside the range of the trim record (02 Table 2.9). -/
def trimBad (g o : Int) : Bool := decide (g < -8388608) || decide (8388607 < g) || decide (o < -8388608) || decide (8388607 < o)

/-- The trim that makes the codes of +L, −L and zero those of the shadow (02 R58): the span of the levels gives the gain and the zero the offset, each rounded half up to its LSB (log 16); none when the measured levels do not rise. -/
def trimFor (s : State) (k g : Nat) (zero pos neg : Int) : Option (Int × Int) :=
  let d := pos - neg
  if d ≤ 0 then none
  else
    let gt := (2 ^ 27 * (levelPos s k g - levelNeg s k g - d) + d) / (2 * d)
    some (gt, (zero * (2 ^ 26 + gt) + 2 ^ 25) / 2 ^ 26)

/-- A calibration whose trim lies outside the record's range; levels that do not rise count as such (log 16). -/
def calBad (t : Option (Int × Int)) : Bool := match t with | some (g, o) => trimBad g o | none => true

/-- REFB's measured ratio to +L departs from the shadow's by more than 30 ppm (02 R45). -/
def refDrift (s : State) (k g : Nat) (pos refb : Int) : Bool :=
  let r : Int := shadowRatio s k g
  shadowGen s k != 0 && (decide (pos ≤ 0) || decide (30 * r * pos < 1000000 * (refb * 2 ^ 30 - r * pos).natAbs))

/-- Follow the drift state, with REF_DRIFT on entry and on leaving (02 R45, R68). -/
def driftCheck (s : State) (k g : Nat) (pos refb : Int) : State :=
  let d := refDrift s k g pos refb
  if d == (clu s k).drift then s else event (modClu s k fun c => { c with drift := d }) .chn 0x13 [w32 k]

/-- CAL_DRIFT (02 R59): more than 500 ppm of gain, or 100 ppm of full scale. -/
def calDrift (s : State) (k m n : Nat) (g o : Int) : State :=
  let gn := chGain (chan s n)
  let far := decide (500 * 67108864 < 1000000 * (g - shadowG s k m gn).natAbs) || decide (100 * 1073741824 < 1000000 * (o - shadowO s k m gn).natAbs)
  if shadowGen s k = 0 || !far || (sticky s n).getLsbD 2 then s else event (setSticky s n 2) .chn 0x14 [w32 n]

/-- Commit a trim record (02 R57). -/
def commitTrim (s : State) (k m gain : Nat) (g o d : Int) : State :=
  let t := trimRec s k m gain
  { s with mram := Mem.writeN s.mram (trimAddr k m gain) (trimBytes
    { gen := (t.gen + 1) % 256, g := g, o := o, cals := sat 65535 (t.cals + 1), drift := d, time := btNow s / 1000000 % 2 ^ 32 }) }

/-- SPk's record is committed unless R45 withholds it (02 R57). -/
def commitSp (s : State) (k : Nat) : State :=
  match (clu s k).sp with
  | some (g, o) => modClu (commitTrim s k 12 (chGain (chan s (slotCh s k))) g o 0) k fun c => { c with sp := none }
  | none => s

/-- The slot is idle until its end; a pause asked for takes effect (02 R61). -/
def slotIdle (s : State) (k : Nat) : State :=
  modClu s k fun c => { c with phase := 6, dirty := false, parked := false, mj := none, paused := c.pausing }

/-- The rotation of a cluster stops (02 R55, R56). -/
def stopRotation (s : State) (k : Nat) : State := modClu s k fun c => { c with phase := 6, stopped := true, sp := none, mj := none }

/-- RELIEF_ABORT (02 Table 2.13): reason 1 MISMATCH, 2 HELD; qualifier 0 for a take-over, 1 for a return or verification that waits. -/
def abortEvent (s : State) (n reason q : Nat) : State := event s .chn 0x11 [w32 n, w32 reason, w32 q]

/-- A counted abandonment before take-over; the third in a row sets CAL_SUSPECT (02 R52, R53). -/
def abandon (s : State) (k reason : Nat) : State :=
  let n := slotCh s k
  let a := slotIdle (abortEvent (modCh s n fun c => { c with aborts := sat 15 (c.aborts + 1) }) n reason 0) k
  if (chan s n).aborts + 1 = 3 && !(sticky a n).getLsbD 3 then event (setSticky a n 3) .chn 0x15 [w32 n] else a

/-- Mj is retired (02 R55). -/
def retire1 (s : State) (k : Nat) : State :=
  let n := slotCh s k
  event (stopRotation (modClu s k fun c => { c with retired := some c.slot }) k) .chn 0x12 [w32 n]

/-- The channel's slot is skipped: not enabled, chain stopped, or SURGE (02 R50). -/
def slotSkip (s : State) (n : Nat) : Bool := let c := chan s n; !chEnabled c || c.chain.st == 0 || chSurge c

/-- The channel is clean for a comparison (02 R53, R54). -/
def cleanNow (s : State) (k : Nat) : Bool := !(clu s k).dist && (chan s (slotCh s k)).overs.all fun o => o.stop.isSome

def comparing (c : Cluster) : Bool := c.phase == 2 || c.phase == 4 || c.phase == 5

/-- An overload or a disturbance in the cluster discards the comparison in progress (02 R53). -/
def soil (s : State) (k : Nat) : State := modClu s k fun c => if comparing c then { c with dirty := true } else c

/-- Length of the comparison of a phase, in ms, and the slot's nominal instant at which it ends. -/
def cmpLen (p : Nat) : Nat := if p = 5 then 50 else 100
def cmpEnd (p : Nat) : Nat := if p = 2 then 301 else if p = 4 then 1902 else 1952

/-- The first tick from `t` on whose S1 sample on the slot's channel no ended overload tags: 252 cycles after the end of one of its own, 80 more after one of another channel (02 R53, R64). -/
def cleanFrom (s : State) (k t : Nat) : Nat :=
  ((List.range 12).flatMap fun j =>
    (chan s (12 * k + j)).overs.filterMap fun o => o.stop.map fun e => e + (if j = (clu s k).slot then 252 else 332)).foldl max t

/-- A comparison restarts from its beginning once its S1 windows are clean. -/
def restartCmp (s : State) (k : Nat) : State := modClu s k fun c => if c.dirty then { c with dirty := false, cmpAt := cleanFrom s k (now s) } else c

/-- The comparison of the phase runs undisturbed (02 R51 to R54, Table 2.10), and its end. -/
def cmpDue (s : State) (k p : Nat) : Bool :=
  let c := clu s k
  alive s && c.on && c.phase == p && !c.dirty && !c.parked && cleanNow s k

def cmpAtEnd (s : State) (k p : Nat) : Nat := (clu s k).cmpAt + ms (cmpLen p)

/-- The first S1 boundary of the slot's channel from `t` on (02 R51). -/
def s1Edge (s : State) (k t : Nat) : Nat := let o := (chan s (slotCh s k)).chain.t1; o + (t - o + 63) / 64 * 64

/-- A handover or trim change waits for the PLL (02 Table 2.10). -/
def lockedNow (s : State) : Bool := s.clk.fallback.isNone

/-- Phase `p` begins with a comparison from `t` on; an overload or disturbance in progress, or still in its first S1 windows, holds it up from the start (02 R53). -/
def enterCmp (s : State) (k p t : Nat) : State :=
  modClu s k fun c => { c with phase := p, cmpAt := cleanFrom s k t, first := t, dirty := !cleanNow s k }

/-- Hold-ups move every later phase: `t` is the instant `n` ms of the slot (02 R51). -/
def shiftTo (s : State) (k n t : Nat) : State := modClu s k fun c => { c with off := t - (c.start + ms n) }

/-- Time the slot has waited: how far the comparison runs beyond its undisturbed end (02 R62; log 16). -/
def waitOf (s : State) (k : Nat) : Nat :=
  let c := clu s k
  if comparing c then now s - (c.first + ms (cmpLen c.phase)) else 0

/-- The chain of a slot's channel has stopped (02 Table 2.10). -/
def reliefStopped (s : State) (n : Nat) : State :=
  let k := n / 12
  let c := clu s k
  if !isAin n || c.slot ≠ n % 12 || c.retired.isSome then s
  else if c.phase = 1 || c.phase = 2 then slotIdle s k
  else if c.phase = 3 || c.phase = 4 || c.phase = 5 then modClu s k fun c => { c with parked := true }
  else s

/-- The chain of a carried channel restarts: the slot goes on from the return comparison (02 Table 2.10). -/
def reliefStarted (s : State) (n : Nat) : State :=
  let k := n / 12
  let c := clu s k
  if isAin n && c.slot = n % 12 && c.parked then
    let a := modClu s k fun c => { c with parked := false }
    if c.phase = 3 then a else enterCmp a k 4 (now s)
  else s

/-- A SLACK release: a slot in progress restarts from 0 ms with the channel on its own modulator (02 Table 2.10). -/
def reliefRelease (s : State) : State :=
  { s with clus := s.clus.map fun c =>
      if c.phase = 0 || c.stopped then c
      else { c with phase := 0, next := some (now s), off := 0, dirty := false, parked := false, second := false, cal := none, mj := none } }

/-- The end of STARTUP fixes the first slots (02 R50). -/
def reliefArm (s : State) : State := { s with clus := s.clus.mapIdx fun k c => { c with next := some (now s + ms (1000 * (1 + 3 * k))) } }

/-- At power-up every channel starts on its own modulator unless it is retired (02 Table 2.10). -/
def reliefStartup (s : State) : State :=
  { s with clus := s.clus.map fun c => { Cluster.zero with stopped := c.stopped, retired := c.retired, phase := if c.stopped then 6 else 0,
                                                           slot := c.retired.getD 0 },
           bsclk := List.replicate 4 false }

/-- Leaving SERVICE resumes paused rotations with the next slot (02 Table 2.10). -/
def resumeClu (s : State) (k : Nat) : State :=
  modClu s k fun c =>
    if c.paused then { c with paused := false, pausing := false, phase := 0, slot := (c.slot + 1) % 12, next := some (now s) }
    else { c with pausing := false }

def reliefLeaveService (s : State) : State := (List.range 8).foldl resumeClu s

/-- A cluster with some enabled channel. -/
def cluUsed (s : State) (k : Nat) : Bool := (List.range 12).any fun j => chEnabled (chan s (12 * k + j))

/-- At relock a trim of SPk that the fallback held back is applied (02 Table 2.10). -/
def reliefRelock (s : State) : State := (List.range 8).foldl (fun t k => if (clu t k).cal.isNone then commitSp t k else t) s

/-- REDUCED powers down the clusters without an enabled channel; RUN brings them back (02 Table 2.10). Where the rotation of such a cluster goes on is DESIGN CHOICE (log 16): the slot that was powered down starts again at once. -/
def reliefReduce (s : State) : State :=
  { s with clus := s.clus.mapIdx fun k c => if cluUsed s k then c else { c with on := false } }
def reliefReturn (s : State) : State :=
  { s with clus := s.clus.map fun c =>
      if c.on then c else { c with on := true, phase := if c.stopped then 6 else 0, next := some (now s) } }

/-! ## What the clocks and the modes do to the chains (03 R95, R96, Table 3.12) -/

/-- End a chain for another reason than CHN.STOP; the relief slot of its channel follows (02 Table 2.10). -/
def loseChain (s : State) (n cause again : Nat) : State :=
  if (chan s n).chain.st = 0 then s else reliefStopped (endChain s n cause again) n

/-- A chain restarts at the next edge, and a parked relief slot with it. -/
def regainChain (s : State) (n cause : Nat) : State := reliefStarted (startAll s n cause) n

/-- PLL loss (03 Table 3.12): SPRING chains and SURGE paths end with cause 1. -/
def chnPllLoss (s : State) : State :=
  eachCh s fun t n =>
    let c := chan t n
    if c.chain.st ≠ 0 && c.chain.preset = 0 && !c.chain.wait then loseChain t n 1 1
    else dropDet (endPath t n true 1 1) n

/-- PLL relock (03 R82, R91, Table 3.12): CHAIN_START for the chains that a CHN.START left waiting, cause 1. -/
def chnRelock (s : State) : State :=
  eachCh s fun t n =>
    let c := chan t n
    if c.chain.wait then
      let u := regainChain t n c.chain.cause
      if c.chain.cause = 1 then chainStartEvent u n else u
    else if c.chain.again = 1 then
      (if ringFits t n then regainChain t n 2 else chainStopEvent (modCh t n fun x => { x with chain := { x.chain with again := 0 } }) n)
    else
      let u := dropDet t n
      if c.su.again = 1 then startSurge u n (if c.su.wait then c.su.cause else 2) (nextEdge t) else u

/-- Release from SLACK (03 Table 3.12): every running chain ends with cause 2 and restarts with cause 3, unless a CHN.STOP was to end it. -/
def chnRelease (s : State) : State :=
  eachCh s fun t n =>
    let c := chan t n
    let a := if c.chain.st ≠ 0 && !c.chain.wait then
        (if c.chain.ending.isSome then endChain t n 2 0 else startAll (endChain t n 2 0) n 3)
      else t
    modCh a n fun x => { x with fast := startFast (nextEdge s) 0 }

/-- Entry to REDUCED (03 Table 3.12): channels that `keep` does not hold end with cause 3, SURGE paths on every channel; a SPRING chain outside the set that PLL loss ended waits for the return to RUN. -/
def chnReduce (s : State) (keep : Nat → Bool) : State :=
  eachCh s fun t n =>
    if keep n then endPath t n true 3 2
    else
      let u := loseChain t n 3 2
      modCh u n fun x => { x with chain := { x.chain with again := if x.chain.again = 1 then 2 else x.chain.again } }

/-- Return to RUN (03 Table 3.12): the chains and SURGE paths that the mode stopped restart with cause 4, and the fast path where the cluster comes back; a SPRING chain waits while the PLL is unlocked. -/
def chnReturn (s : State) : State :=
  eachCh s fun t n =>
    let c := chan t n
    let u := if isAin n && !(clu t (n / 12)).on && chEnabled c then modCh t n fun x => { x with fast := startFast (nextEdge s) 0 } else t
    if c.chain.again ≠ 2 then (if c.su.again = 2 && c.su.st = 0 then startSurge u n 4 (nextEdge s) else u)
    else if !ringFits u n then modCh u n fun x => { x with chain := { x.chain with again := 0 } }
    else if chPreset c = 0 && u.clk.fallback.isSome then startWaiting u n 4
    else regainChain u n 4

/-- Start-up origins (03 R84). -/
def startT1 (n : Nat) : Nat := if isAin n then 100 * (n / 12) else 1056 + 100 * ((n - 96) / 8)

/-- Where a channel's input word, its four configuration words and its bank lie in the channel configuration block (log 15). -/
def cfgAddr (n : Nat) : Nat := 0x10000 + 512 * n

/-- The parts of a memory that hold channels `n`, `n + 1` and so on. -/
def cfgParts : Nat → Nat → Mem → List Mem
  | 0, _, _ => []
  | k + 1, n, m =>
    let r := m.dropWhile fun c => decide (c.1 < cfgAddr n)
    (r.takeWhile fun c => decide (c.1 < cfgAddr (n + 1))) :: cfgParts k (n + 1) r

/-- CHN restores every channel's words and bank before t0 (03, Start-up). -/
def restoreChs (s : State) : List Ch :=
  List.zipWith (fun n (x : Mem × Ch) =>
    let w (i : Nat) : Word := Mem.word x.1 (cfgAddr n + 4 * i)
    { x.2 with input := w 0, cfg0 := w 1, cfg1 := w 2, cfg2 := w 3, cfg3 := w 4, bank := (List.range 96).map fun i => w (5 + i) })
    (List.range 128) (List.zip (cfgParts 128 0 s.mram) s.chs)

/-- At t0 every enabled chain whose ring fits starts, in channel order; the others record CHAIN_STOP (03 R84). -/
def chnStartup (s : State) : State :=
  let z := { s with chs := (restoreChs s).map fun c =>
    { c with chain := Chain.zero, su := Chain.zero, str := Stream.zero, sus := Stream.zero, det := Detector.zero, aborts := 0, overs := [],
             clamp := false, stuck := false, rlf := [], zc := [], fast := Fast.zero } }
  eachCh z fun t n =>
    let c := chan t n
    if !chEnabled c then t
    else
      let first := if isAin n then 64 else 0
      let a := modCh t n fun x => { x with fast := startFast (startT1 n) first }
      if ringFits a n then startSurge (startChain a n 0 (startT1 n) first) n 0 (startT1 n + first)
      else chainStopEvent a n

end Sys2Proof.Machine
end

