-- ==== Sys2Proof/Machine/RlyOps.lean ====
section
/-! DEFINITION. Metering-point definitions and result frames as the units read them; the relay sequencer's states, predictions and verdicts (09 R269 to R285). -/

namespace Sys2Proof.Machine

/-- Fields of a metering point's definition (06 Table 6.1): word 1 to 5. -/
def defWord (s : State) (mp w : Nat) : Word := (s.defs.getD mp []).getD (w - 1) 0
def mpKind (s : State) (mp : Nat) : Nat := bits (defWord s mp 1) 9 8
def mpDefined (s : State) (mp : Nat) : Bool := mpKind s mp != 0

/-- Fields of a result frame (06 Table 6.8). -/
def frSeq (f : Bytes) : Nat := fld 0 4 f
def frMp (f : Bytes) : Nat := fld 4 1 f % 32
def frKind (f : Bytes) : Nat := fld 4 1 f / 32
def frFlags (f : Bytes) : Nat := fld 6 2 f
def frCrc (f : Bytes) : Nat := fld 60 4 f
def frFirst (f : Bytes) : Bool := (frFlags f).testBit 8

/-- The MODTICK that END_TICK names (08 R236). -/
def frEnd (s : State) (f : Bytes) : Nat := now s - (now s + 2 ^ 32 - fld 8 4 f) % 2 ^ 32

/-- LEN, and the cycle's start. -/
def frLen (f : Bytes) : Nat := fld 12 3 f
def frStart (s : State) (f : Bytes) : Nat := frEnd s f - frLen f
def frVload (f : Bytes) : Bool := (frFlags f).testBit 10

def rel (s : State) (r : Nat) : Relay := s.rly.getD r Relay.zero
def modRel (s : State) (r : Nat) (f : Relay → Relay) : State := { s with rly := s.rly.modify r f }

/-- A relay with PILOT_EN names the pair `n` (13 R376). -/
def bound (s : State) (n : Nat) : Bool := s.rly.any fun x => x.pilotEn && x.pilotAcc == n

/-- RLYn is energised (09 Table 9.5). -/
def coilOn (x : Relay) : Bool := decide (2 ≤ x.st) && decide (x.st ≤ 5)
def coilAny (s : State) : Bool := s.rly.any coilOn

/-- Feedback indications: closed (R269). -/
def fbA (x : Relay) : Bool := x.a != x.polA
def fbB (x : Relay) : Bool := x.b != x.polB

/-- The coil of the point was energised at tick `t` (R280). -/
def coilAt (x : Relay) (t : Nat) : Bool := match x.coils.find? fun c => decide (c.1 ≤ t) with | some c => c.2 | none => false

/-- Channels of the reference phase: voltage and current (06 Table 6.1). -/
def refPh (s : State) (mp : Nat) : Nat := bits (defWord s mp 1) 15 14
def vRef (s : State) (mp : Nat) : Nat := bits (defWord s mp 2) (8 * refPh s mp + 7) (8 * refPh s mp)
def iRef (s : State) (mp : Nat) : Nat := bits (defWord s mp 3) (8 * refPh s mp + 7) (8 * refPh s mp)
def isDc (s : State) (mp : Nat) : Bool := mpKind s mp == 2

/-- R273: the first crossing of a channel at or after `t`. -/
def predict (s : State) (ch t : Nat) : Option Nat :=
  match (chan s ch).zc with
  | (_, z1) :: (_, z2) :: _ =>
    let h := z1 - z2
    if 128 ≤ ch || 88889 < now s - z1 || h < 30769 || 44445 < h then none else some (z1 + (t - z1 + h - 1) / h * h)
  | _ => none

/-- R282: close permission is in force. -/
def permit (s : State) : Bool := s.grant && !s.hl.grantLost && !ldgHold s && decide (lcState s < 5)

/-- Table 9.10, as bits 8 to 10. -/
def holds (s : State) : Nat := 256 * b2n s.hl.grantLost + 512 * b2n (ldgHold s) + 1024 * b2n (decide (5 ≤ lcState s))

/-- The steady-state condition on the feedback (Table 9.9). -/
def fbBad (x : Relay) : Bool :=
  if x.st = 3 || x.st = 4 then fbA x != fbB x || !(fbA x || fbB x) else x.st == 0 && (fbA x || fbB x)

/-- Start or end the 10 ms of Table 9.9. -/
def watchFb (s : State) (r : Nat) : State :=
  modRel s r fun x => { x with badSince := if fbBad x then some (x.badSince.getD (now s)) else none }

/-- CLOSED or GRACE (Table 9.5). -/
def steadyOn (st : Nat) : Bool := st == 3 || st == 4

/-- A change of STATE: the LEGAL world's event and the host event RELAY (R285; 17 Table 17.4). The 10 ms of FB_STEADY run on between CLOSED and GRACE (Table 9.9). -/
def setRel (s : State) (r st : Nat) (f : Relay → Relay) : State :=
  let a := modRel s r fun x => f { x with st := st, badSince := if steadyOn x.st && steadyOn st then x.badSince else none }
  if st = (rel s r).st then watchFb a r
  else
    let x := rel a r
    let b := if st = 5 || st = 6 then x.trigger else if st = 7 then x.fault else 0
    watchFb (unitEv (hostEvent a 5 r st b) .legal .rly) r

/-- Posted operations of a relay: 1 RLY.CLOSE, 2 RLY.OPEN. -/
def rlyOp (op r : Nat) (p : Posted) : Bool := p.unit == .rly && p.op == op && bits (p.words.getD 1 0) 4 0 == r

/-- The coil changes. -/
def coilChange (s : State) (r : Nat) (on : Bool) : State :=
  modRel s r fun x => { x with coils := ((now s, on) :: x.coils).take 8, m := now s }

def rlyEvent (s : State) (code r : Nat) (ps : List Word) : State := event s .rly code (w32 r :: ps)

/-- A close fails: coil off, FAULT, CLOSE_FAIL (R276). -/
def closeFail (s : State) (r code : Nat) : State :=
  let a := setRel (coilChange s r false) r 7 fun x => { x with fault := code }
  settleAll (rlyEvent a 0x3A r [w32 code]) (rlyOp 1 r) 9

/-- The close is confirmed (R276). -/
def closeJudge (s : State) (r : Nat) : State :=
  let x := rel s r
  if x.st = 2 && x.fbMet && x.vMet then
    let a := setRel s r (if x.graceAt.isSome then 4 else 3) fun y => { y with closes := sat (2 ^ 32 - 1) (y.closes + 1) }
    settleAll (rlyEvent a 0x38 r (two x.m ++ two (x.cross.getD x.cmd))) (rlyOp 1 r) 0
  else s

/-- An open ends: OPEN and RELAY_OPEN, or the FAULT that started it (R279, R281). -/
def openDone (s : State) (r : Nat) : State :=
  let x := rel s r
  let a := setRel s r (if x.faultDue = 0 then 0 else 7) fun y => { y with faultDue := 0 }
  settleAll (rlyEvent a 0x39 r (w32 x.trigger :: two x.m)) (rlyOp 2 r) 0

def openFail (s : State) (r code ev : Nat) (ps : List Word) : State :=
  let a := setRel s r 7 fun x => { x with fault := code, faultDue := 0 }
  settleAll (rlyEvent a ev r ps) (rlyOp 2 r) 9

/-- The open is confirmed, or its feedback alone has failed (R279). -/
def openJudge (s : State) (r : Nat) : State :=
  let x := rel s r
  if x.st ≠ 6 || !x.vMet then s
  else if x.fbMet then openDone s r
  else if x.m + 400000 ≤ now s then openFail s r 3 0x3B [3] else s

/-- The command instant of an open (R278). -/
def openCmd (s : State) (r : Nat) (direct : Bool) : Nat :=
  let d := 4 * (rel s r).openT + 40
  if isDc s r || direct then now s
  else match predict s (iRef s r) (now s + 4 * (rel s r).openT + 48) with | some z => z - d | none => now s

/-- An open starts (R277, R278). A close that it cuts short was not confirmed: its outcome is FAULT (log 18). -/
def startOpen (s : State) (r trig : Nat) (direct : Bool) : State :=
  let x := rel s r
  if x.st = 1 then
    settleAll (settleAll (setRel s r 0 fun y => { y with trigger := trig, graceAt := none }) (rlyOp 1 r) 9) (rlyOp 2 r) 0
  else if x.st = 2 || x.st = 3 || x.st = 4 then
    let c := openCmd s r direct
    settleAll (setRel s r 5 fun y => { y with trigger := trig, graceAt := none, cmd := c, cmdDone := false, fbMet := false, vMet := false }) (rlyOp 1 r) 9
  else if (x.st = 5 || x.st = 6) && (trig = 2 || trig = 3 || trig = 5) then modRel s r fun y => { y with trigger := trig }
  else s

/-- An open that a fault starts; the relay enters FAULT when it ends (R281). -/
def faultOpen (s : State) (r code ev : Nat) (ps : List Word) : State :=
  startOpen (rlyEvent (modRel s r fun x => { x with fault := code, faultDue := code }) ev r ps) r 5 false

/-- V(REFPH) of a frame is at least VON % of VNOM (Table 9.9): units of 20 mV against 1 mV × VNOM × VON. -/
def vRefUp (s : State) (mp : Nat) (f : Bytes) : Bool :=
  decide (bits (defWord s mp 5) 7 0 * bits (defWord s mp 4) 15 0 ≤ 20 * fld (38 + 2 * refPh s mp) 2 f)

/-- A forwarded frame reaches RLY (R274, R276, R279, R281). -/
def rlyFrame (s : State) (mp : Nat) (f : Bytes) (status : Nat) : State :=
  let a := modRel s mp fun x => { x with frames := (f, status) :: x.frames.take 1 }
  let x := rel a mp
  let s0 := frStart s f
  let on := frVload f
  match x.st with
  | 2 =>
    if on && s0 < x.m + 240000 then closeJudge (modRel a mp fun y => { y with vMet := true }) mp
    else if !x.vMet && x.m + 240000 ≤ s0 then closeFail a mp 2 else a
  | 6 =>
    if !on && s0 < x.m + 400000 then openJudge (modRel a mp fun y => { y with vMet := true }) mp
    else if !x.vMet && on && x.m + 400000 ≤ s0 then openFail a mp 4 0x3C [] else a
  | 3 => if !frFirst f && !on && vRefUp s mp f then faultOpen a mp 8 0x3E [] else a
  | 4 => if !frFirst f && !on && vRefUp s mp f then faultOpen a mp 8 0x3E [] else a
  | 0 => if !frFirst f && on then rlyEvent (setRel a mp 7 fun y => { y with fault := 4 }) 0x3C mp [] else a
  | _ => a

/-- At the power-fail warning armed closes are cancelled (Table 9.11). -/
def rlyWarn (s : State) : State :=
  (List.range 32).foldl (fun t r => if (rel t r).st = 1 then settleAll (setRel t r 0 fun x => x) (rlyOp 1 r) 9 else t) s

/-- At power-up every relay is OPEN with its reset configuration; the count of closes stays (R269, Tables 9.6, 9.11, 9.12). -/
def rlyStartup (s : State) : State := { s with rly := s.rly.map fun x => { Relay.zero with closes := x.closes }, grant := false }

end Sys2Proof.Machine
end

