-- ==== Sys2Proof/Machine/PairOps.lean ====
section
/-! DEFINITION. The pairing unit: forwarding, disagreement, lane faults, snapshots and checkpoints (07). -/

namespace Sys2Proof.Machine

def otherLane (l : LaneId) : LaneId := match l with | .ebb => .flood | .flood => .ebb
def laneNo (l : LaneId) : Nat := match l with | .ebb => 0 | .flood => 1

def lane (s : State) (l : LaneId) : Lane := match l with | .ebb => s.ebb | .flood => s.flood

def modLane (s : State) (l : LaneId) (f : Lane → Lane) : State :=
  match l with
  | .ebb => { s with ebb := f s.ebb }
  | .flood => { s with flood := f s.flood }

def pl (s : State) (l : LaneId) : PLane := match l with | .ebb => s.pair.ebb | .flood => s.pair.flood

def modPl (s : State) (l : LaneId) (f : PLane → PLane) : State :=
  match l with
  | .ebb => { s with pair := { s.pair with ebb := f s.pair.ebb } }
  | .flood => { s with pair := { s.pair with flood := f s.pair.flood } }

def modPt (s : State) (mp : Nat) (f : PPoint → PPoint) : State := { s with pair := { s.pair with pts := s.pair.pts.modify mp f } }

/-- The sequence number a lane sent last, after a restart of the sequence at `q`: a number of the old sequence counts for nothing (06 R499). -/
def seqAfter (restart : Bool) (q : Nat) (o : Option Nat) : Option Nat := if restart && o != some q then none else o

/-- Forward a frame to BIL, to RLY and to the host streams (07 R203). -/
def pairForward (s : State) (f : Bytes) (status : Nat) : State :=
  let mp := frMp f
  let a := modPt s mp fun p =>
    let r := p.mark && frFirst f
    { p with last := some (frSeq f), hist := ((frSeq f, frCrc f) :: p.hist).take 16, held := none, mark := p.mark && !frFirst f,
             lastEnd := fld 8 4 f, ebbSeq := seqAfter r (frSeq f) p.ebbSeq, floodSeq := seqAfter r (frSeq f) p.floodSeq }
  let n := if status = 1 then sat (2 ^ 32 - 1) (a.pair.single + 1) else a.pair.single
  let b := { a with pair := { a.pair with single := n, bilIn := a.pair.bilIn ++ [(f, status)] } }
  hostFrame (rlyFrame b mp f status) mp false status f

/-- What PAIR does, or the state before it while the BIL input buffer of 128 frames has no room for what it forwards (01 Table 1.9; log 13). -/
def bilFits (s t : State) : State := if t.pair.bilIn.length ≤ 128 then t else s

/-- EVPEND bit 3 to the LEGAL world (07 R228). -/
def pairEv (s : State) : State := unitEv s .legal .pair

/-- The last 24 h of faults (07 R211). -/
def rst24 (s : State) (l : LaneId) : List Nat := (pl s l).faults.filter fun t => decide (now s < t + 345600000000)

def laneFaultEvent (s : State) (l : LaneId) (cause detail : Nat) : State :=
  event s .pair 0x28 [w32 (laneNo l), w32 cause, w32 detail]

/-- The held frames of a lane, in point order. -/
def heldOf (s : State) (l : LaneId) : List Bytes :=
  s.pair.pts.filterMap fun p => match p.held with | some h => if h.lane = l then some h.frame else none | none => none

/-- PAIR.LANE operations that name a lane. -/
def laneOps (l : LaneId) (p : Posted) : Bool :=
  p.unit == .pair && p.op == 3 && bits (p.words.getD 1 0) 0 0 == laneNo l

/-- Complete every PAIR.LANE operation that names a lane (07 R227). -/
def settleLane (s : State) (l : LaneId) (out : Nat) : State := s.posts.foldl (fun t _ => settle t (laneOps l) out []) s

/-- What the surviving lane becomes when the ACTIVE lane faults (07 Table 7.4); the REBUILDING lane waits for its reload if it had not ended, and starts cold when it takes this role in the PLL-loss fallback (R222). -/
def takeRole (s : State) (o : LaneId) : State :=
  match (pl s o).st with
  | 2 | 5 =>
    let t := modPl s o fun p => { p with st := 1, joinDead := none, probation := none }
    { t with pair := { t.pair with active := o } }
  | 3 | 4 =>
    let t := modPl s o fun p => { p with st := 7, reload := p.st == 3, cold := s.clk.fallback.isSome }
    { t with pair := { t.pair with active := o, snap := none } }
  | _ => s

/-- A lane is stopped and its waiting frames discarded (07 R207 steps 1 to 3). -/
def stopLane (s : State) (l : LaneId) : State :=
  let a := modLane s l fun x => { x with running := false, run := none, stall := .none }
  let b := modPl a l fun p => { p with inbuf := [], xbuf := [] }
  let c := { b with pair := { b.pair with
    pts := b.pair.pts.map fun p => match p.held with | some h => if h.lane = l then { p with held := none } else p | none => p
    xtab := b.pair.xtab.filter fun h => h.lane != l } }
  (heldOf c (otherLane l)).foldl (fun t f => bilFits t (pairForward t f 1)) c

/-- The other lane faulted in this SYS cycle and waits for its reload: the ACTIVE lane becomes REBUILDING and the other stays (07 R207). -/
def faultTogether (s : State) (l : LaneId) : Bool :=
  (pl s l).st == 1 && (pl s (otherLane l)).st == 3 && (pl s (otherLane l)).faultAt == some s.clk.sys

/-- Where a faulted lane goes: OFFLINE (6) after eight faults in 24 h or a RELOAD fault, REBUILDING when no lane can take the role, else RESTARTING. -/
def faultedTo (s : State) (l : LaneId) : Nat :=
  let o := (pl s (otherLane l)).st
  if (pl s l).st = 7 || faultTogether s l then 7
  else if (pl s l).st = 1 && (o == 6 || o == 0) then 7
  else if 8 ≤ (rst24 s l).length then 6 else 3

/-- 07 R206, R207: PAIR declares a lane fault. -/
def laneFault (s : State) (l : LaneId) (cause detail : Nat) : State :=
  let st := (pl s l).st
  if st ≠ 1 ∧ st ≠ 2 ∧ st ≠ 5 ∧ st ≠ 7 then s
  else
    let dst := faultedTo s l
    let a := stopLane s l
    let b := modPl a l fun p =>
      { p with st := dst, faults := now s :: rst24 s l, cause := cause, probation := none, joinDead := none, reload := dst == 7,
               reloadBad := false, reloadAt := now s, paired := 0, faultAt := some s.clk.sys, cold := dst == 7 && s.clk.fallback.isSome }
    let c := { b with pair := { b.pair with
      lastFault := w32 (laneNo l + 256 * cause + 65536 * (if cause = 1 then detail % 65536 else 0)),
      snap := if st = 1 || st = 7 then none else b.pair.snap
      ckCopy := if st = 1 then none else b.pair.ckCopy } }
    let d := if st = 1 && dst != 7 then takeRole c (otherLane l) else c
    let e := if cause = 5 || cause = 6 then d else laneFaultEvent d l cause (if cause = 1 then detail else 0)
    let f := if dst = 6 then settleLane (event e .pair 0x2C [w32 (laneNo l)]) l 9 else e
    pairEv f

/-- LANE_DISAGREE (07 Table 7.12). -/
def disagreeEvent (s : State) (mp seq crcA crcO qual kind : Nat) : State :=
  event { s with pair := { s.pair with disagree := sat (2 ^ 32 - 1) (s.pair.disagree + 1) } } .pair 0x29
    [w32 mp, w32 seq, w32 crcA, w32 crcO, w32 (laneNo s.pair.active), w32 qual, w32 kind]

/-- 07 R210: the handling of a disagreement between ACTIVE and STANDBY. -/
def disagreement (s : State) (mp seq crcA crcO kind : Nat) : State :=
  let a := disagreeEvent s mp seq crcA crcO 0 kind
  let act := a.pair.active
  let sb := otherLane act
  if (pl a sb).st = 2 then
    if (pl a sb).probation.isSome then
      let b := laneFault a act 6 0
      event b .pair 0x2A [w32 (laneNo sb)]
    else laneFault a sb 5 0
  else pairEv a

/-- All defined points have had a frame paired with the joining lane (07 R214). -/
def joinedAll (s : State) (w : Word) : Bool :=
  (List.range 32).all fun mp => !mpDefined s mp || w.getLsbD mp

/-- A JOINING lane becomes STANDBY; after DISAGREE or SWITCH it is in probation for 60 s (07 R210, R214). -/
def rejoin (s : State) (l : LaneId) : State :=
  let p := pl s l
  let a := modPl s l fun p =>
    { p with st := 2, joinDead := none, probation := if p.cause = 5 || p.cause = 6 then some (now s + 240000000) else none }
  let b := settleLane (event a .pair 0x2B [w32 (laneNo l)]) l 0
  if p.st = 5 then pairEv b else s

/-- A frame of `mp` was forwarded PAIRED against the joining lane's twin. -/
def joinStep (s : State) (l : LaneId) (mp : Nat) : State :=
  if (pl s l).st = 5 then
    let a := modPl s l fun p => { p with paired := p.paired ||| w32 (2 ^ mp) }
    if joinedAll a (pl a l).paired then rejoin a l else a
  else s

/-- A lane is released at ENTRY with the start kind in g2 (07 R200), its registers at 0 (05 R141) and its slots fresh (04 R128). -/
def releaseLane (s : State) (l : LaneId) (kind : Nat) : State :=
  modLane (modPl s l fun p => { p with marked := none, cold := false, inputAt := [] }) l fun x =>
    { x with
      bank := { Bank.zero with g := Bank.zero.g.set 2 (w32 kind), pc := x.entry }
      vec := Vec.zero, slotBank := Bank.zero, slotVec := Vec.zero, ctl := Ctl.zero, running := true, run := none, stall := .none
      slots := x.slots.map fun k => { k with disabled := false, fails := 0, lastStart := (now s : Int) - 4000 } }

/-- The part of data memory that is the state segment (04 Table 4.4). -/
def segOf (m : Mem) : Mem := m.filter fun c => decide (c.1 < 0x18000)

/-- Give a lane the state of the reference program; its data memory stays as it was loaded (04 Table 4.18). -/
def putProg (s : State) (l : LaneId) (p : Prog) : State := modLane s l fun x => { x with prog := p }

/-- An analysis window discarded in progress (06 Table 6.12): its index is spent. -/
def winReset (w : AWin) : AWin := if w.start.isSome then { w with idx := w.idx + 1, start := none, cycles := 0, flags := 0, xs := [] } else w

def swReset (w : SWin) : SWin := if w.win.isSome then { w with idx := w.idx + 1, win := none, seg := [], segs := 0, sums := [], flags := 0 } else w

/-- A program that resumes from a copied segment: its backlog exceeds one pass until it finds otherwise, and its analysis windows start afresh (07 R215). -/
def resumed (p : Prog) : Prog := { p with wins := p.wins.map winReset, swins := p.swins.map swReset, catchUp := true }

/-- Put a copied state segment into a lane. -/
def putSeg (s : State) (l : LaneId) (p : Prog) (m : Mem) : State :=
  modLane s l fun x => { x with prog := resumed p, dmem := segOf m ++ x.dmem.filter fun c => decide (0x18000 ≤ c.1) }

/-- The state segment and positions of a lane at its pass mark. -/
def takeSeg (s : State) (l : LaneId) : SegCopy :=
  { lane := l, mark := now s, prog := (lane s l).prog, seg := segOf (lane s l).dmem, pos := lanePos s l, stream := laneStreams s l,
    started := s.clk.sys }

/-- The checkpoint in force: the later CKSEQ whose SEGCRC matches (07 R219). -/
def ckInForce (s : State) : Option SegCopy :=
  let a := s.pair.ck0
  let b := s.pair.ck1
  let ua := a.good && a.ckseq != 0
  let ub := b.good && b.ckseq != 0
  if ua && (!ub || later 32 a.ckseq b.ckseq) then a.copy else if ub then b.copy else none

/-- A checkpoint stores a point's counter: its block defines the point, and no definition was accepted since (06 R180, R499). -/
def ckStores (s : State) (p : Prog) (mp : Nat) : Bool :=
  p.defSeen.getD mp 0 == s.defCount.getD mp 0 &&
    (match p.use with | some b => bits (Mem.word b.mem (0x6044 + 48 * mp)) 9 8 != 0 | none => false)

/-- A cold start's sequence counters: the checkpoint's plus 4096, or 0 where it stores none (06 R180, 07 R222). -/
def coldProg (s : State) : Prog :=
  match ckInForce s with
  | some c =>
    { Prog.zero with pts := c.prog.pts.mapIdx fun mp p => { LPoint.zero with seq := if ckStores s c.prog mp then (p.seq + 4096) % 2 ^ 32 else 0 } }
  | none => Prog.zero

/-- PAIR and BIL mark a point whose sequence restarts (06 R499). -/
def markPoint (s : State) (mp : Nat) : State :=
  modPt { s with bil := { s.bil with pts := s.bil.pts.modify mp fun p => { p with mark := true } } } mp fun p => { p with mark := true }

end Sys2Proof.Machine
end

