-- ==== Sys2Proof/Machine/PlsOps.lean ====
section
/-! DEFINITION. Energy increments of a result frame (08 Table 8.2) and what the pulse outputs make of them (17 R471 to R473). -/

namespace Sys2Proof.Machine

/-- Signed energy fields of a result frame (06 Table 6.8). -/
def frEP (f : Bytes) : Int := sext 32 (fld 16 4 f)
def frEQ (f : Bytes) : Int := sext 32 (fld 20 4 f)
def frEPC (f : Bytes) : Int := sext 32 (fld 28 4 f)
def frQuad (f : Bytes) : Nat := nbits (frFlags f) 14 13

/-- The quadrant at the connector takes its P sign from EPC (08 Table 8.2). -/
def quadC (f : Bytes) : Nat :=
  if 0 ≤ frEQ f then (if 0 ≤ frEPC f then 0 else 1) else if frEPC f < 0 then 2 else 3

/-- The increment of a quantity, at the meter or connector-referred, in 2⁻⁸ of its unit (08 Table 8.2). -/
def incr (f : Bytes) (q : Nat) (conn : Bool) : Nat :=
  let p := if conn then frEPC f else frEP f
  let k := if conn then quadC f else frQuad f
  let e := frEQ f
  match q with
  | 0 => p.toNat
  | 1 => (-p).toNat
  | 2 => if k = 0 then e.toNat else 0
  | 3 => if k = 1 then e.toNat else 0
  | 4 => if k = 2 then (-e).toNat else 0
  | 5 => if k = 3 then (-e).toNat else 0
  | _ => if conn then fld 32 4 f else fld 24 4 f

def pulse (s : State) (n : Nat) : Pulse := s.pls.getD n Pulse.zero

/-- A change of an output; a change of OVERRATE or a new RUNDONE raises the event of R479. -/
def modPulse (s : State) (n : Nat) (g : Pulse → Pulse) : State :=
  let a := { s with pls := s.pls.modify n g }
  let x := pulse s n
  let y := pulse a n
  if x.overrate != y.overrate || (!x.runDone && y.runDone) then unitEv a .legal .pls else a

/-- The output takes frames: a register source, or a run that has not started its last pulse. -/
def plsLive (p : Pulse) : Bool := p.src == 1 || (p.src == 2 && p.run && !p.stopping && decide (p.started < p.count))

/-- R472 for one output and an increment. -/
def plsTake (p : Pulse) (f len : Nat) : Pulse :=
  let a := p.acc + f * p.k
  let n := a / 256000000000
  { p with acc := a % 256000000000, backlog := p.backlog + n, spacing := len / max n 1, overrate := p.overrate || decide (64 < p.backlog + n) }

/-- A frame is applied: every output of its point takes its increment (R472). -/
def plsFrame (s : State) (f : Bytes) : State :=
  (List.range 8).foldl (fun t n =>
    let p := pulse t n
    if plsLive p && p.mp == frMp f then modPulse t n fun p => plsTake p (incr f p.qty p.basis) (frLen f) else t) s

end Sys2Proof.Machine
end

