-- ==== Sys2Proof/Machine/BilOps.lean ====
section
/-! DEFINITION. The billing engine: credit levels, sessions, demand, days, boundaries, steps of billing time, frames (08, 09 R264 to R268). -/

namespace Sys2Proof.Machine

def bp (s : State) (mp : Nat) : BPoint := s.bil.pts.getD mp BPoint.zero
def modBp (s : State) (mp : Nat) (f : BPoint → BPoint) : State := { s with bil := { s.bil with pts := s.bil.pts.modify mp f } }

/-- A commit of a point's state: the other copy takes the next CGEN (R242). -/
def bpCommit (s : State) (mp : Nat) : State := modBp s mp fun x => { x with cgen := (x.cgen + 1) % 2 ^ 32 }

/-- A commit of the global state. -/
def bilCommit (s : State) : State := { s with bil := { s.bil with cgen := (s.bil.cgen + 1) % 2 ^ 32 } }

def bilEvent (s : State) (code mp : Nat) (par : Bool) (ps : List Word) : State := metro s code 4 0 par (w32 mp :: ps)

/-- Bits of a window's flag word (10 Table 10.7). -/
def wfSHORT : Nat := 2 ^ 23
def wfPFAIL : Nat := 2 ^ 22
def wfSTEP : Nat := 2 ^ 24
def wfPAR : Nat := 2 ^ 25
def wfCFG : Nat := 2 ^ 26

/-- Flags enter the day, the billing period and the session. -/
def flagAll (x : BPoint) (fl : Nat) : BPoint :=
  { x with dayFlags := x.dayFlags ||| fl, perFlags := x.perFlags ||| fl, sess := x.sess.map fun z => { z with flags := z.flags ||| fl } }

/-- Flags of an interval that began at `start` enter the windows that contain it (R250). -/
def flagFrom (x : BPoint) (start fl : Nat) : BPoint :=
  { x with dayFlags := x.dayFlags ||| fl, perFlags := x.perFlags ||| fl
           sess := x.sess.map fun z => if z.oBt ≤ start then { z with flags := z.flags ||| fl } else z }

/-- The bank in force for a point. -/
def bankFor (s : State) (mp : Nat) : List Bytes := if (bp s mp).old then s.bil.oldBank else s.bil.bank

/-! ## Credit -/

/-- The level that the thresholds give (R267). -/
def levelOf (x : BPoint) : Nat :=
  if !x.prepay then 0 else if x.credit ≤ x.exhaust then 3 else if x.credit ≤ x.reduce then 2 else if x.credit ≤ x.warn then 1 else 0

/-- LEVEL becomes EXHAUSTED with the coil energised, also while it waits for the end of an open: STOP request, grace, CREDIT_YIELD (Table 9.3, R268). -/
def graceStart (s : State) (mp : Nat) (par : Bool) : State :=
  let x := rel s mp
  let a := modRel (hostEvent s 3 mp 2 x.grace) mp fun y => { y with reduce := 2 }
  let b := modRel a mp fun y => { y with graceAt := some (now s + x.grace * 4000000) }
  let c := if x.st = 3 then setRel b mp 4 fun y => y else b
  metro c 0x37 4 1 par [w32 mp]

/-- A level is reached in falling order (Table 9.3). -/
def levelDown (s : State) (mp lv : Nat) (par : Bool) : State :=
  match lv with
  | 1 => hostEvent s 1 mp 0 0
  | 2 => modRel (hostEvent s 3 mp 1 0) mp fun y => { y with reduce := 1 }
  | _ => if coilOn (rel s mp) then graceStart s mp par else hostEvent s 2 mp 0 0

/-- Upward changes (Table 9.3): grace cancelled out of EXHAUSTED; the reduce request falls back to REDUCE or is withdrawn; WARN has its host event in either direction. -/
def levelUp (s : State) (mp old new : Nat) (par : Bool) : State :=
  let x := rel s mp
  let a := if old = 3 && x.graceAt.isSome then
      let b := modRel s mp fun y => { y with graceAt := none }
      metro (if x.st = 4 then setRel b mp 3 fun y => y else b) 0x3F 4 0 par [w32 mp]
    else s
  if new = 2 then levelDown a mp 2 par
  else
    let b := if 2 ≤ old then modRel (hostEvent a 3 mp 0 0) mp fun y => { y with reduce := 0 } else a
    if new = 1 then levelDown b mp 1 par else b

/-- LEVEL follows CREDIT and the thresholds, with the actions of Table 9.3 (R267). -/
def setLevel (s : State) (mp : Nat) (par : Bool) : State :=
  let x := bp s mp
  let new := levelOf x
  if new = x.level then s
  else
    let a := modBp s mp fun y => { y with level := new }
    let b := if x.level < new then ((List.range 4).filter fun l => decide (x.level < l) && decide (l ≤ new)).foldl (fun t l => levelDown t mp l par) a
      else levelUp a mp x.level new par
    unitEv b .legal .bil

/-- CREDIT changes by `d`, saturating (R264). -/
def addCredit (s : State) (mp : Nat) (d : Int) (par : Bool) : State :=
  if d = 0 then s
  else setLevel (modBp s mp fun x => { x with credit := max (-9223372036854775808) (min 9223372036854775807 (x.credit + d)) }) mp par

/-! ## Sessions -/

/-- The session cost register in 10⁻⁶ units (R254). -/
def sessCost (z : Sess) : Nat := z.fee + z.ecost / 256000000000 + z.tcost / 240000000

/-- A register's value (R238): QTY, basis, 0 total or 1 to 8 for T1 to T8. -/
def regVal (x : BPoint) (q basis i : Nat) : Nat := ((x.regs.getD (q + 7 * basis) []).getD i 0) / 256

/-- A session opens at O (R253, R265). -/
def openSess (s : State) (mp : Nat) (id : Word) (w : World) : State :=
  let b := bankFor s mp
  let z : Sess :=
    { id := id, o := now s, oBt := btNow s, c := none, world := w, fee := priceFee b mp, energy := 0, pd := 0, ecost := 0, tcost := 0, chg := 0,
      idle := 0, blindM := 0, blindB := 0, flags := 0, applied := 0, single := 0, disag := 0, regStart := regVal (bp s mp) 0 (priceBasis b mp) 0,
      bankO := bankId b, lastEnd := none, lastBt := none }
  addCredit (modBp s mp fun x => { x with sess := some z }) mp (-(priceFee b mp : Int)) false

/-- Blind time up to an instant: MODTICK `m`, billing time `t` (R254). -/
def addBlind (z : Sess) (m t : Nat) : Sess :=
  match z.lastEnd, z.lastBt with
  | some e, _ => { z with blindM := z.blindM + (m - e) }
  | none, some b => { z with blindB := z.blindB + (t - b) }
  | none, none => { z with blindM := z.blindM + (m - z.o) }

/-- The frame's cycle joins the session: energy, cost, times, blind time (R254). -/
def sessCycle (z : Sess) (b : List Bytes) (mp t : Nat) (f : Bytes) (st stamp endBt status fl : Nat) (pd : Bool) : Sess :=
  let x := incr f 0 (priceBasis b mp == 1)
  let idle := (frFlags f).testBit 6
  let y := addBlind z st stamp
  { y with
    energy := y.energy + x, pd := if pd then y.pd + x else y.pd
    ecost := y.ecost + x * ePrice b mp t
    tcost := y.tcost + frLen f * (if idle then tpIdle b mp else tpChg b mp)
    chg := if idle then y.chg else y.chg + frLen f, idle := if idle then y.idle + frLen f else y.idle
    flags := y.flags ||| fl, applied := y.applied + 1
    single := if status = 1 then y.single + 1 else y.single, disag := if status = 2 then y.disag + 1 else y.disag
    lastEnd := some (st + frLen f), lastBt := some endBt }

/-- A DRIVER association ends when its session closes (10 R305). -/
def endDriver (s : State) (mp : Nat) (id : Word) : State :=
  let hit (a : Assoc) : Bool := a.role == 1 && a.mp == mp && a.sessid == id.toNat
  let ix := (List.range 3).filter fun i => hit (s.obj.ports.getD i Assoc.zero)
  { s with
    obj := { s.obj with ports := s.obj.ports.map fun a => if hit a then Assoc.zero else a, site := s.obj.site.filter fun a => !hit a }
    hst := s.hst.mapIdx fun i p => if ix.contains i then { p with sub := 0, subExt := false } else p }

/-- The two bodies of a SESSION_CLOSE group (Table 10.4). -/
def closeBodies (x : BPoint) (b : List Bytes) (mp : Nat) (z : Sess) (cBt total : Nat) : List Bytes :=
  let blind := (z.blindM + 4 * z.blindB) / 4000000
  [le 4 z.id.toNat ++ [BitVec.ofNat 8 mp, BitVec.ofNat 8 (priceBlk b mp - 29 + 4 * priceBasis b mp)] ++ le 2 (priceCur b mp) ++ le 8 z.oBt ++ le 8 cBt ++
      le 8 z.regStart ++ le 8 (regVal x 0 (priceBasis b mp) 0) ++ le 8 (z.energy / 256) ++ le 8 (z.pd / 256) ++ le 4 (z.chg / 4000000) ++
      le 4 (z.idle / 4000000) ++ le 4 blind ++ le 4 z.flags ++ le 8 z.fee ++ le 8 (z.ecost / 256000000000) ++ le 8 (z.tcost / 240000000),
    le 8 total ++ le 4 z.bankO ++ le 4 (bankId b) ++ le 4 z.applied ++ le 2 (sat 65535 z.single) ++ le 2 (sat 65535 z.disag) ++
      [BitVec.ofNat 8 (priceMinor b mp)]]

/-- A pending BIL.SESS close of the point. -/
def closeOp (mp : Nat) (p : Posted) : Bool :=
  p.unit == .bil && p.op == 2 && (p.words.getD 1 0).getLsbD 8 && bits (p.words.getD 1 0) 4 0 == mp

/-- A session closes: truncation, SESSION_CLOSE group, credit returned, DONE, DRIVER ended (R253, R255). -/
def closeSess (s : State) (mp : Nat) (par : Bool) : State :=
  match (bp s mp).sess with
  | none => s
  | some z0 =>
    match z0.c with
    | none => s
    | some (cm, cBt) =>
      let z1 := addBlind z0 cm cBt
      let z := if par then { z1 with flags := z1.flags ||| wfPAR } else z1
      let b := bankFor s mp
      let cost := sessCost z
      let total := cost - cost % 10 ^ (6 - priceMinor b mp)
      let n := if s.ldg.next = 0 then 1 else s.ldg.next
      let a := ldgGroup (bpCommit (modBp s mp fun y => { y with sess := none }) mp) 1 par [] (closeBodies (bp s mp) b mp z cBt total)
      let g := (a.ldg.recs.filter fun r => r.index == n || r.index == n + 1).flatMap (·.bytes)
      let d := addCredit (modBp a mp fun y => { y with lastClose := g }) mp (cost - total : Nat) par
      let e := settle d (closeOp mp) 0 ([(3, w32 cBt), (4, w32 (cBt >>> 32)), (5, w32 total), (6, w32 (total >>> 32))])
      unitEv (endDriver e mp z.id) .legal .bil

/-! ## Demand -/

/-- Fields of a demand configuration (Table 8.10). -/
def dEn (w : Word) : Bool := w.getLsbD 31
def dBasis (w : Word) : Bool := w.getLsbD 24
def dQty (w : Word) : Nat := bits w 23 20
def dN (w : Word) : Nat := bits w 19 16
def dL (w : Word) : Nat := [60, 300, 600, 900, 1800, 3600].getD (bits w 14 12) 60
/-- A sub-interval in µs. -/
def dSub (w : Word) : Nat := dL w / max 1 (dN w) * 1000000

/-- R251: a peak of the total and of a tariff, with the end of its interval in seconds. -/
def peakUp (l : List (Nat × Nat)) (i v t : Nat) : List (Nat × Nat) := l.modify i fun p => if p.1 < v then (v, t) else p

/-- T is a boundary of the engine's sub-intervals (R249). -/
def aligned (b : List Bytes) (w : Word) (t : Nat) : Bool := localUs b t % dSub w == 0

/-- The running interval or sub-interval of an engine ends at billing time `t`, and the next begins at `t'`; `fl` are flags of a break (R249 to R251). A SHORT interval's value uses its powered time. -/
def closeInterval (x : BPoint) (b : List Bytes) (e t t' fl : Nat) : BPoint :=
  let d := x.dems.getD e Demand.zero
  if !dEn d.cfg then x
  else
    let short := fl != 0 || d.short
    let ran := d.ran + (t - d.seg)
    let f := d.flags ||| fl ||| (if short then wfSHORT else 0)
    let subs := if short then [] else (d.acc :: d.subs).take (dN d.cfg)
    let v := subs.foldl (· + ·) 0 * 36 / (2560 * dL d.cfg)
    let pk := if !short && subs.length == dN d.cfg then
        peakUp (peakUp d.peaks 0 v (t / 1000000)) (x.tariff + 1) v (t / 1000000) else d.peaks
    let n := { d with start := t', seg := t', ran := 0, acc := 0, subs := subs, short := !aligned b d.cfg t', flags := 0, peaks := pk,
                      value := if short then d.acc * 3600000 / (256 * max 1 ran) else v }
    flagFrom { x with dems := x.dems.set e n } d.start (f &&& (wfSHORT ||| wfPFAIL ||| wfSTEP ||| wfCFG))

/-- A pending configuration takes effect at `t` (R248); `t'` is where the new interval begins. -/
def demandCfg (s : State) (mp e t t' : Nat) (par : Bool) : State :=
  let x := bp s mp
  let d := x.dems.getD e Demand.zero
  match d.pend with
  | none => s
  | some (at', w) =>
    if t < at' then s
    else
      let b := bankFor s mp
      let y := if dEn d.cfg then (if d.start < t then closeInterval x b e t t' wfCFG else flagFrom x d.start wfCFG) else x
      let p := (y.dems.getD e d).peaks
      let n := { Demand.zero with cfg := w, start := t', seg := t', short := !aligned b w t', peaks := p }
      bilEvent (modBp s mp fun _ => { y with dems := y.dems.set e n }) 0x35 mp par [d.cfg, w]

/-- R257 step 2; a boundary at which a configuration takes effect closes the running interval as SHORT (R248). -/
def demandStep (s : State) (mp t : Nat) (par : Bool) : State :=
  (List.range 2).foldl (fun q e =>
    let d := (bp q mp).dems.getD e Demand.zero
    let cfg := match d.pend with | some (u, _) => decide (u ≤ t) && decide (d.start < t) | none => false
    let a := if !cfg && dEn d.cfg && aligned (bankFor q mp) d.cfg t then modBp q mp fun x => closeInterval x (bankFor q mp) e t t 0 else q
    demandCfg a mp e t t par) s

/-! ## Days, swaps, boundaries -/

/-- Points with a definition. -/
def bilPts (s : State) : List Nat := (List.range 32).filter fun mp => mpDefined s mp

/-- Groups are handed over in ascending point order once every defined point has completed its step 3 (R252). -/
def handSnaps (s : State) : State :=
  let d := s.bil.snaps.foldl (fun m p => max m (bp s p.1).snapDay) (-1000)
  if s.bil.snaps.isEmpty || (bilPts s).any fun p => decide ((bp s p).snapDay < d) then s
  else
    let gs := (List.range 32).flatMap fun mp => s.bil.snaps.filter fun g => g.1 == mp
    gs.foldl (fun t g => ldgGroup t 2 g.2.1 [] g.2.2) { s with bil := { s.bil with snaps := [] } }

/-- Parts 0 to 6 of a daily snapshot, and 7 and 8 when a billing period closes (Table 10.5). -/
def snapParts (x : BPoint) (mp missed per : Nat) (close : Bool) : List Bytes :=
  let v (q b : Nat) : Bytes := (List.range 9).flatMap fun i => le 5 (regVal x q b i / 1000000)
  let h (n : Nat) : Bytes := [BitVec.ofNat 8 mp, BitVec.ofNat 8 (sat 255 n)]
  let pk (e : Nat) : Bytes :=
    let p := (x.dems.getD e Demand.zero).peaks
    (p.flatMap fun a => le 4 a.1) ++ p.flatMap fun a => le 4 a.2
  ((List.range 7).map fun q => h missed ++ le 4 x.dayFlags ++ v q 0 ++ v q 1) ++ (if close then [h per ++ pk 0, h per ++ pk 1] else [])

/-- Day ends after local date `d` up to billing time `t` under a bank: the date reached, how many days ended, how many billing periods closed. -/
def daysTo (d : Int) (g : List Bytes × Nat) : Int × Nat × Nat :=
  let e := localDay g.1 g.2
  let days := (List.range (e - d).toNat).map fun (i : Nat) => d + 1 + (i : Int)
  (max d e, days.length, (days.filter fun k => bankBp g.1 != 0 && (monthDay k).2 == bankBp g.1).length)

/-- R252 up to the end of the last of some spans of billing time, each under its own bank; `cnt` writes how many day ends and period closes fell together (R259, R260). -/
def dayStep (s : State) (mp : Nat) (spans : List (List Bytes × Nat)) (par cnt : Bool) : State :=
  let x := bp s mp
  let r := spans.foldl (fun (a : Int × Nat × Nat) g => let n := daysTo a.1 g; (n.1, a.2.1 + n.2.1, a.2.2 + n.2.2)) (x.snapDay, 0, 0)
  if r.2.1 = 0 then s
  else
    let per := r.2.2
    let ps := snapParts x mp (if cnt then r.2.1 else 0) (if cnt then per else 0) (per != 0)
    let y := { x with
      snapDay := r.1, dayFlags := 0, perFlags := if per != 0 then 0 else x.perFlags
      dems := if per != 0 then x.dems.map fun e => { e with peaks := List.replicate 9 (0, 0) } else x.dems }
    let a := modBp s mp fun _ => y
    handSnaps (bilCommit { a with bil := { a.bil with snaps := a.bil.snaps ++ [(mp, par, ps)] } })

/-- The spans of billing time up to `t` by bank: a bank holds up to the minute of the swap that follows it, and that boundary's day still ends under it (R257, R259). -/
def bankSpans (s : State) (mp t : Nat) : List (List Bytes × Nat) :=
  (if (bp s mp).old then [(s.bil.oldBank, min s.bil.swapT t)] else []) ++
    (match s.bil.swap, shadowBank s with
    | some u, some nb => if u ≤ t then [(s.bil.bank, u), (nb, t)] else if (bp s mp).old && decide (t ≤ s.bil.swapT) then [] else [(s.bil.bank, t)]
    | _, _ => if (bp s mp).old && decide (t ≤ s.bil.swapT) then [] else [(s.bil.bank, t)])

/-- R247, R257 step 4: a pending swap takes effect, once for all points; each point follows at its own boundary. -/
def swapBank (s : State) (t : Nat) (par : Bool) : State :=
  match s.bil.swap, shadowBank s with
  | some at', some nb =>
    if t < at' then s
    else
      let body := le 4 (bankId s.bil.bank) ++ le 4 (bankId nb) ++ le 8 at' ++ le 4 s.bil.sgen.toNat ++ slice 60 4 (nb.getD 0 [])
      let a := { s with bil := { s.bil with
        oldBank := s.bil.bank, bank := nb, swapT := at', swap := none, shadow := List.replicate 34 none
        pts := s.bil.pts.map fun x => { x with old := true } } }
      ldgGroup (bilCommit a) 5 par [] [body]
  | _, _ => s

def bankStep (s : State) (mp t : Nat) (par : Bool) : State :=
  let a := swapBank s t par
  if a.bil.swapT ≤ t then modBp a mp fun x => { x with old := false } else a

/-- LATE_FRAME, once per point per minute with the count (R263). -/
def lateNote (s : State) (mp : Nat) (par : Bool) : State :=
  let n := (bp s mp).lateEv
  if n = 0 then s else bilEvent (modBp s mp fun x => { x with lateEv := 0, latePar := false }) 0x32 mp (par || (bp s mp).latePar) [w32 n]

/-- Step `k` of a boundary at `t` (R257). -/
def boundStep (s : State) (mp t k : Nat) (par : Bool) : State :=
  let minute := t % 60000000 == 0
  match k with
  | 2 => demandStep s mp t par
  | 3 => if minute then dayStep s mp [(bankFor s mp, t)] par false else s
  | 4 => if minute then bankStep s mp t par else s
  | _ => if minute then lateNote (modBp s mp fun x => { x with tariff := tariffAt (bankFor s mp) t }) mp par else s

/-- `n` steps from step `k` on, each committed with the progress word (R257, R258). -/
def boundSteps (mp t : Nat) (par : Bool) : Nat → Nat → State → State
  | 0, _, s => s
  | n + 1, k, s => boundSteps mp t par n (k + 1) (bpCommit (modBp (boundStep s mp t k par) mp fun x => { x with prog := some (t, k) }) mp)

/-- A boundary at `t` from the step after `k` (R257, R258). -/
def boundaryFrom (s : State) (mp t k : Nat) (par : Bool) : State :=
  let p := if par then modBp s mp fun x => flagAll x wfPAR else s
  unitEv (modBp (boundSteps mp t par (5 - k) (k + 1) p) mp fun x => { x with bT := t, prog := none }) .legal .bil

/-- A boundary: step 1 is done once the frames before it are applied. -/
def boundary (s : State) (mp t : Nat) (par : Bool) : State := boundaryFrom (bpCommit (modBp s mp fun x => { x with prog := some (t, 1) }) mp) mp t 1 par

/-- The first boundary after the last one processed (R249, R257). -/
def nextBoundary (s : State) (mp : Nat) : Nat :=
  let x := bp s mp
  let b := bankFor s mp
  x.dems.foldl (fun m d => if dEn d.cfg then min m (x.bT + (dSub d.cfg - localUs b x.bT % dSub d.cfg)) else m) ((x.bT / 60000000 + 1) * 60000000)

/-- Every interval that a step backward opens is SHORT (R261). -/
def shortAll (x : BPoint) : BPoint := { x with dems := x.dems.map fun d => { d with short := true } }

/-- A point takes a step of billing time from `f` to `t` (R260, R261). -/
def takeStep (s : State) (mp m f t : Nat) (par : Bool) : State :=
  let b := bankFor s mp
  let x := bp s mp
  let y := (List.range 2).foldl (fun y e => closeInterval y b e f t wfSTEP) (flagAll x wfSTEP)
  let a := modBp s mp fun _ =>
    { (if f < t then y else shortAll y) with steps := y.steps.drop 1, preStep := ({ m := m, tariff := x.tariff, bT := x.bT, bank := b } :: x.preStep).take 4 }
  let c := if f < t then
      let d := (List.range 2).foldl (fun q e => demandCfg q mp e t t par) a
      modBp (bankStep (dayStep d mp (bankSpans d mp t) par true) mp t par) mp fun y => flagAll y wfSTEP
    else a
  let d := bpCommit (modBp c mp fun y => { y with tariff := tariffAt (bankFor c mp) t, bT := t }) mp
  unitEv d .legal .bil

/-- How far a point may be settled: by a frame (start, stamp), by the 100 ms rule, or at power-up up to the power-down (R243, R256). -/
inductive Lim where
  | frame (st stamp : Nat)
  | timeout
  | restore (pd : Nat)
  deriving DecidableEq, Repr

/-- A close or a step at MODTICK `m` is due. -/
def limM (s : State) (l : Lim) (m : Nat) : Bool :=
  match l with
  | .frame st _ => decide (m ≤ st)
  | .timeout => decide (m + 400000 ≤ now s)
  | .restore _ => true

/-- The billing time, before the oldest step not yet taken, up to which boundaries are due. -/
def limT (s : State) (mp : Nat) (l : Lim) : Nat :=
  match (bp s mp).steps with
  | (m, f, _) :: _ =>
    if limM s l m then f
    else match l with
      | .frame _ stamp => stamp
      | .timeout => min f (f + (now s - m) / 4 - 100000)
      | .restore _ => f
  | [] =>
    match l with
    | .frame _ stamp => stamp
    | .timeout => btNow s - 100000
    | .restore pd => pd

/-- The next thing due at a point: a session close, a boundary, a step of billing time (R256 to R260). -/
def settleStep (s : State) (mp : Nat) (l : Lim) (par : Bool) : Option State :=
  let x := bp s mp
  let t := nextBoundary s mp
  let tl := limT s mp l
  let st := x.steps.head?
  let close := match x.sess with
    | some z => (match z.c with
      | some (cm, cBt) =>
        limM s l cm && (match st with | some (m, _, _) => decide (cm ≤ m) | none => true) && (decide (cBt ≤ t) || decide (tl < t))
      | none => false)
    | none => false
  if close then some (closeSess s mp par)
  else if mpDefined s mp && decide (t ≤ tl) then some (boundary s mp t par)
  else match st with
    | some (m, f, t') => if limM s l m then some (takeStep s mp m f t' par) else none
    | none => none

def settleLoop (mp : Nat) (l : Lim) (par : Bool) : Nat → State → State
  | 0, s => s
  | n + 1, s => match settleStep s mp l par with | some t => settleLoop mp l par n t | none => s

/-- Settle a point: boundaries lie at least one second apart. -/
def settlePt (s : State) (mp : Nat) (l : Lim) (par : Bool) : State :=
  settleLoop mp l par (limT s mp l / 1000000 + btNow s / 1000000 + 2 * (bp s mp).steps.length + 4) s

/-! ## Frames -/

/-- Place a forwarded frame (R236, R280). -/
def place (s : State) (f : Bytes) (status : Nat) : Saved :=
  let e := frEnd s f
  let st := frStart s f
  { frame := f, status := status, start := st, stamp := btAt s st, endBt := btAt s e, pdisc := !coilAt (rel s (frMp f)) e, par := false }

/-- R20, R499. -/
def admitted (x : BPoint) (f : Bytes) : Bool :=
  match x.lastSeq with
  | none => true
  | some q => later 32 (frSeq f) q || (x.mark && frFirst f)

/-- SEQ exceeds the last applied by more than 1 (R239); a restarted sequence does not follow from it (R499). -/
def seqJump (x : BPoint) (f : Bytes) : Bool :=
  match x.lastSeq with
  | none => false
  | some q => decide (1 < (frSeq f + 2 ^ 32 - q) % 2 ^ 32) && !(x.mark && frFirst f)

/-- R238 over all registers of a point. -/
def addRegs (rs : List (List Nat)) (f : Bytes) (t : Nat) : List (List Nat) :=
  rs.mapIdx fun i l =>
    let v := incr f (i % 7) (decide (7 ≤ i))
    (l.modify 0 fun n => (n + v) % 2 ^ 72).modify (t + 1) fun n => (n + v) % 2 ^ 72

/-- Some energy field of the frame is not 0 (09 R280). -/
def carriesEnergy (f : Bytes) : Bool := fld 16 20 f != 0

/-- Window flags of a frame (10 Table 10.7). -/
def frameFlags (s : State) (x : BPoint) (c : Saved) (late : Bool) : Nat :=
  let f := c.frame
  (frFlags f &&& 0x9FFF) + 65536 * b2n (c.status == 1) + 131072 * b2n (c.status == 2) + 262144 * b2n s.tmp.mark +
    524288 * b2n (c.pdisc && carriesEnergy f) + 1048576 * b2n late + 2097152 * b2n (seqJump x f) + 33554432 * b2n c.par

/-- The frame enters the interval of an engine. -/
def demandFrame (d : Demand) (f : Bytes) (fl : Nat) : Demand :=
  if dEn d.cfg then { d with acc := d.acc + incr f (dQty d.cfg) (dBasis d.cfg), flags := d.flags ||| fl } else d

/-- The cycle belongs to the session (R253). -/
def inSess (z : Sess) (st : Nat) : Bool := decide (z.o ≤ st) && (match z.c with | some (m, _) => decide (st < m) | none => true)

/-- The step that a late frame of the old segment precedes: the earliest one after its start (R260). -/
def stepAfter (x : BPoint) (st : Nat) : Option PreStep := (x.preStep.filter fun p => decide (st < p.m)).getLast?

/-- The committed update of a point (R237 to R241, R254); a frame from before a step takes the tariff and the bank in force before it. -/
def commitPt (s : State) (mp : Nat) (x : BPoint) (c : Saved) (pre : Option PreStep) (late : Bool) : BPoint :=
  let f := c.frame
  let t := match pre with | some p => p.tariff | none => x.tariff
  let b := match pre with | some p => p.bank | none => bankFor s mp
  let fl := frameFlags s x c late
  let pd (b : Bool) : Nat := if c.pdisc then incr f 0 b else 0
  { x with
    lastSeq := some (frSeq f), mark := x.mark && !frFirst f, held := none, cgen := (x.cgen + 1) % 2 ^ 32
    regs := addRegs x.regs f t, pdM := (x.pdM + pd false) % 2 ^ 72, pdC := (x.pdC + pd true) % 2 ^ 72
    applied := x.applied + 1, single := x.single + b2n (c.status == 1), disagree := x.disagree + b2n (c.status == 2)
    jumps := x.jumps + b2n (seqJump x f), late := x.late + b2n late, lateEv := x.lateEv + b2n late, latePar := x.latePar || (late && c.par)
    dems := if pre.isSome then x.dems else x.dems.map fun d => demandFrame d f fl
    dayFlags := x.dayFlags ||| fl, perFlags := x.perFlags ||| fl
    sess := x.sess.map fun z =>
      if inSess z c.start then sessCycle z b mp t f c.start c.stamp c.endBt c.status fl c.pdisc else z }

def costOf (x : BPoint) : Nat := match x.sess with | some z => sessCost z | none => 0

/-- A frame that R20 admits is applied: boundaries first, then the commit with its pulses, records and debit (R239, R256, R265, R280). -/
def applyCyc (s : State) (c : Saved) : State :=
  let mp := frMp c.frame
  let a := settlePt s mp (.frame c.start c.stamp) c.par
  let x := bp a mp
  let pre := stepAfter x c.start
  let late := decide (c.stamp < (match pre with | some p => p.bT | none => x.bT))
  let y := commitPt a mp x c pre late
  let b := plsFrame (modBp a mp fun _ => y) c.frame
  let d := if seqJump x c.frame then bilEvent b 0x33 mp c.par [w32 (x.lastSeq.getD 0), w32 (frSeq c.frame)] else b
  let e := if c.pdisc && (rel d mp).yieldDue && (decide (0 < frEP c.frame) || decide (0 < frEPC c.frame)) then
      metro (modRel d mp fun r => { r with yieldDue := false }) 0x37 4 2 c.par [w32 mp] else d
  let g := addCredit e mp (-(costOf y - costOf x : Nat) : Int) c.par
  if late then unitEv g .legal .bil else g

/-- Duplicates are discarded and counted (R20). -/
def applyOrDrop (s : State) (c : Saved) : State :=
  let mp := frMp c.frame
  if admitted (bp s mp) c.frame then applyCyc s c else modBp s mp fun x => { x with dup := x.dup + 1, held := none }

/-- A frame that R20 does not admit is discarded; of one that it admits, the update is committed, recomputed and committed, or held (R240). -/
def tryFrame (s : State) (c : Saved) (agree1 agree2 again : Bool) : State :=
  let mp := frMp c.frame
  if agree1 || !admitted (bp s mp) c.frame then applyOrDrop s c
  else if agree2 then bilEvent (applyOrDrop s c) 0x30 mp c.par []
  else
    let a := modBp s mp fun x => { x with held := some c, retryAt := now s + 400 }
    notify9 (if again then a else bilEvent a 0x31 mp c.par []) 7 mp

/-! ## Power-fail snapshot and power-up -/

/-- Frames that PAIR still holds for want of room, as SINGLE. -/
def pairHeld (s : State) : List (Bytes × Nat) :=
  s.pair.pts.filterMap fun p => match p.held with | some h => if (pl s h.lane).st = 5 then none else some (h.frame, 1) | none => none

/-- Every frame held, saved before and still waiting, in the input buffer and in PAIR, in that order, point by point for the held ones (Table 8.4). -/
def bilSave (s : State) : State :=
  let held := (List.range 32).filterMap fun mp => (bp s mp).held
  let fs := (s.pair.bilIn ++ pairHeld s).map fun f => place s f.1 f.2
  { s with
    pair := { s.pair with bilIn := [] }
    bil := { s.bil with
      saved := (held ++ s.bil.saved ++ fs).map fun c => { c with par := true }
      hw := max s.bil.hw (btNow s), snapOk := true
      pts := s.bil.pts.map fun x => { x with held := none } } }

/-- The power-down and the power-up fall in one interval of an engine. -/
def sameInterval (b : List Bytes) (w : Word) (t pu : Nat) : Bool :=
  decide (t - localUs b t % dSub w ≤ pu) && decide (pu < t + (dSub w - localUs b t % dSub w))

/-- The outage of a point: what R259 does between the power-down and the power-up, which may show an earlier time. -/
def outagePt (s : State) (mp pd pu : Nat) : State :=
  let x0 := bp s mp
  let b := bankFor s mp
  let spans := decide (nextBoundary s mp ≤ pu)
  let x := flagAll x0 (wfPFAIL ||| (if spans then wfPAR else 0))
  let y := (List.range 2).foldl (fun (y : BPoint) e =>
    let d := y.dems.getD e Demand.zero
    if !dEn d.cfg then y
    else if sameInterval b d.cfg x0.bT pu then
      { y with dems := y.dems.modify e fun d =>
          { d with short := true, subs := [], flags := d.flags ||| wfPFAIL, ran := d.ran + (pd - d.seg), seg := pu } }
    else
      let z := closeInterval y b e pd pu wfPFAIL
      { z with dems := z.dems.modify e fun d => { d with short := true, flags := wfPFAIL } }) x
  let a := modBp s mp fun _ => { y with preStep := [] }
  let c := (List.range 2).foldl (fun q e => demandCfg q mp e pu pu true) a
  let d := bankStep (dayStep c mp (bankSpans c mp pu) true true) mp pu true
  bpCommit (modBp d mp fun y => { (flagAll y wfPFAIL) with tariff := tariffAt (bankFor d mp) pu, bT := pu }) mp

/-- RESTART_PROCESSED: T and the first step redone (R263). -/
def restarted (s : State) (mp t k : Nat) : State := bilEvent s 0x34 mp true (two t ++ [w32 k])

/-- The boundary that a point had begun is completed from the step after the last committed one (R258). -/
def resumeBoundary (s : State) (mp : Nat) : State :=
  match (bp s mp).prog with
  | some (t, k) => restarted (boundaryFrom s mp t k true) mp t (k + 1)
  | none => s

/-- A point whose saved frames are applied: its closes and boundaries up to the power-down, then the outage (R243, R253, R258, R259). -/
def finishPt (s : State) (mp pd pu : Nat) : State :=
  let t0 := nextBoundary s mp
  let b := settlePt s mp (.restore pd) true
  let c := if mpDefined b mp then outagePt b mp pd pu else b
  let d := if mpDefined c mp && decide (t0 ≤ max pd pu) then restarted c mp t0 1 else c
  modBp d mp fun x =>
    { x with steps := [], preStep := [], due := none
             sess := x.sess.map fun z => { z with o := 0, lastEnd := none, lastBt := some (z.lastBt.getD z.oBt) } }

/-- A saved frame of the point still waits, or is held. -/
def waitsSaved (s : State) (mp : Nat) : Bool := (bp s mp).held.isSome || s.bil.saved.any fun c => frMp c.frame == mp

/-- Once every point's saved frames are applied, a swap whose minute has come takes effect and groups go to the ledger. -/
def restoreEnd (s : State) (pu : Nat) : State :=
  if s.bil.pts.any fun x => x.due.isSome then s
  else
    let b := handSnaps (swapBank s pu true)
    if (bilPts b).isEmpty then { b with bil := { b.bil with pts := b.bil.pts.map fun x => { x with old := false } } } else b

/-- A point whose outage is due and whose saved frames are all applied finishes its power-up. -/
def restorePt (s : State) (mp : Nat) : State :=
  match (bp s mp).due with
  | some (pd, pu) => if waitsSaved s mp then s else restoreEnd (finishPt s mp pd pu) pu
  | none => s

/-- BIL at power-up: `pd` is the power-down time, `pu` billing time now. Begun boundaries are completed; then each point's saved frames are applied, by the commands that apply frames, before any new one (R243). -/
def bilRestore (s : State) (pd pu : Nat) : State :=
  let mark (x : BPoint) : BPoint := { x with due := some (match x.due with | some (p, _) => p | none => pd, pu) }
  let a := { s with bil := { s.bil with pts := s.bil.pts.map mark, hw := max s.bil.hw pu, minute := pu / 60000000 * 60000000, snapOk := false } }
  let b := (List.range 32).foldl resumeBoundary a
  (List.range 32).foldl restorePt b

/-- Apply or hold a frame, then finish the point's power-up when that was its last saved one. -/
def offerFrame (s : State) (c : Saved) (agree1 agree2 again : Bool) : State := restorePt (tryFrame s c agree1 agree2 again) (frMp c.frame)

end Sys2Proof.Machine
end

