-- ==== Sys2Proof/Machine/Flags.lean ====
section
/-! DEFINITION. The arithmetic of the scalar and vector instructions: compares, saturation, division, products (04 R112, R113; 05 R143, R144). The part has no flags. -/

namespace Sys2Proof.Machine

/-- 1 for true, 0 for false (04 Table 4.8, SLT and SLTU). -/
def setIf (b : Bool) : Word := if b then 1 else 0

/-- A value limited to [−2³¹, 2³¹ − 1] (05 R143 sat32). -/
def clamp32 (n : Int) : Int := if n < -2147483648 then -2147483648 else if 2147483647 < n then 2147483647 else n

def sat32 (n : Int) : Word := i32 (clamp32 n)

def addSat (a b : Word) : Word := sat32 (a.toInt + b.toInt)
def subSat (a b : Word) : Word := sat32 (a.toInt - b.toInt)
def minS (a b : Word) : Word := if a.toInt < b.toInt then a else b
def maxS (a b : Word) : Word := if a.toInt < b.toInt then b else a
def minU (a b : Word) : Word := if a.toNat < b.toNat then a else b
def maxU (a b : Word) : Word := if a.toNat < b.toNat then b else a

/-- High words of the signed and of the unsigned 64-bit product. -/
def mulHigh (a b : Word) : Word := i32 (a.toInt * b.toInt / 4294967296)
def mulHighU (a b : Word) : Word := w32 (a.toNat * b.toNat / 4294967296)

/-- 04 R113: quotients and remainders; by zero 0xFFFF_FFFF and the dividend; −2³¹ by −1 gives −2³¹, remainder 0. -/
def quotS (a b : Word) : Word := if b = 0 then 0xFFFFFFFF else i32 (a.toInt.tdiv b.toInt)
def quotU (a b : Word) : Word := if b = 0 then 0xFFFFFFFF else w32 (a.toNat / b.toNat)
def remS (a b : Word) : Word := if b = 0 then a else i32 (a.toInt.tmod b.toInt)
def remU (a b : Word) : Word := if b = 0 then a else w32 (a.toNat % b.toNat)

/-- Leading zeros, 32 for 0. -/
def leadZeros (a : Word) : Word := w32 (if a = 0 then 32 else 31 - a.toNat.log2)

/-- Shift amounts are the low five bits. -/
def shAmt (b : Word) : Nat := b.toNat % 32

/-- 05 R143 VMULQ: the Q1.31 product rounded half up, saturated. -/
def mulQ (a b : Word) : Word := sat32 ((a.toInt * b.toInt + 1073741824) / 2147483648)

/-- 05 R143 VABS. -/
def absSat (a : Word) : Word := sat32 (if a.toInt < 0 then -a.toInt else a.toInt)

/-- An accumulator element, modulo 2⁷² (05 R144). -/
def acc72 (n : Int) : Acc := BitVec.ofInt 72 n

/-- 05 R143 VACR: the rounded and shifted accumulator before saturation. -/
def accRound (a : Acc) (sh : Nat) : Int := (a.toInt + (if sh = 0 then 0 else 2 ^ (sh - 1))) / 2 ^ sh

/-- A mask word from the elements that satisfy a test, element 0 in bit 0. -/
def maskOf (bs : List Bool) : Word := w32 (bs.foldr (fun b n => b2n b + 2 * n) 0)

end Sys2Proof.Machine
end

