-- ==== Sys2Proof/Machine/BilStore.lean ====
section
/-! DEFINITION. The billing state region of MRAM as loads find it (08 R242, Table 8.3; log 17). -/

namespace Sys2Proof.Machine

/-- A number with its sign, as a 64-bit pattern. -/
def num64 (x : Int) : Nat := unsext 64 x

/-- What a state block holds, as numbers: the spec names the contents and not their places. -/
def demandNums (d : Demand) : List Nat :=
  [d.cfg.toNat, d.start, d.acc, b2n d.short, d.flags, d.seg, d.ran, d.value] ++ (match d.pend with | some p => [1, p.1, p.2.toNat] | none => [0]) ++
    [d.subs.length] ++ d.subs ++ d.peaks.flatMap fun p => [p.1, p.2]

def sessNums (z : Sess) : List Nat :=
  [z.id.toNat, z.o, z.oBt, z.fee, z.energy, z.pd, z.ecost, z.tcost, z.chg, z.idle, z.blindM, z.blindB, z.flags, z.applied, z.single, z.disag,
    z.regStart, z.bankO] ++ (match z.c with | some c => [1, c.1, c.2] | none => [0]) ++ z.lastEnd.toList ++ z.lastBt.toList

def pointNums (x : BPoint) : List Nat :=
  (match x.lastSeq with | some q => [1, q] | none => [0]) ++ x.regs.flatten ++ [x.pdM, x.pdC, x.applied, x.single, x.disagree, x.dup, x.late, x.jumps,
    x.tariff, x.dayFlags, x.perFlags, num64 x.snapDay, num64 x.credit, num64 x.warn, num64 x.reduce, num64 x.exhaust, num64 x.reserve, x.crgen.toNat,
    b2n x.prepay, x.level, x.bT] ++ (match x.prog with | some p => [1, p.1, p.2] | none => [0]) ++ x.dems.flatMap demandNums ++
    (match x.sess with | some z => 1 :: sessNums z | none => [0])

def globalNums (s : State) : List Nat :=
  [s.bil.hw, s.tim.slewSum, num64 s.tim.slewNet, num64 s.tim.rtcOff, s.bil.swapT, s.bil.sgen.toNat] ++ s.bil.swap.toList ++ s.bil.pts.map fun x => num64 x.snapDay

/-- The power-fail snapshot: its commit, progress words, frames and the time map at the warning. -/
def snapNums (s : State) : List Nat :=
  b2n s.bil.snapOk :: (s.bil.pts.flatMap fun x => match x.prog with | some p => [p.1, p.2] | none => []) ++
    (s.bil.saved.flatMap fun c => [unle c.frame, c.status, c.stamp]) ++ s.tim.segs.flatMap fun g => [g.m0, g.b0, num64 g.r]

/-- Byte `o` of copy `k` of a state block of `size` bytes: CGEN first, the CRC-32C of the rest last; the copy of the latest commit holds the contents, the other an earlier state. -/
def blockByte (nums : List Nat) (gen size k o : Nat) : Byte :=
  let live := gen % 2 == k
  let g := if live then gen else (gen + 2 ^ 32 - 1) % 2 ^ 32
  let body (i : Nat) : Byte := Config.blockByte (if live then nums else [g]) i
  if o < 4 then (le 4 g).getD o 0
  else if o < size - 4 then body o
  else (le 4 (crc32c (le 4 g ++ (List.range (size - 8)).map fun i => body (4 + i))).toNat).getD (o + 4 - size) 0

/-- A byte of the region, from offset 0x1E_0000. -/
def bilByte (s : State) (o : Nat) : Byte :=
  if o < 0x60000 then
    let x := s.bil.pts.getD (o / 0x3000) BPoint.zero
    blockByte (pointNums x) x.cgen 0x1800 (o % 0x3000 / 0x1800) (o % 0x1800)
  else if o < 0x70000 then blockByte (globalNums s) s.bil.cgen 0x8000 ((o - 0x60000) / 0x8000) (o % 0x8000)
  else Config.blockByte (snapNums s) (o - 0x70000)

end Sys2Proof.Machine
end

