-- ==== Sys2Proof/Machine/Mram.lean ====
section
/-! DEFINITION. The shared MRAM: regions and rights (04 R105), what a load finds in a region that a unit owns, the image directory and images (04 R130 to R138). -/

namespace Sys2Proof.Machine

/-- Rights in an MRAM region. -/
inductive Right where
  | none | ro | rw
  deriving DecidableEq, Repr

/-- A region of 04 Table 4.5: end offset, and what it is. -/
inductive Region where
  | boot | calib | refprog | ext | legalImg | openImg | acl | billing | ckpt | keys | ring | pending | staging | opendata | reserved
  deriving DecidableEq, Repr

/-- 04 Table 4.5: the region of an offset. -/
def regionOf (o : Nat) : Region :=
  if o < 0x010000 then .boot else if o < 0x040000 then .calib else if o < 0x080000 then .refprog
  else if o < 0x0C0000 then .ext else if o < 0x140000 then .legalImg else if o < 0x1C0000 then .openImg
  else if o < 0x1E0000 then .acl else if o < 0x260000 then .billing else if o < 0x2A0000 then .ckpt
  else if o < 0x2B0000 then .keys else if o < 0x2D0000 then .ring else if o < 0x310000 then .pending
  else if o < 0x390000 then .staging else if o < 0x3B0000 then .opendata else .reserved

/-- Word 0x00 of a directory entry (04 Table 4.20). -/
def dirAddr (n : Nat) : Nat := 0x400 + 128 * n
def dirState (s : State) (n : Nat) : Nat := bits (Mem.word s.mram (dirAddr n)) 23 22
def dirLength (s : State) (n : Nat) : Nat := bits (Mem.word s.mram (dirAddr n)) 21 0
def dirGen (s : State) (n : Nat) : Nat := bits (Mem.word s.mram (dirAddr n)) 31 24
def dirMeasure (s : State) (n : Nat) : Bytes := Mem.readN s.mram (dirAddr n + 0x10) 32

/-- The staging region is held from the acceptance of an install until it is complete (04 R137). -/
def stagingHeld (s : State) : Bool := (List.range 7).any fun n => dirState s n == 2

def makerOrRepair (s : State) : Bool := lcState s == 1 || lcState s == 4

/-- HL-LEGAL's right (04 Table 4.5). -/
def legalRight (s : State) (r : Region) : Right :=
  match r with
  | .boot | .ext | .openImg | .staging | .opendata => .rw
  | .calib => if s.clk.mode = 4 && makerOrRepair s then .rw else .ro
  | .refprog | .legalImg => if makerOrRepair s then .rw else .ro
  | .acl | .billing | .ckpt | .ring | .pending => .ro
  | .keys | .reserved => .none

/-- HL-OPEN's right (04 Table 4.5). -/
def openRight (s : State) (r : Region) : Right :=
  match r with
  | .ext | .openImg => .ro
  | .staging => if stagingHeld s then .ro else .rw
  | .opendata => .rw
  | _ => .none

/-- A checkpoint buffer's bytes (07 Table 7.5). -/
def ckByte (c : Ckpt) (o : Nat) : Byte :=
  match c.copy with
  | none => 0
  | some k =>
    let hdr := le 4 c.ckseq ++ le 4 (laneNo k.lane) ++ le 4 k.mark ++ le 4 (k.mark / 2 ^ 32 % 2 ^ 24) ++
      le 4 (match k.prog.use with | some b => b.gen | none => 0) ++ le 4 k.prog.batch
    if o < 0x18 then hdr.getD o 0
    else if o < 0x1C then (le 4 (crc32c (Mem.readN k.seg 0 98304)).toNat).getD (o - 0x18) 0
    else if o < 0x20 then 0
    else if o < 0x220 then (le 4 (match k.pos.getD ((o - 0x20) / 4) none with | some q => q | none => 0xFFFFFFFF)).getD (o % 4) 0
    else if o < 0x420 then (le 4 (k.stream.getD ((o - 0x220) / 4) 0)).getD (o % 4) 0
    else if o < 0x1000 then 0
    else if o < 0x19000 then Mem.read k.seg (o - 0x1000)
    else 0

/-- A Strandline slot's bytes (12 R359). -/
def ringByte (s : State) (o : Nat) : Byte :=
  match s.tmp.ring.reverse.find? fun e => e.eseq % 4096 == o / 32 with
  | some e => e.bytes.getD (o % 32) 0
  | none => 0

/-- What a load finds at an MRAM offset: unit-owned regions without a stated layout read free values (log 1). -/
def mramByte (s : State) (o : Nat) : Byte :=
  match regionOf o with
  | .ckpt => if o < 0x280000 then ckByte s.pair.ck0 (o - 0x260000) else ckByte s.pair.ck1 (o - 0x280000)
  | .ring => ringByte s (o - 0x2B0000)
  | .billing => bilByte s (o - 0x1E0000)
  | .acl | .pending => Config.freeByte (s.free + o)
  | _ => Mem.read s.mram o

def mramRead (s : State) (o n : Nat) : Bytes := (List.range n).map fun i => mramByte s (o + i)

def mramWrite (s : State) (o : Nat) (b : Bytes) : State := { s with mram := Mem.writeN s.mram o b }

/-- Where a directory entry's image lies (04 Table 4.5). -/
def imgBase (n : Nat) : Nat :=
  match n with
  | 0 => 0x040000
  | 5 => 0x0C0000
  | 6 => 0x140000
  | k => 0x080000 + 0x10000 * (k - 1)

/-- Largest stored image and KIND of an entry (04 Tables 4.16, 4.18). -/
def imgMax (n : Nat) : Nat := match n with | 0 => 0x40000 | 5 => 0x80000 | 6 => 0x80000 | _ => 0x10000
def imgKind (n : Nat) : Nat := match n with | 0 => 1 | 5 => 3 | 6 => 4 | _ => 2

/-- A section of an image (04 Table 4.17): kind, load address, size, offset. -/
structure Sect where
  kind : Nat
  load : Nat
  size : Nat
  off : Nat
  deriving DecidableEq, Repr

def sects (im : Bytes) : List Sect :=
  (List.range (min 8 (fld 0x1C 4 im))).map fun i =>
    let b := im.drop (0x100 + 16 * i)
    { kind := fld 0 1 b, load := fld 4 4 b, size := fld 8 4 b, off := fld 12 4 b }

/-- Load limits of code and data sections (04 Table 4.18) by entry. -/
def codeLo (n : Nat) : Nat := match n with | 0 => 0 | 5 => 0 | 6 => 0x40000 | k => 0x30000 + 0x4000 * (k - 1)
def codeHi (n : Nat) : Nat := match n with | 0 => 0x30000 | 5 => 0x40000 | 6 => 0x80000 | k => 0x34000 + 0x4000 * (k - 1)
def dataLo (n : Nat) : Nat := match n with | 0 => 0 | 5 => 0 | 6 => 0x80000 | k => 0x60000 + 0x8000 * (k - 1)
def dataHi (n : Nat) : Nat := match n with | 0 => 0x60000 | 5 => 0x80000 | 6 => 0x100000 | k => 0x68000 + 0x8000 * (k - 1)

def sectIn (n bodyLen : Nat) (x : Sect) : Bool :=
  x.load % 4 == 0 && x.size % 4 == 0 &&
  (if x.kind = 1 then decide (codeLo n ≤ x.load) && decide (x.load + x.size ≤ codeHi n) && decide (x.off + x.size ≤ bodyLen)
   else if x.kind = 2 then decide (dataLo n ≤ x.load) && decide (x.load + x.size ≤ dataHi n) && decide (x.off + x.size ≤ bodyLen)
   else if x.kind = 3 then decide (dataLo n ≤ x.load) && decide (x.load + x.size ≤ dataHi n) && x.off == 0
   else x.kind == 0)

/-- Two sections of one space that overlap. -/
def sectClash (a b : Sect) : Bool :=
  a.kind != 0 && b.kind != 0 && ((a.kind == 1) == (b.kind == 1)) && decide (a.load < b.load + b.size) && decide (b.load < a.load + a.size)

def noClash : List Sect → Bool
  | [] => true
  | x :: t => !(t.any (sectClash x)) && noClash t

/-- The integrator image key of the boot record (04 R132): 64 bytes at offset 0, absent when all zero (log 4). -/
def integratorKey (s : State) : Option Bytes :=
  let k := Mem.readN s.mram 0 64
  if k.any (· != 0) then some k else none

/-- 04 R130: the reserved bytes and bits of the header and of the eight section entries, and BUDGET of an image that is no extension program, are 0. -/
def imgZeros (n : Nat) (im : Bytes) : Bool :=
  (slice 0x25 27 im).all (· == 0) && (slice 0x60 32 im).all (· == 0) && (slice 0xC0 64 im).all (· == 0) && decide (fld 0x18 4 im < 8) &&
    (imgKind n == 2 || fld 0x14 4 im == 0) && (List.range 8).all fun i => fld (0x101 + 16 * i) 3 im == 0

/-- The key that verifies an image of entry `n` (04 Table 4.18, R132). -/
def imgKey (s : State) (n : Nat) : Option Bytes := if n = 0 ∨ n = 5 then some s.fuse.gwyndex else integratorKey s

/-- 04 R132: the reason of Table 4.21 for which an image held for entry `n` is refused before its signature is verified; 0 when it comes to that.
DESIGN CHOICE (log 37), unsafe: R132 names the conditions and no order among them; FORMAT, with what R130 reserves, comes first, then MEMBER, REQUIRES, REGION, HASH, SIGNATURE for a wrong SIGNER, NOKEY; a length other than 0x180 + BODY_LEN is REGION. -/
def imgForm (s : State) (n : Nat) (im : Bytes) : Nat :=
  let v := s.fuse.variant
  let req := fld 0x18 4 im
  let body := fld 0x20 4 im
  let ss := sects im
  let signer := if n = 0 ∨ n = 5 then 1 else 2
  if fld 0 4 im ≠ 0x58435747 ∨ fld 4 2 im ≠ 1 ∨ fld 6 1 im ≠ imgKind n ∨ fld 7 1 im ≠ (if imgKind n = 2 then n - 1 else 0) ∨ !imgZeros n im then 2
  else if !(fld 0x0C 4 im).testBit 4 then 5
  else if (req.testBit 0 && !v.surge) || (req.testBit 1 && !v.sit) || (req.testBit 2 && !v.dpy) then 6
  else if im.length ≠ 0x180 + body ∨ im.length > imgMax n ∨ fld 0x1C 4 im = 0 ∨ fld 0x1C 4 im > 8 ∨ !(ss.all (sectIn n body)) ∨ !(noClash ss) ∨
      !(ss.any fun x => x.kind == 1 && decide (x.load ≤ fld 0x10 4 im) && decide (fld 0x10 4 im < x.load + x.size)) then 9
  else if sha256 (im.drop 0x100) ≠ slice 0x40 32 im then 3
  else if fld 0x24 1 im ≠ signer then 4
  else if (imgKey s n).isNone then 8
  else 0

/-- The signature of an image verifies (04 R132). -/
def imgSigned (s : State) (n : Nat) (im : Bytes) : Bool :=
  match imgKey s n with
  | some k => ecdsaVerify k (sha256 (im.take 0x80)) (slice 0x80 64 im)
  | none => false

/-- The reason code of Table 4.21 for an image (04 R132); `sum` is the budget already accepted, `verdict` says whether the two computations of the signature verdict agree. DESIGN CHOICE (log 37), unsafe: of several conditions that fail, the first in the order of `imgForm`, then SIGNATURE, then BUDGET, gives the reason. -/
def imgReason (s : State) (n : Nat) (im : Bytes) (sum : Nat) (verdict : Bool) : Nat :=
  if imgForm s n im ≠ 0 then imgForm s n im
  else if !(verdict && imgSigned s n im) then 4
  else if imgKind n = 2 && (decide (fld 0x14 4 im < 1000) || decide (fld 0x14 4 im > 100000) || decide (sum + fld 0x14 4 im > 100000)) then 7
  else 0

/-- The stored image of an entry. -/
def imgBytes (s : State) (n : Nat) : Bytes := Mem.readN s.mram (imgBase n) (dirLength s n)

/-- Copy an image's sections into an instruction and a data memory. -/
def loadSects (im : Bytes) (imem dmem : Mem) : Mem × Mem :=
  (sects im).foldl (fun a x =>
    let b := slice (0x180 + x.off) x.size im
    if x.kind = 1 then (Mem.writeN a.1 x.load b, a.2)
    else if x.kind = 2 then (a.1, Mem.writeN a.2 x.load b)
    else if x.kind = 3 then (a.1, Mem.writeN a.2 x.load (List.replicate x.size 0)) else a) (imem, dmem)

/-- Write REASON of a directory entry (04 Table 4.20). -/
def setReason (s : State) (n r : Nat) : State := mramWrite s (dirAddr n + 4) [BitVec.ofNat 8 r]

/-- 04 R138: steps 3 to 5 of an install that start-up completes, if staging still measures PEND_MEASURE; the answer says whether the entry may be started. `src` is the record's UNIT: CLK's boot sequencer, or 0xFF for the Legal image (10 Table 10.6). -/
def completeCopy (s : State) (n src : Nat) : State × Bool :=
  if dirState s n ≠ 2 then (s, true)
  else
    let len := bits (Mem.word s.mram (dirAddr n + 8)) 21 0
    let im := Mem.readN s.mram 0x310000 len
    let pm := Mem.readN s.mram (dirAddr n + 0x30) 32
    if sha256 im ≠ pm then (s, false)
    else
      let a := mramWrite (mramWrite s (imgBase n) im) (dirAddr n + 0x10) pm
      let b := mramWrite a (dirAddr n) (le 4 (((dirGen s n + 1) % 256) * 2 ^ 24 + 2 ^ 22 + len))
      (metro b 0x21 src 0 false ([w32 n, w32 ((dirGen s n + 1) % 256)] ++ hashWords pm), true)

/-- Load the image of an entry and record its measurement (04 R133, R134): outcome reason, entry point, image. -/
def measureImage (s : State) (n : Nat) : Bytes := sha256 (imgBytes s n)

def setMeasure (s : State) (n : Nat) (m : Option Bytes) : State := { s with hl := { s.hl with measures := s.hl.measures.set n m } }

/-- 04 R135: an extension or OPEN image is refused; the record follows once the ledger writer runs. -/
def imageRefused (s : State) (n r : Nat) : State := event (setReason (setMeasure s n none) n r) .clk 0x22 [w32 n, w32 r]

/-- A signature verdict whose two computations differ notifies monitor 9 (01 Table 1.6); `taken` says that the image came to the verdict. -/
def verdictNote (s : State) (agree taken : Bool) : State := if taken && !agree then notify9 s 6 3 else s

/-- Put the OPEN image into Headland's memories. DESIGN CHOICE (log 37), unsafe: an image that no longer measures at a restart of the OPEN world (R126) is refused with HASH and an IMAGE_REFUSED record, as R135 has it at start-up. -/
def loadOpen (s : State) (full verdict : Bool) : State :=
  let im := imgBytes s 6
  let r := if dirState s 6 = 0 then 1 else if full then imgReason s 6 im 0 verdict else if measureImage s 6 = dirMeasure s 6 then 0 else 3
  let a := { s with hl := { s.hl with loaded := false, run := s.hl.run && r == 0 }, opn := { s.opn with released := false } }
  if r = 1 then setReason (setMeasure a 6 none) 6 1
  else if r ≠ 0 then imageRefused a 6 r
  else
    let m := loadSects im s.hl.imem s.hl.dmem
    let e := w32 (fld 0x10 4 im)
    let b := setMeasure (setReason a 6 0) 6 (some (measureImage s 6))
    { b with hl := { b.hl with imem := m.1, dmem := m.2, loaded := true },
             opn := { b.opn with bank := { Bank.zero with pc := e }, released := true, entry := e } }

end Sys2Proof.Machine
end

