-- ==== Sys2Proof/Machine/Except.lean ====
section
/-! DEFINITION. What executes on a core, its rights, exceptions, restarts of a world and the ends of slot runs (04 R104 to R129). -/

namespace Sys2Proof.Machine

/-- An executing context: a lane's reference program, a slot, or a world (04 R101, R127). -/
inductive Ctx where
  | ref (l : LaneId)
  | slot (l : LaneId) (k : Nat)
  | world (w : World)
  deriving DecidableEq, Repr

def worldSt (s : State) (w : World) : WorldSt := match w with | .legal => s.legal | .opn => s.opn

def modWorld (s : State) (w : World) (f : WorldSt → WorldSt) : State :=
  match w with
  | .legal => { s with legal := f s.legal }
  | .opn => { s with opn := f s.opn }

/-- Pending events that the world has enabled (04 R122). -/
def enabledEv (x : WorldSt) : Word := x.ctl.evpend &&& x.ctl.evmask

/-- The world that Headland executes, by 04 R121. -/
def worldOf (s : State) : Option World :=
  if s.legal.released && !s.legal.waiting then some .legal
  else if s.opn.released && s.hl.run && !s.opn.ctl.inGate && !s.opn.waiting && s.legal.released && enabledEv s.legal == 0 then some .opn
  else none

/-- A lane executes: released, not stalled. -/
def laneCtx (s : State) (l : LaneId) : Option Ctx :=
  let x := lane s l
  if !x.running then none
  else match x.stall, x.run with
    | .none, none => some (.ref l)
    | .none, some r => some (.slot l r.k)
    | _, _ => none

/-- What core `c` executes now; none while it is held, stopped, stalled or waiting. -/
def ctxOf (s : State) (c : CoreId) : Option Ctx :=
  if !alive s then none
  else match c with
    | .ebb => laneCtx s .ebb
    | .flood => laneCtx s .flood
    | .headland => (worldOf s).map Ctx.world

/-- The register bank of a context (04 R101, R128). -/
def bankOf (s : State) (x : Ctx) : Bank :=
  match x with
  | .ref l => (lane s l).bank
  | .slot l _ => (lane s l).slotBank
  | .world w => (worldSt s w).bank

def setBank (s : State) (x : Ctx) (b : Bank) : State :=
  match x with
  | .ref l => modLane s l fun y => { y with bank := b }
  | .slot l _ => modLane s l fun y => { y with slotBank := b }
  | .world w => modWorld s w fun y => { y with bank := b }

def ctlOf (s : State) (x : Ctx) : Ctl :=
  match x with
  | .ref l => (lane s l).ctl
  | .slot l _ => (lane s l).ctl
  | .world w => (worldSt s w).ctl

def modCtl (s : State) (x : Ctx) (f : Ctl → Ctl) : State :=
  match x with
  | .ref l => modLane s l fun y => { y with ctl := f y.ctl }
  | .slot l _ => modLane s l fun y => { y with ctl := f y.ctl }
  | .world w => modWorld s w fun y => { y with ctl := f y.ctl }

/-- An exception: code, detail and data address (04 Table 4.10). -/
structure Exc where
  code : Nat
  detail : Nat
  addr : Word
  deriving DecidableEq, Repr

def xIllegal : Exc := { code := 1, detail := 0, addr := 0 }
def xPriv : Exc := { code := 6, detail := 0, addr := 0 }
def xAlign (a : Word) : Exc := { code := 3, detail := 0, addr := a }
def xGate (k : Nat) : Exc := { code := 7, detail := k, addr := 0 }
def xStream (d : Nat) : Exc := { code := 9, detail := d, addr := 0 }

def excCause (e : Exc) : Word := w32 (e.code + 256 * e.detail)

/-- The slot that SLOTS runs next, from `k` on (04 R128). -/
def nextSlot (s : State) (l : LaneId) (k : Nat) : Option Nat :=
  (List.range 4).find? fun i =>
    let x := (lane s l).slots.getD i Slot.zero
    decide (k ≤ i) && x.present && !x.disabled && decide (x.lastStart + 4000 ≤ (now s : Int))

/-- The slot bank at the start of a run (04 R128). -/
def slotStart (s : State) (k : Nat) (entry : Word) : Bank :=
  { g := (Bank.zero.g.set 2 (w32 k)).set 3 (w32 (now s)), pc := entry }

/-- SLOTS goes on from slot `k`: it enters the next due slot, or completes with g1 = done | aborted << 4 (04 R128). -/
def slotsFrom (s : State) (l : LaneId) (k done aborted : Nat) : State :=
  match nextSlot s l k with
  | some i =>
    modLane s l fun x =>
      { x with
        slotBank := slotStart s i (x.slots.getD i Slot.zero).entry
        slotVec := Vec.zero
        slots := x.slots.modify i fun y => { y with lastStart := now s }
        run := some { k := i, start := x.ctl.cycles, done := done, aborted := aborted } }
  | none =>
    modLane s l fun x =>
      { x with run := none, bank := { g := x.bank.g.set 1 (w32 (done + 16 * aborted)), pc := x.bank.pc + 4 } }

/-- A slot's run ends: with SLOTEND, or aborted; the pairing unit counts it (04 R128, R129). -/
def slotDone (s : State) (l : LaneId) (ok : Bool) : State :=
  match (lane s l).run with
  | none => s
  | some r =>
    let a := modLane s l fun x =>
      { x with slots := x.slots.modify r.k fun y =>
          if ok then { y with fails := 0 } else { y with fails := y.fails + 1, disabled := y.disabled || y.fails + 1 == 16 } }
    let b := modPl a l fun p =>
      if ok then { p with ended := p.ended.modify r.k fun n => sat 0xFFFFFFFF (n + 1) }
      else { p with aborted := p.aborted.modify r.k fun n => sat 0xFFFFFFFF (n + 1) }
    slotsFrom b l (r.k + 1) (if ok then r.done ||| 2 ^ r.k else r.done) (if ok then r.aborted else r.aborted ||| 2 ^ r.k)

/-- Operations of a restarted world lose their way back (05 R158). -/
def orphan (s : State) (p : World → Bool) : State :=
  { s with posts := s.posts.map fun q => if p q.world then { q with live := false } else q }

/-- 04 R119: Headland restarts; both worlds stop until the boot sequencer has reloaded them. -/
def restartHeadland (s : State) (cause epc : Word) : State :=
  let a := orphan s fun _ => true
  let b := { a with
    legal := WorldSt.zero 1465
    opn := WorldSt.zero 0
    hl := { a.hl with gateBase := 0, gateN := 0, restarts := 0, loaded := false, run := false, restarting := true,
                      grantLost := true } }
  event b .clk 0x20 [noInst, cause, epc]

/-- 04 R126: the OPEN world restarts; a restart by fault raises OPEN_FAULT to the LEGAL world. -/
def restartOpen (s : State) (fault : Bool) : State :=
  let a := orphan s fun w => w == .opn
  let b := { a with
    opn := WorldSt.zero 0
    hl := { a.hl with restarts := sat 255 (a.hl.restarts + 1) }
    legal := { a.legal with ctl := { a.legal.ctl with inGate := a.legal.ctl.inGate && !s.opn.ctl.inGate } } }
  let c := loadOpen b false true
  if fault then raiseEv c .legal 18 else c

/-- An address of the world's code (04 Table 4.4). -/
def inCode (w : World) (a : Word) : Bool :=
  match w with
  | .legal => decide (a.toNat < 0x40000)
  | .opn => decide (0x40000 ≤ a.toNat) && decide (a.toNat < 0x80000)

/-- 12 Table 12.5: the Strandline entry of a WORLD exception. -/
def worldEntry (s : State) (e : Exc) (pc : Word) : State :=
  if e.code = 5 then tmpEntry s 6 0xFF e.detail 0 false false (pc.toNat + 2 ^ 32 * e.addr.toNat) else s

/-- 04 R118, R119: a Headland world raises an exception and enters its handler, or double-faults. -/
def raiseWorld (s : State) (w : World) (e : Exc) : State :=
  let x := worldSt s w
  let a := worldEntry s e x.bank.pc
  if x.ctl.active || !inCode w x.ctl.evec then
    (match w with
    | .legal => restartHeadland a (excCause e) x.bank.pc
    | .opn => restartOpen a true)
  else
    modWorld a w fun y =>
      { y with ctl := { y.ctl with cause := excCause e, epc := x.bank.pc, eaddr := e.addr, active := true },
               bank := { y.bank with pc := y.ctl.evec } }

/-- An exception in a context (04 R117 to R120). -/
def raise (s : State) (x : Ctx) (e : Exc) : State :=
  match x with
  | .ref l =>
    laneFault (modCtl s x fun c => { c with cause := excCause e, epc := (bankOf s x).pc, eaddr := e.addr }) l 1 (e.code + 256 * e.detail)
  | .slot l _ =>
    slotDone (modCtl s x fun c => { c with cause := excCause e, epc := (bankOf s x).pc, eaddr := e.addr }) l false
  | .world w => raiseWorld s w e

/-- What an access to one byte of the data space finds: allowed, WORLD, or DACCESS (04 R104 to R107). -/
inductive Grant where
  | ok
  | world
  | no
  deriving DecidableEq, Repr

def rightOk (r : Right) (store : Bool) : Bool := match r with | .rw => true | .ro => !store | .none => false

/-- The right of a context to one byte (04 Tables 4.4, 4.5, R127). -/
def grant (s : State) (x : Ctx) (a : Nat) (store : Bool) : Grant :=
  let win := decide (0x80000000 ≤ a) && decide (a < 0x80400000)
  let r := regionOf (a - 0x80000000)
  match x with
  | .ref _ => if a < 0x80000 || (win && !store && r == .calib) then .ok else .no
  | .slot _ k =>
    if decide (0x60000 + 0x8000 * k ≤ a) && decide (a < 0x68000 + 0x8000 * k) then .ok
    else if !store && decide (0x5C000 ≤ a) && decide (a < 0x60000) then .ok else .no
  | .world .legal => if a < 0x100000 || (win && rightOk (legalRight s r) store) then .ok else .no
  | .world .opn =>
    if a < 0x80000 then .world
    else if a < 0x100000 then .ok
    else if win then
      (if rightOk (openRight s r) store then .ok
       else if openRight s r == .none && legalRight s r != .none then .world else .no)
    else .no

/-- Byte `i` of an access at `a`; addresses wrap modulo 2³². -/
def byteAt (a : Word) (i : Nat) : Nat := (a.toNat + i) % 2 ^ 32

/-- The exception of an access of `n` bytes: WORLD comes before DACCESS (04 R117). -/
def accessExc (s : State) (x : Ctx) (a : Word) (n : Nat) (store : Bool) : Option Exc :=
  let gs := (List.range n).map fun i => grant s x (byteAt a i) store
  if gs.contains .world then some { code := 5, detail := b2n store, addr := a }
  else if gs.contains .no then some { code := 4, detail := b2n store, addr := a }
  else none

def inWindow (a : Word) : Bool := decide (0x80000000 ≤ a.toNat)

def dmemOf (s : State) (x : Ctx) : Mem := match x with | .ref l => (lane s l).dmem | .slot l _ => (lane s l).dmem | .world _ => s.hl.dmem

/-- Waiting memory errors of the core (04 R109). -/
def errsOf (s : State) (x : Ctx) : List MemErr := match x with | .ref l => (lane s l).errs | .slot l _ => (lane s l).errs | .world _ => s.hl.errs

/-- The errors that an access of `n` bytes to a memory meets; `kind` 0 instruction, 1 data, 2 MRAM. -/
def errsIn (s : State) (x : Ctx) (kind a n : Nat) : List MemErr :=
  (errsOf s x).filter fun e => e.kind == kind && decide (e.addr / 4 ≤ (a + n - 1) / 4) && decide (a / 4 ≤ e.addr / 4)

def dataKind (a : Word) : Nat := if inWindow a then 2 else 1
def dataOff (a : Word) : Nat := if inWindow a then a.toNat - 0x80000000 else a.toNat

/-- Corrected errors are counted (04 R109, Table 4.2). -/
def countEcc (s : State) (x : Ctx) (es : List MemErr) : State :=
  if es.isEmpty then s else modCtl s x fun c => { c with eccCorr := sat 255 (c.eccCorr + es.length) }

/-- An uncorrectable error in the words of a load (04 R109). -/
def loadEcc (s : State) (x : Ctx) (a : Word) (n : Nat) : Option Exc :=
  if (errsIn s x (dataKind a) (dataOff a) n).any (·.double) then some { code := 8, detail := dataKind a, addr := a } else none

/-- The bytes at a data address of a context. -/
def dataRead (s : State) (x : Ctx) (a : Word) (n : Nat) : Bytes :=
  if inWindow a then mramRead s (dataOff a) n else Mem.readN (dmemOf s x) a.toNat n

/-- The state after a load: corrected errors counted, the free value of an MRAM byte used (log 1). -/
def dataTouch (s : State) (x : Ctx) (a : Word) (n : Nat) : State :=
  let t := countEcc s x (errsIn s x (dataKind a) (dataOff a) n)
  if inWindow a then t.used else t

def setDmem (s : State) (x : Ctx) (m : Mem) : State :=
  match x with
  | .ref l => modLane s l fun y => { y with dmem := m }
  | .slot l _ => modLane s l fun y => { y with dmem := m }
  | .world _ => { s with hl := { s.hl with dmem := m } }

/-- The world of a context; lanes store nothing in MRAM (04 Table 4.5). -/
def worldOfCtx (x : Ctx) : World := match x with | .world w => w | _ => .legal

/-- A core's store to MRAM; until a FENCE covers it a power failure may lose it (04 R108). -/
def mramStore (s : State) (w : World) (o : Nat) (b : Bytes) : State :=
  mramWrite { s with unfenced := s.unfenced ++ [{ world := w, off := o, old := Mem.readN s.mram o b.length, new := b }] } o b

/-- A store of bytes into a data space. -/
def dataWrite (s : State) (x : Ctx) (a : Word) (b : Bytes) : State :=
  if inWindow a then
    (if regionOf (dataOff a) = .calib then shadowHook s (mramStore s (worldOfCtx x) (dataOff a) b) else mramStore s (worldOfCtx x) (dataOff a) b)
  else setDmem s x (Mem.writeN (dmemOf s x) a.toNat b)

/-- Fetch at pc: IFETCH or WORLD outside the context's code (04 R104, R107, R127), ECC on an uncorrectable error. DESIGN CHOICE (log 12), unsafe: a pc that is no multiple of 4 (from EPC, EVEC or an ENTRY) is taken as it is, since no rule names an exception for it; EADDR of a WORLD fetch holds the pc, though Table 4.1 speaks of a data address. -/
def fetchExc (s : State) (x : Ctx) : Option Exc :=
  let pc := (bankOf s x).pc
  let inside : Bool := match x with
    | .ref _ => decide (pc.toNat < 0x40000)
    | .slot _ k => decide (0x30000 + 0x4000 * k ≤ pc.toNat) && decide (pc.toNat < 0x34000 + 0x4000 * k)
    | .world w => inCode w pc
  if !inside then
    (if x = .world .opn && decide (pc.toNat < 0x40000) then some { code := 5, detail := 2, addr := pc }
     else some { code := 2, detail := 0, addr := 0 })
  else if (errsIn s x 0 pc.toNat 4).any (·.double) then some { code := 8, detail := 0, addr := 0 }
  else none

/-- The state in which an instruction executes: corrected errors of its own word are counted (04 R109). -/
def fetched (s : State) (x : Ctx) : State := countEcc s x (errsIn s x 0 (bankOf s x).pc.toNat 4)

/-- One instruction of core `c`: nothing while the core does not execute, a fetch exception, or its effect (04 R117). -/
def instrOn (s : State) (c : CoreId) (f : Ctx → State → State) : Host.Outcome State Fault Refusal :=
  .next (match ctxOf s c with
    | none => s
    | some x =>
      match fetchExc s x with
      | some e => raise s x e
      | none => f x (fetched s x))

/-- A general register; g0 reads as 0 (04 R100). -/
def getG (s : State) (x : Ctx) (r : Reg) : Word := if r = 0 then 0 else (bankOf s x).g.getD r.val 0

/-- Write a general register; a write to g0 is discarded (04 R100). -/
def setG (s : State) (x : Ctx) (r : Reg) (v : Word) : State :=
  if r = 0 then s else setBank s x { bankOf s x with g := (bankOf s x).g.set r.val v }

def setPc (s : State) (x : Ctx) (a : Word) : State := setBank s x { bankOf s x with pc := a }

/-- On to the next instruction. -/
def advance (s : State) (x : Ctx) : State := setPc s x ((bankOf s x).pc + 4)

/-- Write rd and go on. -/
def retire (s : State) (x : Ctx) (rd : Reg) (v : Word) : State := advance (setG s x rd v) x

/-- The word type's immediates (04 R110, Table 4.8). -/
def sext16 (i : Imm16) : Word := BitVec.signExtend 32 i
def zext16 (i : Imm16) : Word := BitVec.zeroExtend 32 i

end Sys2Proof.Machine
end

