-- ==== Sys2Proof/Machine/Tick.lean ====
section
/-! DEFINITION. Time: what every clock domain counts over REF cycles (03 R71; 04 R103, R123; 07 R202; 16 R435, R447), and the instant of a deadline (log 6). -/

namespace Sys2Proof.Machine

/-- Edges of a domain of `num`/`den` per REF cycle over the `n` cycles from number `r` on. -/
def edges (num den r n : Nat) : Nat := num * (r + n) / den - num * r / den

/-- The REF cycles from number `r` on that bring `k` edges. -/
def refsFor (num den r k : Nat) : Nat := (den * (num * r / den + k) + num - 1) / num - r

/-- The RTC over REF periods, whatever supplies it: 32,768 periods a second, and the seconds whose trim is due (R447). -/
def rtcElapse (n : Nat) (b : Backup) : Backup :=
  { b with rtc := (b.rtc + edges 32768 24000000 b.phase n) % 2 ^ 48, phase := (b.phase + n) % 24000000, trims := b.trims + (b.phase + n) / 24000000 }

/-- SYS cycles per REF cycle: 150 MHz, or REF in the fallback (16 Table 16.1). -/
def sysRate (s : State) : Nat × Nat := if s.clk.fallback.isSome then (1, 1) else (25, 4)

/-- Lane cycles per REF cycle: 200 MHz, 50 MHz in REDUCED, REF in the fallback. -/
def laneRate (s : State) : Nat × Nat := if s.clk.fallback.isSome then (1, 1) else if s.clk.mode = 3 then (25, 12) else (25, 3)

/-- A lane's CYCLE runs from its release. -/
def laneElapse (n : Nat) (y : Lane) : Lane := if y.running then { y with ctl := { y.ctl with cycles := (y.ctl.cycles + n) % 2 ^ 64 } } else y

/-- A world's CYCLE counts its own execution; the LEGAL watchdog counts every SYS cycle, the OPEN watchdog the world's own (R103, R123). -/
def worldElapse (n : Nat) (exec always : Bool) (y : WorldSt) : WorldSt :=
  { y with
    ctl := { y.ctl with cycles := if exec then (y.ctl.cycles + n) % 2 ^ 64 else y.ctl.cycles }
    wdogCount := if y.released && y.wdogPeriod != 0 && (always || exec) then y.wdogCount + n else y.wdogCount }

/-- SYS and the cores over REF cycles in which they run. -/
def coreElapse (n : Nat) (s : State) : State :=
  let k := edges (sysRate s).1 (sysRate s).2 s.clk.sysRef n
  let m := edges (laneRate s).1 (laneRate s).2 s.clk.sysRef n
  { s with
    ebb := laneElapse m s.ebb
    flood := laneElapse m s.flood
    legal := worldElapse k (worldOf s == some .legal) true s.legal
    opn := worldElapse k (worldOf s == some .opn) false s.opn
    clk := { s.clk with sys := s.clk.sys + k, sysRef := s.clk.sysRef + n } }

/-- MOD: an edge at every sixth REF edge; MODTICK counts it (03 R71). -/
def modElapse (n : Nat) (s : State) : State :=
  if s.clk.modRun && !frozen s then
    { s with clk := { s.clk with modPhase := (s.clk.modPhase + n) % 6, modtick := (s.clk.modtick + (s.clk.modPhase + n) / 6) % 2 ^ 56 } }
  else s

/-- `n` REF periods pass: REF runs while the supply holds, the RTC on the cell too (R447). -/
def elapse (n : Nat) (s : State) : State :=
  let a := if s.clk.powered || s.bk.vbak then { s with bk := rtcElapse n s.bk } else s
  if !s.clk.powered then a
  else
    let b := modElapse n (if alive a then coreElapse n a else a)
    { b with clk := { b.clk with ref := b.clk.ref + n } }

/-- One REF cycle. -/
def tick (s : State) : State := elapse 1 s

/-- The state once MODTICK has reached `m`: time passes up to it unless it has come already (log 6). -/
def dueTick (s : State) (m : Nat) : State := if m ≤ now s then s else elapse (6 * (m - now s) - s.clk.modPhase) s

/-- The state once REF has reached cycle `r`. -/
def dueRef (s : State) (r : Nat) : State := if r ≤ s.clk.ref then s else elapse (r - s.clk.ref) s

/-- What happens at MODTICK `m`; nothing while MOD does not reach it. -/
def atTick (s : State) (m : Nat) (f : State → State) : State := if m ≤ now (dueTick s m) then f (dueTick s m) else s

/-- What happens at REF cycle `r`; nothing while the part is without supply. -/
def atRef (s : State) (r : Nat) (f : State → State) : State := if r ≤ (dueRef s r).clk.ref then f (dueRef s r) else s

/-- What happens once a domain of a rate has brought `k` more cycles. -/
def afterCycles (s : State) (rate : Nat × Nat) (k : Nat) (f : State → State) : State :=
  f (if k = 0 then s else elapse (refsFor rate.1 rate.2 s.clk.sysRef k) s)

end Sys2Proof.Machine
end

