-- ==== Sys2Proof/Machine/Operands.lean ====
section
/-! DEFINITION. Operand forms: loads and stores, branches, vector registers, and the parameter records of unit instructions with their completion (05 R152 to R161). -/

namespace Sys2Proof.Machine

/-- A register instruction: rd gets a function of the registers (04 R112). -/
def alu (s : State) (c : CoreId) (rd : Reg) (v : (Reg → Word) → Word) : Host.Outcome State Fault Refusal :=
  instrOn s c fun x s => retire s x rd (v (getG s x))

/-- A load of `n` bytes at rs1 + sext(imm16) (04 R112, R113, R117). -/
def load (s : State) (c : CoreId) (rd rs1 : Reg) (imm : Imm16) (n : Nat) (v : Nat → Word) : Host.Outcome State Fault Refusal :=
  instrOn s c fun x s =>
    let a := getG s x rs1 + sext16 imm
    if a.toNat % n ≠ 0 then raise s x (xAlign a)
    else match accessExc s x a n false with
      | some e => raise s x e
      | none =>
        match loadEcc s x a n with
        | some e => raise s x e
        | none => retire (dataTouch s x a n) x rd (v (unle (dataRead s x a n)))

/-- A store of the low `n` bytes of rs2 at rs1 + sext(imm16) (04 R112, R113, R117). -/
def store (s : State) (c : CoreId) (rs2 rs1 : Reg) (imm : Imm16) (n : Nat) : Host.Outcome State Fault Refusal :=
  instrOn s c fun x s =>
    let a := getG s x rs1 + sext16 imm
    if a.toNat % n ≠ 0 then raise s x (xAlign a)
    else match accessExc s x a n true with
      | some e => raise s x e
      | none => advance (dataWrite s x a (le n (getG s x rs2).toNat)) x

/-- A conditional branch to pc + 4 × off16 (04 R112). -/
def branch (s : State) (c : CoreId) (rs1 rs2 : Reg) (off : Imm16) (p : Word → Word → Bool) : Host.Outcome State Fault Refusal :=
  instrOn s c fun x s =>
    if p (getG s x rs1) (getG s x rs2) then setPc s x ((bankOf s x).pc + 4 * sext16 off) else advance s x

/-- The vector bank of a context; Headland has none (05 R141). -/
def vecOf (s : State) (x : Ctx) : Vec := match x with | .ref l => (lane s l).vec | .slot l _ => (lane s l).slotVec | .world _ => Vec.zero

def setVec (s : State) (x : Ctx) (v : Vec) : State :=
  match x with
  | .ref l => modLane s l fun y => { y with vec := v }
  | .slot l _ => modLane s l fun y => { y with slotVec := v }
  | .world _ => s

def isWorld (x : Ctx) : Bool := match x with | .world _ => true | _ => false
def isSlot (x : Ctx) : Bool := match x with | .slot _ _ => true | _ => false
def isRef (x : Ctx) : Bool := match x with | .ref _ => true | _ => false

/-- The lane of a lane context. -/
def laneOf (x : Ctx) : LaneId := match x with | .ref l => l | .slot l _ => l | .world _ => .ebb

/-- A lane instruction: ILLEGAL on Headland (04 R111, 05 R141), and PRIV in a slot where the reference program alone may issue it. -/
def laneInstr (s : State) (c : CoreId) (priv : Bool) (f : Ctx → State → State) : Host.Outcome State Fault Refusal :=
  instrOn s c fun x s => if isWorld x then raise s x xIllegal else if priv && isSlot x then raise s x xPriv else f x s

def getV (s : State) (x : Ctx) (r : VReg) : List Word := (vecOf s x).v.getD r.val (List.replicate 8 0)
def getA (s : State) (x : Ctx) (r : AReg) : List Acc := (vecOf s x).a.getD r.val (List.replicate 8 0)
def setV (s : State) (x : Ctx) (r : VReg) (v : List Word) : State := setVec s x { vecOf s x with v := (vecOf s x).v.set r.val v }
def setA (s : State) (x : Ctx) (r : AReg) (v : List Acc) : State := setVec s x { vecOf s x with a := (vecOf s x).a.set r.val v }

/-- A vector instruction that writes vd. -/
def vop (s : State) (c : CoreId) (vd : VReg) (f : Ctx → State → List Word) : Host.Outcome State Fault Refusal :=
  laneInstr s c false fun x s => advance (setV s x vd (f x s)) x

/-- A vector instruction that writes an accumulator. -/
def aop (s : State) (c : CoreId) (a : AReg) (f : Ctx → State → List Acc) : Host.Outcome State Fault Refusal :=
  laneInstr s c false fun x s => advance (setA s x a (f x s)) x

/-- A destination of `n` bytes in data memory, written by a stream instruction or read and written by a unit (05 R148, R153). -/
def destExc (s : State) (x : Ctx) (a : Word) (n : Nat) : Option Exc :=
  if a.toNat % 4 ≠ 0 then some (xAlign a) else accessExc s x a n true

/-- What a unit operation needs of the executing context (01 R19, R23, Table 1.5): a read that lanes may issue, a read, or more. -/
inductive Need where
  | laneRead
  | read
  | more
  deriving DecidableEq, Repr

/-- Units that the OPEN world may use within the limits of their chapters. -/
def openUse (u : UnitId) : Bool :=
  match u with
  | .obj | .key | .sit | .dpy | .hst => true
  | _ => false

def permitted (x : Ctx) (u : UnitId) (n : Need) : Bool :=
  match x with
  | .world .legal => true
  | .world .opn => n != .more || openUse u
  | .ref _ => n == .laneRead
  | .slot _ _ => n == .laneRead && (u == .cap || u == .tim)

/-- Status codes of 00 Table 0.7. -/
def stBUSY : Nat := 1
def stDENIED : Nat := 2
def stABSENT : Nat := 3
def stSTALE : Nat := 4
def stREVOKED : Nat := 5
def stRANGE : Nat := 6
def stORDER : Nat := 7
def stFULL : Nat := 8
def stFAULT : Nat := 9

/-- A status that applies when `b`. -/
def onIf (b : Bool) (code : Nat) : List Nat := if b then [code] else []

/-- 00 R13: the first status that applies. -/
def pick (cs : List Nat) : Nat := ([3, 2, 6, 7, 4, 1, 8, 9, 5].find? fun c => cs.contains c).getD 0

/-- A word of a record; word 0 is the header. -/
def rw (ws : List Word) (i : Nat) : Word := ws.getD i 0

/-- A non-zero bit outside `mask` in word `i` (00 R9). -/
def resv (ws : List Word) (i : Nat) (mask : Word) : Bool := (rw ws i &&& ~~~mask) != 0

/-- The same of several words: operand words, and the result words that a field fills in part. -/
def resvs (ws : List Word) (ms : List (Nat × Word)) : Bool := ms.any fun m => resv ws m.1 m.2

/-- The exception that a record at `a` meets (05 R153): the whole record must be loadable and storable, outside the MRAM window. -/
def recExc (s : State) (x : Ctx) (a : Word) : Option Exc :=
  let bad (n : Nat) : Option Exc :=
    let ld := (List.range n).any fun i => decide (0x80000000 ≤ byteAt a i) || grant s x (byteAt a i) false != .ok
    let st := (List.range n).any fun i => grant s x (byteAt a i) true != .ok
    if ld then some { code := 4, detail := 0, addr := a } else if st then some { code := 4, detail := 1, addr := a } else none
  if a.toNat % 4 ≠ 0 then some (xAlign a)
  else match bad 4 with
    | some e => some e
    | none =>
      let n := 4 * max 1 (fld 0 1 (dataRead s x a 4))
      match bad n with
      | some e => some e
      | none => loadEcc s x a n

/-- The state once the record's words have been loaded: their corrected errors are counted (04 R109). -/
def recLoaded (s : State) (x : Ctx) (a : Word) : State :=
  countEcc s x (errsIn s x 1 a.toNat (4 * max 1 (fld 0 1 (dataRead s x a 4))))

/-- The words of the record, as long as its header states. -/
def recWords (s : State) (x : Ctx) (a : Word) : List Word :=
  (List.range (max 1 (fld 0 1 (dataRead s x a 4)))).map fun i => w32 (unle (dataRead s x (a + w32 (4 * i)) 4))

/-- Write result words into a record. -/
def putWords (s : State) (x : Ctx) (a : Word) (res : List (Nat × Word)) : State :=
  res.foldl (fun t r => dataWrite t x (a + w32 (4 * r.1)) (le 4 r.2.toNat)) s

/-- Write DONE of a record's header (05 Table 5.6). -/
def putDone (s : State) (x : Ctx) (a : Word) (d : Nat) : State :=
  dataWrite s x a (le 4 (unle (dataRead s x a 4) % 2 ^ 28 + d * 2 ^ 28))

/-- The statuses every operation shares: ABSENT, DENIED, RANGE for NWORDS or a reserved header bit (05 R155, R161). -/
def commonSt (s : State) (x : Ctx) (u : UnitId) (need : Need) (len : Nat) (ws : List Word) : List Nat :=
  onIf (absentUnit s u) stABSENT ++ onIf (!permitted x u need) stDENIED ++
    onIf (bits (rw ws 0) 7 0 != len || bits (rw ws 0) 27 16 != 0) stRANGE

/-- What an operation answers: its state and its result words by index. -/
abbrev Answer := State × List (Nat × Word)

/-- An immediate unit operation (05 R156): `chk` names the statuses that apply, `act` is the effect when none does, `fail` what the unit still notes otherwise (00 R12). -/
def unitIF (s : State) (c : CoreId) (rs : Reg) (u : UnitId) (need : Need) (len : Nat) (chk : Ctx → State → List Word → List Nat)
    (fail : Ctx → State → List Word → Nat → State) (act : Ctx → State → List Word → Answer) : Host.Outcome State Fault Refusal :=
  instrOn s c fun x s =>
    let a := getG s x rs
    match recExc s x a with
    | some e => raise s x e
    | none =>
      let ws := recWords s x a
      let s := recLoaded s x a
      let st := pick (commonSt s x u need len ws ++ chk x s ws)
      if st ≠ 0 then retire (fail x s ws st) x 1 (w32 st)
      else
        let r := act x s ws
        retire (putWords r.1 x a r.2) x 1 0

/-- An immediate operation that leaves everything as it was when it does not complete with OK (00 R12). -/
def unitI (s : State) (c : CoreId) (rs : Reg) (u : UnitId) (need : Need) (len : Nat) (chk : Ctx → State → List Word → List Nat)
    (act : Ctx → State → List Word → Answer) : Host.Outcome State Fault Refusal :=
  unitIF s c rs u need len chk (fun _ s _ _ => s) act

/-- AUX.INJ has a queue of its own, apart from the limit of R157 (13 R370). -/
def ownQueue (u : UnitId) (op : Nat) : Bool := u == .aux && op == 1

/-- Operations of a unit that a world has pending and that count against the limit (05 R157). -/
def pendingOf (s : State) (u : UnitId) (w : World) : Nat := (s.posts.filter fun q => q.unit == u && q.world == w && !ownQueue u q.op).length

/-- What an accepted posted operation does at once: its state, and its outcome and results when they are known already. -/
structure Accepted where
  st : State
  outcome : Option Nat
  results : List (Nat × Word)

/-- An operation whose outcome comes later. -/
def later1 (s : State) : Accepted := { st := s, outcome := none, results := [] }

/-- An operation whose outcome is known at acceptance. -/
def donePost (s : State) (o : Nat) (res : List (Nat × Word)) : Accepted := { st := s, outcome := some o, results := res }

/-- Give the newest posted operation what is known of its outcome. -/
def setLastOutcome (ps : List Posted) (o : Option Nat) (res : List (Nat × Word)) : List Posted :=
  ps.modify (ps.length - 1) fun q =>
    { q with outcome := (match o with | some n => some n | none => q.outcome), results := if res.isEmpty then q.results else res }

/-- A posted unit operation (05 R156, R157): accepted, its record's DONE reads 0xF; it completes with POSTED_OPERATION_COMPLETE. -/
def unitP (s : State) (c : CoreId) (rs : Reg) (u : UnitId) (need : Need) (op len : Nat) (chk : Ctx → State → List Word → List Nat)
    (act : Ctx → State → List Word → Accepted) : Host.Outcome State Fault Refusal :=
  instrOn s c fun x s =>
    let a := getG s x rs
    match recExc s x a with
    | some e => raise s x e
    | none =>
      let ws := recWords s x a
      let s := recLoaded s x a
      let st := pick (commonSt s x u need len ws ++ chk x s ws ++ onIf (8 ≤ pendingOf s u (worldOfCtx x) && !ownQueue u op) stFULL)
      if st ≠ 0 then retire s x 1 (w32 st)
      else
        let p : Posted := { unit := u, world := worldOfCtx x, live := true, addr := a.toNat, op := op, words := ws, outcome := none, results := [] }
        let r := act x { s with posts := s.posts ++ [p] } ws
        let t := { r.st with posts := setLastOutcome r.st.posts r.outcome r.results }
        retire (putDone t x a 0xF) x 1 0

/-- 05 R156, R158: the oldest operation of a unit and a world completes with its outcome. -/
def finishPost (s : State) (u : UnitId) (w : World) : State :=
  match findAt (fun q => q.unit == u && q.world == w) s.posts 0 with
  | none => s
  | some (i, q) =>
    match q.outcome with
    | none => s
    | some o =>
      let t := { s with posts := dropAt s.posts i }
      if !q.live then t
      else
        let x := Ctx.world w
        let a := BitVec.ofNat 32 q.addr
        unitEv (putDone (putWords t x a q.results) x a o) w u

end Sys2Proof.Machine
end

