-- ==== Sys2Proof/Machine/Tmp.lean ====
section
/-! DEFINITION. Tamper detectors, the TMP operations, the blind interval (12). -/

namespace Sys2Proof.Machine

/-- TMP runs on REF from t0 on, through a SLACK freeze (12 R355, R362). -/
def tmpRuns (s : State) : Bool := s.clk.powered && s.clk.t0.isSome

def monLo (x : Monitor) : Nat := bits x.limits 13 0
def monHi (x : Monitor) : Nat := bits x.limits 29 16

/-- A value in the units of LIMITS; monitor 4's is 14-bit two's complement (12 Table 12.1). -/
def monVal (m v : Nat) : Int := if m = 4 then sext 14 v else v

/-- Monitors with LIMITS (12 Table 12.1). -/
def hasLimits (m : Nat) : Bool := m == 0 || m == 4 || m == 7 || m == 8

/-- The reason of an alarm that a detector starts (12 Table 12.7). -/
def detReason (s : State) (m : Nat) (d2 : Bool) (v : Nat) : Nat :=
  let x := mon s m
  if m = 9 then 10
  else if !hasLimits m || (m == 7 && d2) then 3
  else if monVal m v < monVal m (monLo x) then (if m = 7 && !s.clk.tmpChecked then 4 else 1)
  else if monVal m (monHi x) < monVal m v then (if m = 7 && !s.clk.tmpChecked then 4 else 2)
  else 3

/-- A detector's level, with the start of a disagreement (12 R348). -/
def setDet (s : State) (m : Nat) (d2 on : Bool) (v : Nat) : State :=
  modMon s m fun x =>
    let y := if d2 then { x with d2 := on, v2 := v } else { x with d1 := on, v1 := v }
    if y.d1 == y.d2 then { y with disSince := none, dis := false }
    else { y with disSince := (match x.disSince with | some t => some t | none => some s.clk.ref) }

/-- A detector asserts (12 R347 to R351); an alarm that calls for ERASE takes its decision. -/
def detAssert (s : State) (m : Nat) (d2 : Bool) (v reason : Nat) (agree : Bool) : State :=
  let a := evalAlarm (setDet s m d2 true v) m reason
  if a.tmp.eraseWait.isSome && s.tmp.eraseWait.isNone then eraseDecide a agree m else a

/-- DETECTOR_ASSERT (R347): the last of F positive samples, with its value. Monitor 9's D2 needs its notifications. -/
def execDetectorAssert (m : MonitorId) (d2 : Bool) (value : Nat) (agree : Bool) (s : State) : Host.Outcome State Fault Refusal :=
  .next (if !tmpRuns s || (m.val == 9 && d2 && decide (s.tmp.notes.length < monF2 (mon s 9))) then s
    else detAssert s m.val d2 value (detReason s m.val d2 value) agree)

/-- A detector deasserts. -/
def detDeassert (s : State) (m : Nat) (d2 : Bool) : State :=
  let x := mon s m
  evalAlarm (setDet s m d2 false (if d2 then x.v2 else x.v1)) m x.reason

/-- DETECTOR_DEASSERT (R347, R352): the last of F negative samples; D2 of monitor 9 one second after the last notification. -/
def execDetectorDeassert (m : MonitorId) (d2 : Bool) (s : State) : Host.Outcome State Fault Refusal :=
  .next (if !tmpRuns s then s
    else if m.val == 9 && d2 then atRef s ((s.tmp.notes.map fun t => t + 24000000).foldl max s.clk.ref) fun s => detDeassert s m.val d2
    else detDeassert s m.val d2)

/-- DETECTOR_NO_SAMPLE (R347): D1 of monitor 7 or 8 without an AUX sample for 10 ms. -/
def execDetectorNoSample (m : MonitorId) (d2 : Bool) (s : State) : Host.Outcome State Fault Refusal :=
  .next (if tmpRuns s && (m.val == 7 || m.val == 8) && !d2 && !(mon s m.val).d1 then
     atRef s ((mon s m.val).lastSample + 240000) fun s =>
      evalAlarm (setDet s m.val false true (mon s m.val).v1) m.val 5
    else s)

/-- DETECTOR_DISAGREE (R348): one detector asserted for DISW ms without the other. -/
def execDetectorDisagree (m : MonitorId) (d2 : Bool) (s : State) : Host.Outcome State Fault Refusal :=
  let x := mon s m.val
  .next (match x.disSince with
    | some t =>
      if tmpRuns s && m.val != 9 && monEn x && !x.dis && (if d2 then x.d2 else x.d1) then
       atRef s (t + 24000 * monDisw x) fun s =>
        let a := modMon s m.val fun y => { y with dis := true, disagrees := sat 65535 (y.disagrees + 1) }
        unitEv (tmpEntry a 2 m.val (if d2 then 2 else 1) 0 x.d1 x.d2 (x.v1 % 2 ^ 32 + x.v2 % 2 ^ 32 * 2 ^ 32)) .legal .tmp
      else s
    | none => s)

/-- The monitor whose standing alarm calls for ERASE. -/
def eraseMon (s : State) : Option Nat := (List.range 10).find? fun m => (mon s m).st == 1 && (mon s m).resp == 2

/-- ERASE_DECISION_RETRY (R351): every 100 µs while the alarm stands. -/
def execEraseDecisionRetry (agree : Bool) (s : State) : Host.Outcome State Fault Refusal :=
  .next (match s.tmp.eraseWait with
    | some t =>
      if tmpRuns s then
       atRef s t fun s =>
        (match eraseMon s with
        | some m => eraseDecide s agree m
        | none => { s with tmp := { s.tmp with eraseWait := none } })
      else s
    | none => s)

/-- STRANDLINE_HANDOVER_TIMEOUT (R360): the oldest entry not handed over is 1 s old. -/
def execStrandlineHandoverTimeout (s : State) : Host.Outcome State Fault Refusal :=
  .next (match s.tmp.ring.find? fun e => decide (s.tmp.handed ≤ e.eseq) with
    | some e => if alive s then atRef s (e.born + 24000000) tmpHandOne else s
    | none => s)

/-- TMP_STARTUP_CHECK_DONE (R355): the detectors found asserted, each as 2 × monitor + detector with its value. -/
def execTmpStartupCheckDone (asserted : List (Nat × Nat)) (s : State) : Host.Outcome State Fault Refusal :=
  .next (if !tmpRuns s || s.clk.tmpChecked then s
    else
      let a := asserted.foldl (fun t d =>
        if 20 ≤ d.1 then t else detAssert t (d.1 / 2) (d.1 % 2 == 1) d.2 (detReason t (d.1 / 2) (d.1 % 2 == 1) d.2) true) s
      { a with clk := { a.clk with tmpChecked := true } })

/-- The BLIND entry at t0 (R355): RTC at power-down, RTC_LOST, the ERASE marker found. -/
def tmpBlind (s : State) : State :=
  let f := s.bk.found
  let d := (if s.bk.rtcLost then s.bk.rtc else f.pdRtc) % 2 ^ 48 + 2 ^ 48 * b2n s.bk.rtcLost + 2 ^ 49 * b2n (f.lflags.getLsbD 1 && !s.bk.rtcLost)
  tmpEntry s 7 0xFF 0 0 false false d

/-- The reset configuration of a monitor (12 Tables 12.1, 12.3). -/
def resetMon (m : Nat) : Monitor := Tmp.zero.mons.getD m default

/-- A write that weakens a monitor (12 R353). -/
def weakens (m : Nat) (old : Monitor) (cfg lim : Word) : Bool :=
  let new := { old with cfg := cfg, limits := lim }
  (monEn old && !monEn new) || (!monBoth old && monBoth new) || decide (monResp new < monResp old) || decide (monF1 old < monF1 new) ||
    decide (monF2 old < monF2 new) || decide (monDisw old < monDisw new) || decide (monVal m (monLo new) < monVal m (monLo old)) ||
    decide (monVal m (monHi old) < monVal m (monHi new))

/-- The RANGE conditions of TMP.CFG (12 R353, Tables 12.3, 12.9). -/
def cfgRange (ws : List Word) : Bool :=
  let m := bits (rw ws 1) 3 0
  let x := { (default : Monitor) with cfg := rw ws 2, limits := rw ws 4 }
  resv ws 1 0xF || resv ws 2 0xF0FFFFFF || resv ws 3 0xF || resv ws 4 0x3FFF3FFF || rw ws 5 != 0 || decide (9 < m) || monResp x == 3 ||
    monF1 x == 0 || monF2 x == 0 || monDisw x == 0 || (m == 9 && (!monEn x || monBoth x)) || (!hasLimits m && rw ws 4 != 0) ||
    (m != 7 && m != 8 && rw ws 3 != 0) || (hasLimits m && decide (monVal m (monHi x) < monVal m (monLo x)))

/-- The ORDER conditions of TMP.CFG (12 R353). -/
def cfgOrder (s : State) (ws : List Word) : Bool :=
  let m := bits (rw ws 1) 3 0
  let x := mon s m
  if 5 ≤ lcState s then x.cfgDone || weakens m (resetMon m) (rw ws 2) (rw ws 4)
  else weakens m x (rw ws 2) (rw ws 4) && x.cfgDone && !(s.clk.mode == 4 && makerOrRepair s)

/-- A standing alarm takes a stronger response at once and is logged again (12 R354). -/
def realarm (s : State) (m : Nat) : State :=
  let x := mon s m
  let r := monResp x
  let a := modMon s m fun x => { x with resp := r }
  let b := tmpEntry a 1 m x.reason r x.d1 x.d2 (x.v1 % 2 ^ 32 + x.v2 % 2 ^ 32 * 2 ^ 32)
  let c := unitEv (markUpdate b m s.tmp.next) .legal .tmp
  if r = 2 && c.key.scuttle = 0 then { c with tmp := { c.tmp with eraseWait := some c.clk.ref } } else c

/-- The reason of an alarm that a new configuration starts: its asserted detector's, D1 first (log 29). -/
def cfgReason (s : State) (m : Nat) : Nat :=
  let x := mon s m
  if x.d1 then detReason s m false x.v1 else detReason s m true x.v2

/-- TMP.CFG takes effect (12 R353, R354). -/
def cfgApply (s : State) (ws : List Word) : State :=
  let m := bits (rw ws 1) 3 0
  let x := mon s m
  let a := modMon s m fun y => { y with cfg := rw ws 2, limits := rw ws 4, input := (rw ws 3).toNat, cfgDone := true }
  let b := tmpEntry a 5 m 0 0 false false ((x.cfg).toNat + 2 ^ 32 * (rw ws 2).toNat)
  if x.st = 1 && inAlarm (mon b m) then (if x.resp < monResp (mon b m) then realarm b m else b) else evalAlarm b m (cfgReason b m)

/-- TMP.CFG (R353): a first one refused with ORDER in TAMPERED or RETIRED still sets CFG_DONE. -/
def execTmpCfg (c : CoreId) (rs : Reg) (s : State) : Host.Outcome State Fault Refusal :=
  unitIF s c rs .tmp .more 6 (fun _ s ws => onIf (cfgRange ws) stRANGE ++ onIf (cfgOrder s ws) stORDER)
    (fun _ s ws st =>
      if st = stORDER && decide (5 ≤ lcState s) then modMon s (bits (rw ws 1) 3 0) fun y => { y with cfgDone := true } else s)
    fun _ s ws => (cfgApply s ws, [])

/-- 12 Table 12.10. -/
def monStatus (x : Monitor) : Word :=
  w32 (16384 * x.st + 4096 * x.resp + 2048 * b2n x.dis + 1024 * b2n x.d2 + 512 * b2n x.d1 + 256 * b2n x.cfgDone + x.reason)

/-- Words 2 to 7 of TMP.RDST (12 Table 12.9). -/
def tmpStatus (s : State) (m : Nat) : List Word :=
  let x := mon s m
  [monStatus x, x.cfg, x.limits ||| w32 (x.input / 4 * 2 ^ 30 + x.input % 4 * 2 ^ 14), w32 (65536 * x.disagrees + x.alarms), w32 s.tmp.next,
    w32 (65536 * s.tmp.collapsed + 32768 * b2n s.tmp.mark + 16384 * b2n s.tmp.logpress + unsealed s)]

def monRange (ws : List Word) (mask : Word) : Bool := resv ws 1 mask || decide (9 < bits (rw ws 1) 3 0)

/-- TMP.RDST (R364). -/
def execTmpRdst (c : CoreId) (rs : Reg) (s : State) : Host.Outcome State Fault Refusal :=
  unitI s c rs .tmp .read 8 (fun _ _ ws => onIf (monRange ws 0xF || resv ws 7 0xFFFFDFFF) stRANGE) fun _ s ws =>
    (s, (tmpStatus s (bits (rw ws 1) 3 0)).mapIdx fun i v => (2 + i, v))

/-- An entry held in the ring. -/
def ringEntry (s : State) (q : Nat) : Option Strand := s.tmp.ring.find? fun e => e.eseq == q

/-- The entry's TAG verifies (12 R358). -/
def tagOk (s : State) (e : Strand) : Bool :=
  (s.key.ks.getD 3 none).isSome && slice 24 8 e.bytes == strTag s (e.bytes.take 24)

/-- TMP.LOGRD (R364): RANGE unless the entry is held. -/
def execTmpLogrd (c : CoreId) (rs : Reg) (s : State) : Host.Outcome State Fault Refusal :=
  unitI s c rs .tmp .read 11 (fun _ s ws => onIf (resv ws 10 3 || (ringEntry s (rw ws 1).toNat).isNone) stRANGE) fun _ s ws =>
    match ringEntry s (rw ws 1).toNat with
    | none => (s, [])
    | some e =>
      (s, ((List.range 8).map fun i => (2 + i, w32 (fld (4 * i) 4 e.bytes))) ++
        [(10, w32 (2 * b2n (tagOk s e) + b2n (decide (e.eseq < s.tmp.sealedTo))))])

/-- TMP.ACK takes a LATCHED monitor to IDLE (12 R352). -/
def ackApply (s : State) (m role : Nat) : State :=
  let a := modMon s m fun y => { y with st := 0, resp := 0 }
  markUpdate (tmpEntry a 4 m role 0 false false 2) m s.tmp.next

/-- TMP.ACK (R352): ORDER unless LATCHED, and after an ERASE response. -/
def execTmpAck (c : CoreId) (rs : Reg) (s : State) : Host.Outcome State Fault Refusal :=
  unitI s c rs .tmp .more 2
    (fun _ s ws =>
      onIf (monRange ws 0xFF0F || decide (5 < bits (rw ws 1) 15 8)) stRANGE ++
        onIf ((mon s (bits (rw ws 1) 3 0)).st != 2 || (mon s (bits (rw ws 1) 3 0)).resp == 2) stORDER)
    fun _ s ws => (ackApply s (bits (rw ws 1) 3 0) (bits (rw ws 1) 15 8), [])

end Sys2Proof.Machine
end

