-- ==== Sys2Proof/Machine/AuxUnit.lean ====
section
/-! DEFINITION. The auxiliary converter: sequence, injected conversions, calibration, pairs and handovers (13; 09 R271). -/

namespace Sys2Proof.Machine

def modAux (s : State) (f : Auxc → Auxc) : State := { s with aux := f s.aux }
def auxPair (s : State) (n : Nat) : Pair13 := s.aux.pairs.getD n (Pair13.zero n)
def modAuxPair (s : State) (n : Nat) (f : Pair13 → Pair13) : State := modAux s fun a => { a with pairs := a.pairs.modify n f }

/-- AUX runs on REF from t_r on (16 Table 16.5). -/
def auxRuns (s : State) : Bool := s.clk.powered && s.clk.refStable.isSome


/-- AUX_CFG: the operation, the pair and the CRC-32C of the record words from word 1 on (Table 13.5). -/
def auxCfgEvent (s : State) (op pair : Nat) (ws : List Word) : State :=
  event s .aux 0x55 [noInst, w32 op, w32 pair, crc32c (wordsBytes (ws.drop 1))]

/-- Slots of an AUX.SEQ record. -/
def seqSlots (ws : List Word) : List (Nat × Nat) := (List.range (bits (rw ws 1) 4 0)).map fun i => (bits (rw ws (2 + i)) 7 4, bits (rw ws (2 + i)) 3 0)

/-- AUX.SEQ (R368): in force at the end of the turn in progress. -/
def execAuxSeq (c : CoreId) (rs : Reg) (s : State) : Host.Outcome State Fault Refusal :=
  unitI s c rs .aux .more 18
    (fun _ s ws =>
      let n := bits (rw ws 1) 4 0
      onIf (resv ws 1 0xFF1F || n == 0 || decide (16 < n) || ((List.range 16).any fun i => resv ws (2 + i) 0xFF || (decide (n ≤ i) && rw ws (2 + i) != 0)) ||
        (seqSlots ws).any fun p => decide (15 < p.1 + p.2)) stRANGE ++ onIf s.aux.calRun stBUSY)
    fun _ s ws => (modAux s fun a => { a with newSeq := some ws }, [])

/-- A regular conversion is running (R371). -/
def regRuns (s : State) : Bool := s.clk.t0.isSome && s.aux.inj.isEmpty && !s.aux.calRun && decide (s.aux.idleUntil ≤ s.clk.ref)

/-- AUX.INJ (R370, R371). -/
def execAuxInj (c : CoreId) (rs : Reg) (s : State) : Host.Outcome State Fault Refusal :=
  unitP s c rs .aux .more 1 3
    (fun _ s ws =>
      let i := bits (rw ws 1) 3 0
      let near := match s.aux.lastInj.getD i none with | some t => decide (s.clk.ref < t + 480) | none => false
      onIf (resv ws 1 0xF0F) stRANGE ++ onIf near stBUSY ++ onIf (decide (16 ≤ s.aux.inj.length)) stFULL)
    fun _ s ws =>
      let i := bits (rw ws 1) 3 0
      later1 (modAux s fun a =>
        { a with inj := a.inj ++ [(bits (rw ws 1) 11 8, i)], lastInj := a.lastInj.set i (some s.clk.ref)
                 aborts := if regRuns s then sat 65535 (a.aborts + 1) else a.aborts })

/-- COUNT has reached 2³² − 1: the accumulator stands (R375). -/
def accSat (p : Pair13) : Bool := p.count == 0xFFFFFFFF

/-- Clear the accumulator, the tracker. -/
def clearAcc (p : Pair13) : Pair13 := { p with sum := 0, count := 0 }
def clearTrk (p : Pair13) : Pair13 := { p with mn := 16383, mx := 0 }

/-- AUX.ACC (R375, R376). -/
def execAuxAcc (c : CoreId) (rs : Reg) (s : State) : Host.Outcome State Fault Refusal :=
  unitI s c rs .aux .more 5 (fun _ _ ws => onIf (resvs ws [(1, 0x30F), (3, 0xFFFF)]) stRANGE) fun _ s ws =>
    let n := bits (rw ws 1) 3 0
    let p := auxPair s n
    let b := bound s n
    let sm := if b then p.take.1 else p.sum
    let ct := if b then p.take.2.1 else p.count
    (if b then s else modAuxPair s n clearAcc, [(1, w32 (n + 256 * b2n b + 512 * b2n (ct == 0xFFFFFFFF))), (2, w32 sm), (3, w32 (sm >>> 32 % 65536)), (4, w32 ct)])

/-- AUX.TRK (R375, R376). -/
def execAuxTrk (c : CoreId) (rs : Reg) (s : State) : Host.Outcome State Fault Refusal :=
  unitI s c rs .aux .more 4 (fun _ _ ws => onIf (resvs ws [(1, 0x30F), (2, 0x3FFF3FFF)] || rw ws 3 != 0) stRANGE) fun _ s ws =>
    let n := bits (rw ws 1) 3 0
    let p := auxPair s n
    let b := bound s n
    let mn := if b then p.take.2.2.1 else p.mn
    let mx := if b then p.take.2.2.2 else p.mx
    (if b then s else modAuxPair s n clearTrk, [(1, w32 (n + 256 * b2n b + 512 * b2n (decide (mx < mn)))), (2, w32 (mn + 65536 * mx))])

/-- A pair takes a new input, window and qualification, and is cleared (R374). -/
def setWin (s : State) (ws : List Word) : State :=
  let w := rw ws 1
  let n := bits w 3 0
  let a := modAuxPair s n fun p =>
    { Pair13.zero n with
      input := bits w 11 8, wen := w.getLsbD 15, qual := w.getLsbD 14, lo := bits (rw ws 2) 13 0, hi := bits (rw ws 2) 29 16, take := p.take
      takePer := p.takePer }
  auxCfgEvent a 4 n ws

/-- AUX.WIN (R374, R376). -/
def execAuxWin (c : CoreId) (rs : Reg) (s : State) : Host.Outcome State Fault Refusal :=
  unitI s c rs .aux .more 4
    (fun _ _ ws => onIf (resv ws 1 0xCF0F || resv ws 2 0x3FFF3FFF || rw ws 3 != 0 || decide (bits (rw ws 2) 29 16 < bits (rw ws 2) 13 0)) stRANGE)
    fun _ s ws =>
      let n := bits (rw ws 1) 3 0
      (if bound s n then modAuxPair s n fun p => { p with pend := some ws } else setWin s ws, [])

/-- AUX.CAL (R372). -/
def execAuxCal (c : CoreId) (rs : Reg) (s : State) : Host.Outcome State Fault Refusal :=
  unitP s c rs .aux .more 5 2 (fun _ s ws => onIf (resv ws 1 0xFFFF) stRANGE ++ onIf s.aux.calRun stORDER) fun _ s _ => later1 (modAux s fun a => { a with calRun := true })

/-- Words 1 to 3 of AUX.RDST (Table 13.3). -/
def auxStatus (s : State) : List Word :=
  let a := s.aux
  [w32 (unsext 8 (a.calTemp / 100) * 65536 + 32768 * b2n a.calRun + 16384 * b2n (!a.inj.isEmpty) + 256 * a.inj.length + a.seq.length),
    w32 (65536 * a.aborts + sat 65535 a.cals), maskOf ((List.range 16).map (bound s))]

/-- AUX.RDST (R382). -/
def execAuxRdst (c : CoreId) (rs : Reg) (s : State) : Host.Outcome State Fault Refusal :=
  unitI s c rs .aux .laneRead 4 (fun _ _ ws => onIf (resv ws 3 0xFFFF) stRANGE) fun _ s _ => (s, (auxStatus s).mapIdx fun i v => (1 + i, v))

/-! ## Conversions -/

def inWin (p : Pair13) (c : Nat) : Bool := decide (p.lo ≤ c) && decide (c ≤ p.hi)

/-- The accumulator counts a code (R374, R375). -/
def accAdd (p : Pair13) (c : Nat) : Pair13 := if accSat p then p else { p with sum := (p.sum + c) % 2 ^ 48, count := p.count + 1 }

/-- A conversion updates a pair (R374). -/
def pairTake (p : Pair13) (c : Nat) : Pair13 :=
  let t := { p with mn := min p.mn c, mx := max p.mx c, last := (c :: p.last).take 2 }
  if p.qual then
    (match p.last with
    | [b, a] => if inWin p a && inWin p b && inWin p c then accAdd t b else t
    | _ => t)
  else if !p.wen || inWin p c then accAdd t c else t

/-- T of R378 for a record, a sum and a number of conversions. -/
def tempOf (r : Word × Word) (sum n : Nat) : Int :=
  let t : Int := ((16 * sum : Nat) - (bits r.2 18 0 * n : Nat) : Int) * r.1.toInt / (n * 1048576 : Nat)
  max (-32768) (min 32767 t)

/-- The AUX input block and the block header of the lane calibration (R377; 06 R173). -/
def auxRecs (s : State) : List (Word × Word) := (List.range 16).map fun i => (Mem.word s.mram (0x36640 + 16 * i), Mem.word s.mram (0x36640 + 16 * i + 4))
def calGen (s : State) : Nat := (Mem.word s.mram 0x30000).toNat
def calEff (s : State) : Nat := (Mem.word s.mram 0x30004).toNat

/-- AUX rereads its records when GEN changes, for use from EFFBATCH on. -/
def auxReread (s : State) : State :=
  let a := if calGen s = s.aux.gen then s else modAux s fun x => { x with gen := calGen s, pend := some (calEff s, auxRecs s) }
  match a.aux.pend with
  | some (k, rs) => if k ≤ a.aux.batch then modAux a fun x => { x with recs := rs, pend := none } else a
  | none => a

/-- The value of an input at the end of a batch (R378): value and batches without one. -/
def inputVal (r : Word × Word) (x : Nat × Nat × Int × Nat) : Int × Nat :=
  if bits r.2 31 30 ≠ 1 then (-32768, 8)
  else if x.2.1 = 0 then (if 7 ≤ x.2.2.2 then (-32768, 8) else (x.2.2.1, x.2.2.2 + 1))
  else (tempOf r x.1 x.2.1, 0)

/-- The values of the batch that ends are handed to CHN (R378). -/
def auxHand (s : State) : State :=
  let a := auxReread s
  let x := a.aux
  let vs := List.zipWith inputVal x.recs x.ins
  let d := if x.dieN = 0 then x.die else x.dieSum / x.dieN
  modAux a fun y =>
    { y with temps := ((y.batch, d :: vs.map (·.1)) :: y.temps).take 512, ins := vs.map fun v => (0, 0, v.1, v.2)
             die := d, dieSum := 0, dieN := 0, batch := y.batch + 1 }

def auxRollN : Nat → State → State
  | 0, s => s
  | n + 1, s => if s.aux.batch < now s / 8192 then auxRollN n (auxHand s) else s

/-- Every batch that has ended is handed over. -/
def auxRoll (s : State) : State := auxRollN (now s / 8192 - s.aux.batch) s

/-- Regular samples to D1 of monitors 7 and 8 (R379; 12 R346, R347). -/
def auxMon (s : State) (m input c : Nat) : State :=
  let x := mon s m
  if x.input ≠ input then s
  else
    let pos := decide (monVal m c < monVal m (monLo x)) || decide (monVal m (monHi x) < monVal m c)
    let y := { x with n1 := if pos then x.n1 + 1 else 0, n2 := if pos then 0 else x.n2 + 1, lastSample := s.clk.ref, v1 := c }
    let a := modMon s m fun _ => y
    if pos && !x.d1 && decide (monF1 x ≤ y.n1) then evalAlarm (setDet a m false true c) m (detReason a m false c)
    else if !pos && x.d1 && decide (monF1 x ≤ y.n2) then detDeassert a m false
    else a

/-- The batch sums take a conversion of an input; none while MOD is frozen. -/
def batchAdd (s : State) (i c : Nat) : State :=
  if frozen s || s.clk.t0.isNone then s else modAux (auxRoll s) fun a => { a with ins := a.ins.modify i fun x => (x.1 + c, x.2.1 + 1, x.2.2.1, x.2.2.2) }

/-- An injected conversion ends (R370, R374, R376). -/
def injDone (s : State) (pr input c : Nat) : State :=
  let b := bound s pr
  let a := batchAdd (modAux s fun a => { a with inj := a.inj.drop 1 }) input c
  let d := if b then a else modAuxPair a pr fun p => pairTake p c
  settle d (fun q => q.unit == .aux && q.op == 1) 0 [(2, w32 (now s % 2 ^ 31 + 2 ^ 31 * b2n b))]

/-- A turn ends: the pause, and a new sequence (R368). -/
def turnEnd (s : State) : State :=
  let a := modAux s fun a => { a with slot := 0, turn := a.turn + 1, idleUntil := s.clk.ref + 24 * a.pause }
  match a.aux.newSeq with
  | some ws => auxCfgEvent (modAux a fun x => { x with seq := seqSlots ws, pause := bits (rw ws 1) 15 8, turn := 0, newSeq := none }) 0 0xFF ws
  | none => a

/-- A regular conversion ends (R368, R374, R379). -/
def regDone (s : State) (c : Nat) : State :=
  let a := s.aux
  let sl := a.seq.getD a.slot (0, 0)
  let i := sl.2 + a.turn % (sl.1 + 1)
  let b := batchAdd s i c
  let d := modAux b fun x => { x with pairs := x.pairs.map fun p => if p.input = i then pairTake p c else p, slot := x.slot + 1 }
  let e := auxMon (auxMon d 7 i c) 8 i c
  if a.seq.length ≤ a.slot + 1 then turnEnd e else e

/-- AUX_CONVERSION_DONE (R370, R371, R374): the injected conversion in front, otherwise the slot's; none while a calibration runs. -/
def execAuxConversionDone (code : Nat) (s : State) : Host.Outcome State Fault Refusal :=
  .next (
    let c := code % 16384
    if !auxRuns s then s
    else match s.aux.inj with
      | (p, i) :: _ => injDone s p i c
      | [] => if s.clk.t0.isSome && !s.aux.calRun then atRef s s.aux.idleUntil fun s => regDone s c else s)

/-- AUX_DIE_CONVERSION (R369): scheduled every 6144 REF cycles from t0. -/
def execAuxDieConversion (code : Nat) (s : State) : Host.Outcome State Fault Refusal :=
  .next (match s.clk.t0 with
    | some t =>
      if auxRuns s then
        atRef s (t + 6144 * s.aux.nextDie) fun s =>
          let v := Config.dieTemp (code % 16384)
          let a := modAux s fun a => { a with nextDie := a.nextDie + 1 }
          if frozen s then a else modAux (auxRoll a) fun a => { a with dieSum := a.dieSum + v, dieN := a.dieN + 1 }
      else s
    | none => s)

/-- The die temperature now, 0.01 °C: the mean so far of the batch, else the last batch's. -/
def dieNow (s : State) : Int := if s.aux.dieN = 0 then s.aux.die else s.aux.dieSum / s.aux.dieN

/-- AUX_CAL_DUE (R372): the die temperature differs by 8 °C or more from that of the last calibration. -/
def execAuxCalDue (s : State) : Host.Outcome State Fault Refusal :=
  .next (if auxRuns s && s.clk.t0.isSome && !s.aux.calRun && decide (800 ≤ (dieNow s - s.aux.calTemp).natAbs) then
      modAux s fun a => { a with calRun := true }
    else s)

/-- AUX_CAL_RANGE with the step and the die temperature (Table 13.5). -/
def calRange (s : State) (step : Nat) : State := event s .aux 0x54 [noInst, w32 step, i32 (dieNow s)]

/-- AUX_CALIBRATION_DONE (R373): `gain` says that step 1, not step 0, was out of range. -/
def execAuxCalibrationDone (inRange gain : Bool) (s : State) : Host.Outcome State Fault Refusal :=
  .next (if auxRuns s && s.aux.calRun then
      let a := modAux s fun a => { a with calRun := false, calTemp := dieNow s, cals := sat 65535 (a.cals + 1) }
      let b := if inRange then a else if s.clk.t0.isSome then calRange a (b2n gain) else modAux a fun x => { x with rangeAt := some (b2n gain) }
      settle b (fun q => q.unit == .aux && q.op == 5) 0 [(1, w32 a.aux.cals)]
    else s)

/-- AUX_BATCH_HANDOVER (R378): at the end of the batch in progress, and of every batch before it that has ended. -/
def execAuxBatchHandover (s : State) : Host.Outcome State Fault Refusal :=
  .next (if alive s then atTick s (8192 * (s.aux.batch + 1)) auxRoll else s)

/-! ## Control pilot -/

/-- Vp in units of 15/8192 V over `n` (R380), and the minimum's code. -/
def pilotClass (sum count mn mx : Nat) : Nat :=
  if mx < mn && count = 0 then 7
  else
    let n : Int := if 2 ≤ count then count else 1
    let v : Int := (if 2 ≤ count then (sum : Int) else mx) - 8192 * n
    let ge (half : Int) : Bool := decide (half * 8192 * n ≤ 2 * 15 * v)
    let low := decide (2 * 15 * ((mn : Int) - 8192) ≤ -21 * 8192)
    if ge 21 then 1 else if ge 15 then 2 else if ge 9 then 3 else if ge 3 then 4
    else if low then 6 else if decide (-3 * 8192 * n < 2 * 15 * v) then 5 else 7

/-- A classification: event and open (R271, R285; 17 Table 17.4). -/
def pilotSet (s : State) (r cls : Nat) : State :=
  let x := rel s r
  let good := cls == 3 || cls == 4
  let a := modRel s r fun y => { y with pilot := cls, pilotBad := if good then 0 else y.pilotBad + 1 }
  let b := if cls = x.pilot then a else unitEv (hostEventAt a 4 r cls x.pilot (now s - 4000)) .legal .rly
  if !good && decide (2 ≤ x.pilotBad + 1) && decide (1 ≤ x.st) && decide (x.st ≤ 4) then startOpen b r 3 false else b

/-- A bound pair is taken and cleared once in a pilot period, at its end: relays that name one pair share the take (R376, R380). -/
def takePair (s : State) (n k : Nat) : State :=
  let p := auxPair s n
  if p.takePer = k then s
  else
    let a := modAuxPair s n fun p => clearTrk (clearAcc { p with take := (p.sum, p.count, p.mn, p.mx), takePer := k, pend := none })
    match p.pend with | some ws => setWin a ws | none => a

/-- PILOT_PERIOD_END (R380): RLY takes the bound pair every 24,000 REF cycles from t0. -/
def execPilotPeriodEnd (r : RelayId) (s : State) : Host.Outcome State Fault Refusal :=
  .next (match s.clk.t0 with
    | some t =>
      if alive s && (rel s r.val).pilotEn then
       atRef s (t + 24000 * ((rel s r.val).pilotPer + 1)) fun s =>
        let x := rel s r.val
        let k := (s.clk.ref - t) / 24000
        let a := takePair s x.pilotAcc k
        let v := (auxPair a x.pilotAcc).take
        let c := modRel a r.val fun y => { y with pilotPer := k, pilotSkip := false }
        if x.pilotSkip then c else pilotSet c r.val (pilotClass v.1 v.2.1 v.2.2.1 v.2.2.2)
      else s
    | none => s)

end Sys2Proof.Machine
end

