-- ==== Sys2Proof/Machine/BilUnit.lean ====
section
/-! DEFINITION. The BIL operations and the steps of the billing engine (06 R166, R167; 08; 09 R264 to R267). -/

namespace Sys2Proof.Machine

/-- MP of a BIL record. -/
def mpOf (ws : List Word) : Nat := bits (rw ws 1) 4 0

/-- A MP field naming an undefined point completes with RANGE (R262). -/
def mpRange (s : State) (ws : List Word) : List Nat := onIf (!mpDefined s (mpOf ws)) stRANGE

/-- Byte `i` of a definition word; 0xFF is unused. -/
def chanByte (w : Word) (i : Nat) : Nat := bits w (8 * i + 7) (8 * i)
def usedCh (n : Nat) : Bool := n != 0xFF

def sensorOf (s : State) (n : Nat) : Nat := bits (chan s n).input 5 3

/-- The used channels match the kind (R167); words 1, 2 and 3 of the definition. -/
def kindOk (w1 w2 w3 : Word) : Bool :=
  let ph := bits w1 11 10
  let vs := (List.range 3).map fun i => usedCh (chanByte w2 i)
  let is := (List.range 3).map fun i => usedCh (chanByte w3 i)
  let neutral := usedCh (chanByte w3 3)
  let first (n : Nat) : List Bool := (List.range 3).map fun i => decide (i < n)
  if bits w1 9 8 = 2 then ph == 1 && vs == first 1 && is == first 1 && !neutral && !w1.getLsbD 12
  else if w1.getLsbD 16 then ph == 3 && vs == first 2 && is == first 2 && !w1.getLsbD 12 && !neutral
  else ph != 0 && vs == first ph && is == first ph && neutral == w1.getLsbD 12

/-- R167, for a record that defines a point. -/
def defOk (s : State) (ws : List Word) : Bool :=
  let w1 := rw ws 1
  let w2 := rw ws 2
  let w3 := rw ws 3
  let vch := ((List.range 4).map (chanByte w2)).filter usedCh
  let ich := ((List.range 4).map (chanByte w3)).filter usedCh
  let others := (List.range 32).filter fun m => m != mpOf ws && mpDefined s m
  let von := bits (rw ws 5) 7 0
  let voff := bits (rw ws 5) 15 8
  decide (bits w1 9 8 ≤ 2) && (vch ++ ich).all (fun n => decide (n ≤ 127)) && kindOk w1 w2 w3 &&
  bits w1 15 14 != 3 && usedCh (chanByte w2 (bits w1 15 14)) &&
  (others.all fun m => ich.all fun n => !(((List.range 4).map (chanByte (defWord s m 3))).contains n)) &&
  vch.all (fun n => sensorOf s n == 0) && ich.all (fun n => sensorOf s n != 0) &&
  (bits w1 9 8 != 2 || ich.all fun n => sensorOf s n != 3) &&
  decide (von ≤ 100) && decide (voff ≤ 100) && (!usedCh (chanByte w2 3) || decide (voff < von)) && bits (rw ws 4) 15 0 != 0

/-- A point that comes into being: its boundaries begin now (R256). -/
def newPoint (s : State) (mp : Nat) : State :=
  let t := btNow s
  let b := s.bil.bank
  modBp s mp fun x =>
    { x with bT := t, tariff := tariffAt b t, snapDay := localDay b t, old := false, steps := [], preStep := [], prog := none
             dems := x.dems.map fun d => { d with start := t, seg := t, ran := 0, acc := 0, subs := [], short := true, flags := 0 } }

/-- BIL.MPCFG (06 R166, R167, R499): KIND = 0 deletes the point (log 19). -/
def execBilMpcfg (c : CoreId) (rs : Reg) (s : State) : Host.Outcome State Fault Refusal :=
  unitI s c rs .bil .more 12
    (fun _ s ws =>
      let del := bits (rw ws 1) 9 8 == 0
      onIf (resv ws 1 0x1FF1F || resv ws 5 0xFFFF || (List.range 6).any (fun i => rw ws (6 + i) != 0) || (!del && !defOk s ws)) stRANGE ++
        onIf (s.clk.mode != 4) stORDER)
    fun _ s ws =>
      let mp := mpOf ws
      let del := bits (rw ws 1) 9 8 == 0
      let d := if del then [0, 0xFFFFFFFF, 0xFFFFFFFF, 0, 0] else (List.range 5).map fun i => rw ws (1 + i)
      let a := markPoint { s with defs := s.defs.set mp d, defCount := s.defCount.modify mp (· + 1) } mp
      (handSnaps (if !del && !mpDefined s mp then newPoint a mp else a), [])

/-- A 64-bit number as two words. -/
def two64 (n : Nat) : List Word := two n

/-- Words 2 to 19 of BIL.RDREG (Table 8.10). -/
def regWords (s : State) (mp set basis eng : Nat) : List Word :=
  let x := bp s mp
  let r := if set ≤ 6 then (List.range 9).flatMap fun i => two64 (regVal x set basis i)
    else if set = 7 then
      let p := (x.dems.getD eng Demand.zero).peaks
      p.map (fun a => w32 a.1) ++ p.map (fun a => w32 a.2)
    else if set = 8 then
      (match x.sess with
      | some z => two64 z.oBt ++ two64 (z.energy / 256) ++ two64 (z.pd / 256) ++ two64 (sessCost z) ++
          [w32 (z.chg / 4000000), w32 (z.idle / 4000000), z.id, w32 z.flags]
      | none => [])
    else two64 x.applied ++ [w32 x.single, w32 x.disagree, w32 x.dup, w32 x.late, w32 x.jumps, w32 x.tariff] ++ two64 (x.pdM / 256) ++ two64 (x.pdC / 256)
  (List.range 18).map fun i => r.getD i 0

/-- BIL.RDREG (R262). -/
def execBilRdreg (c : CoreId) (rs : Reg) (s : State) : Host.Outcome State Fault Refusal :=
  unitI s c rs .bil .read 20 (fun _ s ws => onIf (resv ws 1 0x1F9F || decide (10 ≤ bits (rw ws 1) 11 8)) stRANGE ++ mpRange s ws) fun _ s ws =>
    let w := rw ws 1
    (s, (regWords s (mpOf ws) (bits w 11 8) (bits w 12 12) (bits w 7 7)).mapIdx fun i v => (2 + i, v))

/-- A session is opened: ORDER if one is open (R253). -/
def sessOpen (s : State) (w : World) (ws : List Word) : Accepted :=
  if (bp s (mpOf ws)).sess.isSome then donePost s stORDER []
  else donePost (bpCommit (openSess s (mpOf ws) (rw ws 2) w) (mpOf ws)) 0 [(3, w32 (btNow s)), (4, w32 (btNow s >>> 32))]

/-- A close is accepted at C; an energised coil starts its open (R253, 09 R277). -/
def sessClose (s : State) (ws : List Word) : Accepted :=
  let mp := mpOf ws
  match (bp s mp).sess with
  | some z =>
    if z.id != rw ws 2 || z.c.isSome then donePost s stORDER []
    else
      let a := bpCommit (modBp s mp fun x => { x with sess := some { z with c := some (now s, btNow s) } }) mp
      later1 (if coilOn (rel a mp) then startOpen a mp 4 false else a)
  | none => donePost s stORDER []

/-- BIL.SESS (R253). -/
def sessOp (s : State) (c : CoreId) (rs : Reg) : Host.Outcome State Fault Refusal :=
  unitP s c rs .bil .more 2 8 (fun _ s ws => onIf (resv ws 1 0x11F || rw ws 7 != 0) stRANGE ++ mpRange s ws) fun x s ws =>
    if (rw ws 1).getLsbD 8 then sessClose s ws else sessOpen s (worldOfCtx x) ws

def execBilSessOpen (c : CoreId) (rs : Reg) (s : State) : Host.Outcome State Fault Refusal := sessOp s c rs

def execBilSessClose (c : CoreId) (rs : Reg) (s : State) : Host.Outcome State Fault Refusal := sessOp s c rs

/-- BIL.TARW (R247). -/
def execBilTarw (c : CoreId) (rs : Reg) (s : State) : Host.Outcome State Fault Refusal :=
  unitP s c rs .bil .more 3 20
    (fun _ s ws => onIf (resv ws 1 0x3F || decide (34 ≤ bits (rw ws 1) 5 0) || rw ws 19 != 0) stRANGE ++ onIf s.bil.swap.isSome stBUSY) fun _ s ws =>
    let blk := wordsBytes ((List.range 16).map fun i => rw ws (2 + i))
    donePost { s with bil := { s.bil with shadow := s.bil.shadow.set (bits (rw ws 1) 5 0) (some blk), sgen := s.bil.sgen + 1 } } 0 [(18, s.bil.sgen + 1)]

/-- The first minute boundary strictly after now (R247, R248). -/
def nextMinute (s : State) : Nat := (btNow s / 60000000 + 1) * 60000000

/-- BIL.TSWAP (R247; log 19 for the instant of its completion). -/
def execBilTswap (c : CoreId) (rs : Reg) (s : State) : Host.Outcome State Fault Refusal :=
  unitP s c rs .bil .more 4 3
    (fun _ s ws => onIf s.bil.swap.isSome stBUSY ++ onIf (!shadowComplete s) stORDER ++ onIf (rw ws 1 != s.bil.sgen) stSTALE) fun _ s _ =>
    donePost { s with bil := { s.bil with swap := some (nextMinute s) } } 0 [(2, w32 (nextMinute s / 1000000))]

/-- A field of the credit state by WHICH (Table 9.2), as 64 bits. -/
def creditField (x : BPoint) (k : Nat) : Nat :=
  match k with
  | 0 => unsext 64 x.credit
  | 1 => unsext 64 x.warn
  | 2 => unsext 64 x.reduce
  | 3 => unsext 64 x.exhaust
  | 4 => unsext 64 x.reserve
  | _ => b2n x.prepay

/-- A threshold or PREPAY is set. -/
def setCredit (x : BPoint) (k : Nat) (v : Int) (bit : Bool) : BPoint :=
  match k with
  | 1 => { x with warn := v }
  | 2 => { x with reduce := v }
  | 3 => { x with exhaust := v }
  | 4 => { x with reserve := v }
  | 5 => { x with prepay := bit }
  | _ => x

def creditWhich (ws : List Word) : Nat := bits (rw ws 1) 14 12
def creditOpc (ws : List Word) : Nat := bits (rw ws 1) 9 8
def creditVal (ws : List Word) : Int := sext 64 ((rw ws 3).toNat + 2 ^ 32 * (rw ws 4).toNat)

/-- Thresholds in order: WARN ≥ REDUCE ≥ EXHAUST and RESERVE ≥ EXHAUST (R266). -/
def creditOrder (x : BPoint) : Bool := decide (x.reduce ≤ x.warn) && decide (x.exhaust ≤ x.reduce) && decide (x.exhaust ≤ x.reserve)

/-- The statuses of R266. -/
def creditChk (x : Ctx) (s : State) (ws : List Word) : List Nat :=
  let o := creditOpc ws
  let k := creditWhich ws
  let p := bp s (mpOf ws)
  onIf (x == .world .opn && o != 2) stDENIED ++
  onIf (resv ws 1 0x731F || o == 3 || decide (6 ≤ k) || (o == 0 && k != 0) || (o == 1 && k == 0) ||
    (o == 1 && decide (k ≤ 4) && !creditOrder (setCredit p k (creditVal ws) false))) stRANGE ++ mpRange s ws ++
  onIf (decide (o ≤ 1) && rw ws 2 != p.crgen) stSTALE ++ onIf (o == 1 && k == 5 && p.sess.isSome) stORDER

/-- The effect of BIL.CREDIT (R266, R267). -/
def creditAct (s : State) (ws : List Word) : State :=
  let mp := mpOf ws
  let g := bpCommit (modBp s mp fun x => { x with crgen := x.crgen + 1 }) mp
  match creditOpc ws with
  | 0 => addCredit g mp (creditVal ws) false
  | 1 => setLevel (modBp g mp fun x => setCredit x (creditWhich ws) (creditVal ws) ((rw ws 3).getLsbD 0)) mp false
  | _ => s

/-- BIL.CREDIT (R266). -/
def creditOp (s : State) (c : CoreId) (rs : Reg) : Host.Outcome State Fault Refusal :=
  unitP s c rs .bil .read 5 6 creditChk fun _ s ws =>
    let a := creditAct s ws
    let v := creditField (bp a (mpOf ws)) (creditWhich ws)
    donePost a 0 [(3, w32 v), (4, w32 (v >>> 32)), (5, (bp a (mpOf ws)).crgen)]

def execBilCreditAdd (c : CoreId) (rs : Reg) (s : State) : Host.Outcome State Fault Refusal := creditOp s c rs

def execBilCreditSet (c : CoreId) (rs : Reg) (s : State) : Host.Outcome State Fault Refusal := creditOp s c rs

def execBilCreditRead (c : CoreId) (rs : Reg) (s : State) : Host.Outcome State Fault Refusal := creditOp s c rs

/-- BIL.DEMCFG (R248). -/
def execBilDemcfg (c : CoreId) (rs : Reg) (s : State) : Host.Outcome State Fault Refusal :=
  unitP s c rs .bil .more 6 5
    (fun _ s ws =>
      let w := rw ws 1
      onIf (resv ws 1 0x81FF731F || rw ws 3 != 0 || rw ws 4 != 0 || decide (7 ≤ dQty w) || decide (6 ≤ bits w 14 12) || dN w == 0 ||
        dL w % max 1 (dN w) != 0 || (!w.getLsbD 9 && dN w != 1)) stRANGE ++ mpRange s ws ++ onIf (s.clk.mode != 4) stORDER)
    fun _ s ws =>
      let w := rw ws 1
      donePost (bpCommit (modBp s (mpOf ws) fun x => { x with dems := x.dems.modify (bits w 8 8) fun d => { d with pend := some (nextMinute s, w) } }) (mpOf ws)) 0
        [(2, w32 (nextMinute s / 1000000))]

/-- Words 1 to 5 of BIL.RDST. -/
def bilStatus (s : State) : List Word :=
  [w32 (bankId s.bil.bank), s.bil.sgen,
    w32 (4 * b2n s.bil.swap.isSome + 2 * b2n (shadowComplete s) + b2n (s.bil.pts.any fun x => x.held.isSome)),
    maskOf (s.bil.pts.map fun x => x.sess.isSome), 0]

/-- BIL.RDST (R262). -/
def execBilRdst (c : CoreId) (rs : Reg) (s : State) : Host.Outcome State Fault Refusal :=
  unitI s c rs .bil .read 6 (fun _ _ ws => onIf (resv ws 3 7 || rw ws 5 != 0) stRANGE) fun _ s _ => (s, ((bilStatus s).take 4).mapIdx fun i v => (1 + i, v))

/-- BIL_FRAME_APPLY (R239, R240, R243): the oldest frame whose point is not held, saved frames first, when it is the named point's. -/
def execBilFrameApply (mp : PointId) (agree1 agree2 : Bool) (s : State) : Host.Outcome State Fault Refusal :=
  .next (if !alive s then s
    else if !s.bil.saved.isEmpty then
      (match findAt (fun c : Saved => (bp s (frMp c.frame)).held.isNone) s.bil.saved 0 with
      | some (i, c) => if frMp c.frame = mp.val then offerFrame { s with bil := { s.bil with saved := dropAt s.bil.saved i } } c agree1 agree2 false else s
      | none => s)
    else match findAt (fun f : Bytes × Nat => (bp s (frMp f.1)).held.isNone) s.pair.bilIn 0 with
      | some (i, f) =>
        if frMp f.1 = mp.val then
          offerFrame { s with pair := { s.pair with bilIn := dropAt s.pair.bilIn i } } (place s f.1 f.2) agree1 agree2 false
        else s
      | none => s)

/-- BIL_HOLD_RETRY (R240): every 100 µs. -/
def execBilHoldRetry (mp : PointId) (agree1 agree2 : Bool) (s : State) : Host.Outcome State Fault Refusal :=
  .next (match (bp s mp.val).held with
    | some c => if alive s then atTick s (bp s mp.val).retryAt fun s => offerFrame s c agree1 agree2 true else s
    | none => s)

/-- MINUTE_BOUNDARY (R245, R247, R261): billing time enters another minute; with no point defined a pending swap takes effect here. -/
def execMinuteBoundary (s : State) : Host.Outcome State Fault Refusal :=
  .next (if !alive s then s
    else
      let u := if btNow s / 60000000 * 60000000 != s.bil.minute then now s else btTick s (s.bil.minute + 60000000)
      atTick s u fun s =>
      let m := btNow s / 60000000 * 60000000
      let a := bilCommit { s with bil := { s.bil with minute := m, hw := max s.bil.hw (btNow s) } }
      if (bilPts a).isEmpty then
        let b := swapBank a m false
        { b with bil := { b.bil with pts := b.bil.pts.map fun x => { x with old := false } } }
      else a)

/-- The next instant at which the 100 ms rule makes something of the point due: a step, a close, a boundary (R256, R260). -/
def timeoutAt (s : State) (mp : Nat) : Option Nat :=
  let x := bp s mp
  let t := nextBoundary s mp
  let a := match x.steps with | (m, _, _) :: _ => [m + 400000] | [] => []
  let b := match x.sess with | some z => (match z.c with | some (cm, _) => [cm + 400000] | none => []) | none => []
  let c := if !mpDefined s mp then [] else match x.steps with
    | (m, f, _) :: _ => if t ≤ f then [m + 4 * (t + 100000 - f)] else []
    | [] => [btTick s (t + 100000)]
  (a ++ b ++ c).min?

/-- BOUNDARY_TIMEOUT (R256, R260): everything of the point that the 100 ms rule makes due. -/
def execBoundaryTimeout (mp : PointId) (s : State) : Host.Outcome State Fault Refusal :=
  .next (if !alive s || (bp s mp.val).due.isSome then s
    else match timeoutAt s mp.val with
      | some m => atTick s m fun s => settlePt s mp.val .timeout false
      | none => s)

end Sys2Proof.Machine
end

