-- ==== Sys2Proof/Machine/Trig.lean ====
section
/-! DEFINITION. Rounding, square roots, cosines and decibels in integer arithmetic, for the reference program and the detector (06 R165; 03 R94; log 32). -/

namespace Sys2Proof.Machine

/-- A quotient with the program's rounding: exact when whole, otherwise its floor or one more (log 32). -/
def rnd (num : Int) (den : Nat) : Int := num / den + (if num % den ≠ 0 ∧ Config.roundUp num den then 1 else 0)

/-- Floor of the square root, from `k` bits. -/
def isqrtGo (n : Nat) : Nat → Nat → Nat
  | 0, r => r
  | k + 1, r => if (r + 2 ^ k) ^ 2 ≤ n then isqrtGo n k (r + 2 ^ k) else isqrtGo n k r

def isqrt (n : Nat) : Nat := isqrtGo n 320 0

/-- The square root of a fraction with the program's rounding. -/
def rootRnd (num den : Nat) : Int :=
  let q := isqrt (num / den)
  if q * q * den = num then q else q + (if Config.roundUp num den then 1 else 0)

/-- The scale of a fixed-point cosine. -/
def unit : Int := 2 ^ 64

/-- π/2 in units of 2⁻⁶⁴. -/
def halfPi : Int := 28976077832308491369

/-- Sum of the alternating series from its first term: each term is the last one times −x² / ((2k + o)(2k + o + 1)), `x2` the square of the angle. -/
def series (x2 : Int) (o : Nat) (t : Int) : Int :=
  ((List.range 14).foldl (fun (a : Int × Int) k => let n := -(a.1 * x2 / (unit * ((2 * k + o : Nat) * (2 * k + o + 1 : Nat)))); (n, a.2 + n)) (t, t)).2

/-- The cosine of `num`/`den` of a turn, in units of 2⁻⁶⁴ (log 32 for its precision). -/
def turnCos (num : Int) (den : Nat) : Int :=
  let r := 4 * (num % den)
  let x := halfPi * (r % den) / den
  let x2 := x * x / unit
  match (r / den).toNat with
  | 0 => series x2 1 unit
  | 1 => -series x2 2 x
  | 2 => -series x2 1 unit
  | _ => series x2 2 x

/-- The sine: the cosine a quarter turn earlier. -/
def turnSin (num : Int) (den : Nat) : Int := turnCos (4 * num - den) (4 * den)

/-- Complex numbers as pairs. -/
abbrev Cx := Int × Int

def cxAdd (a b : Cx) : Cx := (a.1 + b.1, a.2 + b.2)
def cxMul (a b : Cx) : Cx := (a.1 * b.1 - a.2 * b.2, a.1 * b.2 + a.2 * b.1)
def cxConj (a : Cx) : Cx := (a.1, -a.2)
def cxScale (k : Int) (a : Cx) : Cx := (k * a.1, k * a.2)
def cxDiv (a : Cx) (d : Int) : Cx := (a.1 / d, a.2 / d)
def cxSq (a : Cx) : Nat := (a.1 * a.1 + a.2 * a.2).toNat

/-- exp(−2πi · `num`/`den`), in units of 2⁻⁶⁴. -/
def turnBack (num : Int) (den : Nat) : Cx := (turnCos num den, -turnSin num den)

/-- Values weighted at angles given as numerators over `den` of a turn: their DFT sum, in units of 2⁻⁶⁴ of the weight. -/
def dftSum (den : Nat) (xs : List (Int × Int × Int)) : Cx :=
  xs.foldl (fun a x => cxAdd a (cxScale (x.1 * x.2.1) (turnBack x.2.2 den))) (0, 0)

/-- The 2000th power. -/
def pow2000 (n : Nat) : Nat := ((n ^ 20) ^ 10) ^ 10

/-- A power of ten, by bytes of the exponent. -/
def pow10 (e : Nat) : Nat := (10 ^ (e / 256)) ^ 256 * 10 ^ (e % 256)

/-- The nearest whole number to 1000 log₁₀(num/den), from `lo` over `k` bits: the greatest n with 10^(2n − 1) ≤ (num/den)^2000. -/
def logGo (num den : Nat) : Nat → Int → Int
  | 0, lo => lo
  | k + 1, lo =>
    let n := lo + 2 ^ k
    let e := 2 * n - 1
    let ok := if 0 ≤ e then decide (pow10 e.toNat * pow2000 den ≤ pow2000 num) else decide (pow2000 den ≤ pow2000 num * pow10 (-e).toNat)
    logGo num den k (if ok then n else lo)

/-- 0x8000 + round(1000 log₁₀(num/den)), 0 below the range and saturating at 0xFFFF (06 Table 6.10, where Y²/Y_FS² = num/den). -/
def levelCode (num den : Nat) : Nat := if num = 0 then 0 else (logGo num den 16 (-32768) + 32768).toNat

end Sys2Proof.Machine
end

