-- ==== Sys2Proof/Machine/ChnUnit.lean ====
section
/-! DEFINITION. The CHN operations, the chains' outputs and detector blocks, CAP.READ (02, 03; 05 R162, R163). -/

namespace Sys2Proof.Machine

/-- CHANNEL of a CHN record (05 R163). -/
def chOf (ws : List Word) : Nat := bits (rw ws 1) 6 0

/-- Reserved bits of word 1, outside `mask`. -/
def chRange (ws : List Word) (mask : Word) : List Nat := onIf (resv ws 1 mask) stRANGE

/-- The chain is stopped: neither running nor waiting for relock (03 R82). -/
def chainStopped (c : Ch) : Bool := c.chain.st == 0 && c.chain.again != 1

/-- CHN.CFGIN (R42). -/
def execChnCfgin (c : CoreId) (rs : Reg) (s : State) : Host.Outcome State Fault Refusal :=
  unitI s c rs .chn .more 3
    (fun _ s ws =>
      let v := rw ws 2
      let n := chOf ws
      chRange ws 0x7F ++
      onIf (resv ws 2 0xFBF || decide (5 < bits v 2 0) || decide (3 < bits v 5 3) || (isAin n && bits v 10 8 != 0) || (!isAin n && bits v 2 0 != 0)) stRANGE ++
      onIf (!chainStopped (chan s n)) stORDER)
    fun _ s ws =>
      (modCh s (chOf ws) fun x =>
        { x with input := rw ws 2, fast := if x.input = rw ws 2 then x.fast else startFast (nextEdge s) 0, zc := if x.input = rw ws 2 then x.zc else [] }, [])

/-- A shift of a stage that the preset lacks (R78). -/
def shiftBad (v : Word) : Bool :=
  let p := bits v 29 28
  (p == 0 && bits v 27 16 != 0) || (p == 1 && bits v 27 20 != 0)

def surgeCount (s : State) : Nat := (s.chs.filter chSurge).length

/-- A change of SURGE: attach with cause 5, or end at the next block boundary with cause 4; a path that is still to end there starts again after it (R87, R91). -/
def cfgSurge (s : State) (n : Nat) (old : Bool) : State :=
  let c := chan s n
  if chSurge c == old || c.su.ending.isSome then s
  else if chSurge c then startSurge s n 5 (nextEdge s)
  else if c.su.st = 0 then modCh s n fun x => { x with su := idlePath x.su 0 }
  else if c.sus.blk.isEmpty then endPath s n true 4 0
  else modCh s n fun x => { x with su := { x.su with ending := some 4 } }

/-- SLOT of 02 Table 2.12. While a modulator settles before its comparison (200 to 201 ms, 1801 to 1802 ms) the table gives no value: it reads 1 and 3, the comparison's (DESIGN CHOICE, log 16). -/
def slotField (s : State) (n : Nat) : Nat :=
  let c := clu s (n / 12)
  if !isAin n || c.slot ≠ n % 12 then 0
  else match c.phase with | 2 => 1 | 3 => 2 | 4 => 3 | 5 => 3 | _ => 0

/-- CHN.CFGCH (R78). -/
def execChnCfgch (c : CoreId) (rs : Reg) (s : State) : Host.Outcome State Fault Refusal :=
  unitI s c rs .chn .more 6
    (fun _ s ws =>
      let n := chOf ws
      let x := chan s n
      let attach := (rw ws 3).getLsbD 12 && !chSurge x
      onIf ((rw ws 3).getLsbD 12 && !s.fuse.variant.surge) stABSENT ++ chRange ws 0x7F ++
      onIf (resv ws 2 0x3FFFFFFF || resv ws 3 0x0FFF9FF0 || resv ws 4 0xC00FFFFF || resv ws 5 0x3FFFF || bits (rw ws 2) 29 28 == 3 || shiftBad (rw ws 2) ||
        decide (bits (rw ws 4) 19 0 < 1000) || decide (700000 < bits (rw ws 4) 19 0) || decide (bits (rw ws 5) 17 0 < 63)) stRANGE ++
      onIf (rw ws 2 != x.cfg0 && !chainStopped x) stORDER ++
      onIf (attach && slotField s n != 0) stBUSY ++
      onIf (attach && decide (8 ≤ surgeCount s)) stFULL)
    fun _ s ws =>
      let n := chOf ws
      let a := modCh s n fun x =>
        { x with cfg0 := rw ws 2, cfg1 := rw ws 3, cfg2 := rw ws 4, cfg3 := rw ws 5,
                 det := if (rw ws 4).getLsbD 31 then x.det else { Detector.zero with out := x.det.out } }
      (cfgSurge a n (chSurge (chan s n)), [])

/-- The cluster of the channel is disturbed by another channel (02 R64). -/
def clDist (s : State) (n : Nat) : Bool := isAin n && (clu s (n / 12)).dist

/-- 02 Table 2.12. -/
def chStat (s : State) (n : Nat) : Word :=
  let k := sticky s n
  let c := chan s n
  w32 ((if isAin n then (trimNow s n).cals else 0) * 65536 + c.aborts * 4096 + slotField s n * 512 + 128 * b2n (k.getLsbD 3) + 64 * b2n (k.getLsbD 2) +
    32 * b2n (k.getLsbD 1) + 8 * carrier s n + 4 * b2n (clDist s n) + 2 * b2n (overAt c (now s)).isSome + b2n (k.getLsbD 0))

/-- 03 Table 3.13. -/
def chainStat (s : State) (n : Nat) : Word :=
  let k := sticky s n
  let c := chan s n
  let p := c.chain
  w32 (bits k 10 4 * 2 ^ 24 + bits k 12 11 * 2 ^ 22 + b2n (c.su.st != 0) * 2 ^ 21 + b2n (chDet c && p.st != 0 && !p.wait) * 2 ^ 20 +
    b2n (p.st != 0 && !p.wait && s.clk.fallback.isSome) * 2 ^ 19 + (if frozen s && p.st != 0 then 3 else p.st) * 2 ^ 16 + p.preset * 2 ^ 14 + p.t1 % dOf p.preset)

/-- Words 2 to 8 of CHN.RDST (05 Table 5.10). -/
def chnStatus (s : State) (n : Nat) : List Word :=
  let c := chan s n
  [c.input, c.cfg0, c.cfg1, c.cfg2, c.cfg3, chStat s n, chainStat s n]

/-- CHN.RDST (05 R163). -/
def execChnRdst (c : CoreId) (rs : Reg) (s : State) : Host.Outcome State Fault Refusal :=
  unitI s c rs .chn .laneRead 9 (fun _ _ ws => chRange ws 0x7F) fun _ s ws => (s, (chnStatus s (chOf ws)).mapIdx fun i v => (2 + i, v))

/-- The half-band rules of R80 for the stage from word `o`. -/
def halfOk (b : List Word) (o : Nat) : Bool := b.getD (o + 23) 0 == 0x00200000 && (List.range 11).all fun m => b.getD (o + 21 - 2 * m) 0 == 0

/-- Words that a bank of a preset uses for coefficients, as (first, half-band) (03 Table 3.6). -/
def bankHalves (p : Nat) : List Nat := match p with | 0 => [] | 1 => [3] | _ => [3, 27, 51]
def bankUsed (p i : Nat) : Bool :=
  match p with
  | 0 => decide (3 ≤ i) && decide (i ≤ 19)
  | 1 => (decide (3 ≤ i) && decide (i ≤ 43))
  | _ => decide (3 ≤ i) && decide (i ≤ 91)

/-- R80: the bank is acceptable. -/
def bankOk (b : List Word) : Bool :=
  let p := bits (b.getD 0 0) 9 8
  crc32c (wordsBytes (b.take 95)) == b.getD 95 0 && bits (b.getD 0 0) 7 0 == 1 && bits (b.getD 0 0) 31 10 == 0 && p != 3 &&
    ((List.range 95).all fun i => decide (i < 2) || (if bankUsed p i then b.getD i 0 == i32 (sext 24 (bits (b.getD i 0) 23 0)) else b.getD i 0 == 0)) &&
    ((bankHalves p).all fun o => halfOk b o)

/-- The bank that a CHN.LDCOEF names. -/
def srcBank (s : State) (x : Ctx) (ws : List Word) : List Word :=
  match bits (rw ws 1) 11 8 with
  | 0 => (List.range 96).map fun i => w32 (unle (dataRead s x (rw ws 2 + w32 (4 * i)) 4))
  | k => romBank (k - 1)

/-- LEGAL data memory holds the 96 words at an address. -/
def legalImage (a : Word) : Bool := a.toNat % 4 == 0 && decide (a.toNat + 384 ≤ 0x80000)

/-- The bank enters coefficient RAM and its copy in MRAM (R73, R80). -/
def putBank (s : State) (n : Nat) (b : List Word) : State :=
  { modCh s n fun y => { y with bank := b } with mram := Mem.writeN s.mram (cfgAddr n + 20) (wordsBytes (b.take 96)) }

/-- CHN.LDCOEF (R80). -/
def execChnLdcoef (c : CoreId) (rs : Reg) (s : State) : Host.Outcome State Fault Refusal :=
  unitI s c rs .chn .more 3
    (fun x s ws =>
      let src := bits (rw ws 1) 11 8
      chRange ws 0xF7F ++ onIf (decide (3 < src) || (src != 0 && rw ws 2 != 0)) stRANGE ++
      onIf (src == 0 && (!legalImage (rw ws 2) || !bankOk (srcBank s x ws))) stRANGE ++
      onIf (s.clk.mode != 4 || !chainStopped (chan s (chOf ws))) stORDER)
    fun x s ws =>
      let b := srcBank s x ws
      (event (putBank s (chOf ws) b) .chn 0x1B [w32 (chOf ws), b.getD 95 0], [])

/-- A chain stops: at once, or when the block being filled is complete (R81). -/
def stopChain (s : State) (n : Nat) : State :=
  let c := chan s n
  chainStopEvent (if c.str.blk.isEmpty then loseChain s n 0 0 else modCh s n fun x => { x with chain := { x.chain with ending := some 0 } }) n

/-- CHN.STOP (R81): a SPRING chain that PLL loss ended stays stopped at relock, with its record; a chain that is already stopped has nothing to stop. -/
def execChnStop (c : CoreId) (rs : Reg) (s : State) : Host.Outcome State Fault Refusal :=
  unitI s c rs .chn .more 2 (fun _ s ws => chRange ws 0x7F ++ onIf (s.clk.mode != 4) stORDER) fun _ s ws =>
    let n := chOf ws
    let p := (chan s n).chain
    if p.st = 0 then
      (let a := modCh s n fun x => { x with chain := { x.chain with again := 0 } }
       if p.again = 1 then chainStopEvent a n else a, [])
    else if p.ending.isSome then (s, []) else (stopChain s n, [])

/-- Sum of a stage's taps. -/
def tapSum (st : Stage) : Int := st.taps.foldl (· + ·) 0

/-- |SCALE × G − 1| ≤ 2⁻²⁴ (R82), SCALE unsigned as in `trimmed` (log 36). -/
def scaleOk (c : Ch) : Bool :=
  let st := stagesOf c
  let num : Int := st.foldl (fun a x => a * tapSum x) (c.bank.getD 1 0).toNat
  let den : Int := 2 ^ (30 + 22 * st.length + st.foldl (fun a x => a + x.sh) 0)
  decide ((num - den).natAbs * 2 ^ 24 ≤ den.natAbs)

/-- CHN.START (R82). -/
def execChnStart (c : CoreId) (rs : Reg) (s : State) : Host.Outcome State Fault Refusal :=
  unitI s c rs .chn .more 5
    (fun _ s ws =>
      let x := chan s (chOf ws)
      chRange ws 0x7F ++ onIf (resvs ws [(3, 0xFFFFFF), (4, 0x7FF)]) stRANGE ++
      onIf (!chainStopped x || !chEnabled x || bits (x.bank.getD 0 0) 9 8 != chPreset x || !scaleOk x) stORDER ++
      onIf (!ringFits s (chOf ws)) stFULL)
    fun _ s ws =>
      let n := chOf ws
      if chPreset (chan s n) = 0 && s.clk.fallback.isSome then (startWaiting s n 1, [(2, 0), (3, 0), (4, 0)])
      else
        let a := chainStartEvent (regainChain s n 1) n
        let p := (chan a n).chain
        (a, [(2, w32 p.t1), (3, w32 (p.t1 / 2 ^ 32 % 2 ^ 24)), (4, w32 (p.t1 % dOf p.preset))])

/-- STEP of CHN.RELIEF (05 Table 5.10). -/
def reliefStep (c : Cluster) : Nat :=
  if c.stopped then 5 else if c.paused then 4 else match c.phase with | 2 => 1 | 3 => 2 | 4 => 3 | 5 => 3 | _ => 0

/-- Checks that the three operations of CHN.RELIEF share. -/
def reliefChk (ws : List Word) : List Nat := chRange ws 0x37F ++ onIf (decide (7 < chOf ws) || bits (rw ws 1) 9 8 == 3) stRANGE

/-- SLOTIDX, STEP and WAIT (05 Table 5.10). -/
def reliefWord (s : State) (k : Nat) : Word :=
  w32 (sat 65535 (waitOf s k / ms 100) * 65536 + 16 * reliefStep (clu s k) + (clu s k).slot)

/-- PAUSE: a slot that has not taken over is abandoned; the cluster halts on its own modulators (02 Table 2.10). -/
def pauseClu (s : State) (k : Nat) : State :=
  let c := clu s k
  let a := modClu s k fun c => { c with pausing := true }
  if c.phase = 1 || c.phase = 2 || c.phase = 6 then slotIdle a k
  else if c.phase = 0 then modClu a k fun c => { c with paused := true }
  else a

/-- CHN.RELIEF (R62, R163): QUERY, PAUSE or RESUME. -/
def relief (s : State) (c : CoreId) (rs : Reg) (need : Need) : Host.Outcome State Fault Refusal :=
  unitI s c rs .chn need 3
    (fun x s ws =>
      let o := bits (rw ws 1) 9 8
      reliefChk ws ++ onIf (resv ws 2 0xFFFF00FF) stRANGE ++ onIf (o != 0 && !permitted x .chn .more) stDENIED ++ onIf (o != 0 && s.clk.mode != 4) stORDER)
    fun _ s ws =>
      let k := chOf ws
      let a := match bits (rw ws 1) 9 8 with | 1 => if (clu s k).stopped then s else pauseClu s k | 2 => resumeClu s k | _ => s
      (a, [(2, reliefWord a k)])

/-- CHN.RELIEF with OPER = QUERY (R62). -/
def execChnReliefQuery (c : CoreId) (rs : Reg) (s : State) : Host.Outcome State Fault Refusal := relief s c rs .read

/-- CHN.RELIEF with OPER = PAUSE (R62). -/
def execChnReliefPause (c : CoreId) (rs : Reg) (s : State) : Host.Outcome State Fault Refusal := relief s c rs .read

/-- CHN.RELIEF with OPER = RESUME (R62). -/
def execChnReliefResume (c : CoreId) (rs : Reg) (s : State) : Host.Outcome State Fault Refusal := relief s c rs .read

/-- CHN.CLRO (R65, R98). -/
def execChnClro (c : CoreId) (rs : Reg) (s : State) : Host.Outcome State Fault Refusal :=
  unitI s c rs .chn .more 2
    (fun _ s ws =>
      let x := chan s (chOf ws)
      chRange ws 0x7F ++ onIf (x.stuck || x.overs.any fun o => o.stop.isNone) stORDER)
    fun _ s ws => (clearSticky s (chOf ws) 0x1FF3, [])

/-- A sample enters the block being filled; the sixteenth completes it (R85, R87). -/
def emitSample (s : State) (n : Nat) (surge : Bool) (y : Smp) : State :=
  let a := modCh (openStream s n surge) n fun c =>
    let p := pathOf c surge
    let st := streamOf c surge
    setPath c surge { p with st := 2 }
      { st with
        blk := y :: st.blk, blkFb := st.blkFb || s.clk.fallback.isSome
        blkGen := (if isAin n then (carriedAt s n (now s)).2.gen % 256 else 0), blkCar := carrier s n }
  if (streamOf (chan a n) surge).blk.length < 16 then a
  else
    let b := closeBlock a n surge
    match (pathOf (chan b n) surge).ending with
    | some cause => if surge then startSurge (endPath b n true cause 0) n 5 (nextEdge s) else loseChain b n cause 0
    | none => b

/-- The next output of a path: it is emitted unless its window reaches back before the first valid bit (R83). -/
def pathOutput (s : State) (n : Nat) (surge : Bool) (bs sp : List Bool) : State :=
  let p := pathOf (chan s n) surge
  let r := if surge then (let z := surgeRun s n (if onRelief s n then sp else bs); (z.1, some z.2))
    else chainRun s n (dOf p.preset / 64) ((p.n - 1) * (dOf p.preset / 64) + 1) bs sp
  let a := modCh r.1 n fun c => let q := pathOf c surge; setPath c surge { q with n := q.n + 1 } (streamOf c surge)
  match r.2 with
  | some y => if p.n0 ≤ p.n then emitSample a n surge y else a
  | none => a

/-- CHAIN_SAMPLE_OUTPUT (R72, R75, R83, R87): the bits since the previous output, oldest first, of the channel's own modulator or bitstream and, while it is connected to the channel, of the relief modulator (02 R51). -/
def execChainSampleOutput (ch : ChanId) (surge : Bool) (bits : List Bool × List Bool) (s : State) : Host.Outcome State Fault Refusal :=
  let c := chan s ch.val
  let p := pathOf c surge
  let d := dPath c surge
  .next (if alive s && chRuns s ch.val && p.st != 0 && !p.wait && bits.1.length == d && (!spOn s ch.val || bits.2.length == d) then
      atTick s (p.t1 + d * p.n) fun s => pathOutput s ch.val surge bits.1 bits.2
    else s)

/-- RING_RELEASE (R88): the channel's oldest held ring. -/
def execRingRelease (ch : ChanId) (s : State) : Host.Outcome State Fault Refusal :=
  let c := chan s ch.val
  .next (match ringDue c with
    | some t => if alive s then atTick s t fun s => modCh s ch.val fun x => { x with str := releaseNext x.str } else s
    | none => s)

/-- The detector's result (03 R94): the DFT of the samples at `freq`/1,562,500 of a turn each, with the Hann window or without; the recursion of R94 gives this sum (log 36). -/
def detect (freq : Nat) (hann : Bool) (xs : List Int) : Int × Int :=
  let n := xs.length
  let z := dftSum 1562500 (xs.mapIdx fun i x => (x, if hann then unit - turnCos i n else 2 * unit, ((freq * i : Nat) : Int)))
  let den := (if hann then 1 else 2) * n * 2 ^ 129
  (rnd (5 * z.1) den, rnd (5 * z.2) den)

/-- A detector item (03 Table 3.10). -/
def detItem (n : Nat) (d : Detector) (xs : List Smp) : Bytes :=
  let r := detect d.freq d.hann (xs.map (·.1))
  let tags := xs.foldl (fun a x => a ||| x.2) 0
  le 4 (3 * 2 ^ 28 + b2n (tags.testBit 0) * 2 ^ 27 + b2n (tags.testBit 1 || tags.testBit 2) * 2 ^ 26 + n * 2 ^ 14 + d.idx % 2 ^ 14) ++
    le 4 d.tstart ++ le 4 (i32 (satSmp r.1).1).toNat ++ le 4 (i32 (satSmp r.2).1).toNat

/-- FREQ_DETECTOR_BLOCK_END (R87, R94, R95): the item follows the block that holds its last input's tick. -/
def execFreqDetectorBlockEnd (ch : ChanId) (s : State) : Host.Outcome State Fault Refusal :=
  let c := chan s ch.val
  .next (if alive s && c.chain.st != 0 && chDet c && decide (c.det.len ≤ c.det.xs.length) then
      let xs := c.det.xs.reverse
      let b := detItem ch.val c.det (xs.take c.det.len)
      let rest := xs.drop c.det.len
      let d : Detector := { freq := bits c.cfg2 19 0, hann := c.cfg2.getLsbD 30, len := bits c.cfg3 17 0 + 1, xs := rest.reverse, idx := c.det.idx + 1,
                            tstart := c.det.tstart + 256 * c.det.len, out := c.det.out }
      modCh s ch.val fun x =>
        if x.str.blk.isEmpty then { x with det := d, str := strPush x.str false { kind := 3, bseq := x.str.nextB, bytes := b } }
        else { x with det := { d with out := d.out ++ [b] } }
    else s)

/-- Word 0 of the capability descriptor (00 Table 0.3). -/
def capWord0 (v : Variant) : Word := w32 (0x00208004 + 16 * b2n v.dpy + 32 * b2n v.sit + 64 * b2n v.surge)

/-- The capability descriptor (00 Table 0.3, 05 Table 5.8). -/
def capWords (s : State) : List Word :=
  let v := s.fuse.variant
  let ws := [capWord0 v, if v.surge then 0x00842008 else 0x00042008, 0x00421000,
    w32 (0x10000 + 256 * s.fuse.stepMajor.toNat + s.fuse.stepMinor.toNat), s.fuse.uidLo, s.fuse.uidHi, 0]
  ws ++ [crc32c (wordsBytes ws)]

/-- CAP.READ (05 R162). -/
def execCapRead (c : CoreId) (rs : Reg) (s : State) : Host.Outcome State Fault Refusal :=
  unitI s c rs .cap .laneRead 10 (fun _ _ ws => onIf (rw ws 1 != 0) stRANGE) fun _ s _ => (s, (capWords s).mapIdx fun i v => (2 + i, v))

end Sys2Proof.Machine
end

