-- ==== Sys2Proof/Machine/DpyOps.lean ====
section
/-! DEFINITION. The display unit's shared parts: rows, accounts, the update queue, and what the other activities do to it (15). -/

namespace Sys2Proof.Machine

/-- Fields of DPY.CFG (15 Table 15.3). -/
def dpyEn (s : State) : Bool := s.dpy.cfg1.getLsbD 31
def dpyRevb (s : State) : Nat := bits s.dpy.cfg1 8 0
def dpyFwd (s : State) : Nat := 1465 - bits s.dpy.cfg1 23 16
def dpyIcol (s : State) (c : Nat) : Nat := bits s.dpy.cfg2 (8 * c + 7) (8 * c)

/-- Fields of a rectangle word: UPD and LOCK word 1. -/
def rectY1 (w : Word) : Nat := bits w 28 24
def rectY0 (w : Word) : Nat := bits w 20 16
def rectX1 (w : Word) : Nat := bits w 14 8
def rectX0 (w : Word) : Nat := bits w 6 0
def rectBad (w : Word) : Bool := decide (rectX1 w < rectX0 w) || decide (rectY1 w < rectY0 w)

/-- A pixel lies in the LEGAL region (15 R423). -/
def inRegion (lock : Word) (x y : Nat) : Bool :=
  lock.getLsbD 31 && decide (rectX0 lock ≤ x) && decide (x ≤ rectX1 lock) && decide (rectY0 lock ≤ y) && decide (y ≤ rectY1 lock)

/-- A rectangle shares a pixel with the region in force. -/
def meetsRegion (lock w : Word) : Bool :=
  lock.getLsbD 31 && decide (rectX0 lock ≤ rectX1 w) && decide (rectX0 w ≤ rectX1 lock) && decide (rectY0 lock ≤ rectY1 w) && decide (rectY0 w ≤ rectY1 lock)

/-- Two entries overlap (15 R428). -/
def dOverlap (a b : DEntry) : Bool := decide (a.x0 ≤ b.x1) && decide (b.x0 ≤ a.x1) && decide (a.y0 ≤ b.y1) && decide (b.y0 ≤ a.y1)

/-- The rectangle of an entry as a word. -/
def dRect (e : DEntry) : Word := w32 (e.y1 * 2 ^ 24 + e.y0 * 2 ^ 16 + e.x1 * 2 ^ 8 + e.x0)

/-- PIX cycles in 1/75 MOD cycle: 12.5 MHz on the PLL, 12 MHz in the fallback (15 R414, Table 15.2). -/
def pixTime (s : State) (n : Nat) : Nat := n * (if s.clk.fallback.isSome then 25 else 24)

/-- PIX cycles of row time `r` (15 R414). -/
def rowTime (r : Nat) : Nat := if r % 8 = 7 then 1954 else 1953

/-- The blink group of a pixel: 2 and 3 count as 0 inside the region (15 R417, R424). -/
def blinkOf (s : State) (x y : Nat) : Nat :=
  let g := nbits (Mem.read s.dpy.bm (32 * y + x / 4)).toNat (2 * (x % 4) + 1) (2 * (x % 4))
  if inRegion s.dpy.lock x y && decide (2 ≤ g) then 0 else g

/-- The group is in its on phase (15 R421). -/
def blinkOn (s : State) (g : Nat) : Bool :=
  let b := s.dpy.blink.getD g (1, 1, 0)
  decide ((s.dpy.frames + b.2.2) % max 1 b.1 < b.2.1)

/-- Pulse width of a colour of a pixel (15 R417, R422). -/
def pulseW (s : State) (x y c : Nat) : Nat :=
  if blinkOn s (blinkOf s x y) then s.dpy.gamma.getD (256 * c + (Mem.read s.dpy.fm (3 * (128 * y + x) + c)).toNat) 0 * dpyFwd s / 1023 else 0

/-- A charge account. -/
def dpyAcc (m : Mem) (i : Nat) : Nat := unle (Mem.readN m (2 * i) 2)

/-- The account after row time `r` (15 R419, R420). -/
def accNext (s : State) (r x y c : Nat) : Nat :=
  let a := dpyAcc s.dpy.acc (3 * (128 * y + x) + c)
  let rev := if a ≤ bits s.dpy.cfg3 15 0 then dpyRevb s else (if r % 8 = 7 then 489 else 488)
  min 65535 (a + pulseW s x y c * dpyIcol s c / 2048 - rev * bits s.dpy.cfg3 23 16 / 256)

/-- The end of row time `r`: every account of the row it drove (15 R416, R419). -/
def endRow (s : State) (r : Nat) : State :=
  if !dpyEn s then s
  else
    let y := if s.dpy.cfg1.getLsbD 29 then 31 - r else r
    let m := (List.range 384).foldl (fun m k => Mem.writeN m (2 * (384 * y + k)) (le 2 (accNext s r (k / 3) y (k % 3)))) s.dpy.acc
    let b := (List.range 384).any fun k => decide (bits s.dpy.cfg3 15 0 < dpyAcc m (384 * y + k))
    { s with dpy := { s.dpy with acc := m, balNow := s.dpy.balNow || b } }

/-- The posted operation of an entry. -/
def dOp (e : DEntry) (q : Posted) : Bool := q.unit == .dpy && q.op == 1 && q.world == e.world && q.addr == e.addr

/-- An entry ends with an outcome; CUT for a superseded one (15 R425, R429). -/
def dEnd (s : State) (e : DEntry) (out rows : Nat) : State :=
  settle s (dOp e) out [(5, w32 (e.frame * 65536 + 256 * b2n (out == 4) + rows))]

/-- Remove entries and end each with an outcome and the rows it wrote. -/
def dDrop (s : State) (p : DEntry → Bool) (out : Nat) (zero : Bool) : State :=
  let es := s.dpy.q.filter p
  es.foldl (fun t e => dEnd t e out (if zero then 0 else e.rows)) { s with dpy := { s.dpy with q := s.dpy.q.filter fun e => !p e } }

/-- The place of the oldest LEGAL entry that overlaps no older OPEN entry (15 R428). -/
def legalReady (q : List DEntry) : Option Nat :=
  (List.range q.length).find? fun i =>
    match q[i]? with
    | some e => e.world == .legal && !((q.take i).any fun o => o.world == .opn && dOverlap o e)
    | none => false

/-- The entry that runs from this boundary on (15 R428). -/
def dNext (q : List DEntry) : Option Nat :=
  match findAt (fun e => e.st == 1 && e.world == .legal) q 0 with
  | some (i, _) => some i
  | none =>
    match legalReady q with
    | some i => some i
    | none =>
      match findAt (fun e => decide (1 ≤ e.st)) q 0 with
      | some (i, _) => some i
      | none => if q.isEmpty then none else some 0

/-- The boundary leaves entry `i` alone running. -/
def dRun (q : List DEntry) (i : Nat) : List DEntry :=
  q.mapIdx fun j e => if j = i then { e with st := 1 } else if e.st = 1 then { e with st := 2 } else e

/-- REDUCED stops the queue: the running entry at its next boundary (15 Table 15.2). -/
def dpyReduce (s : State) : State :=
  let t := dDrop s (fun e => e.st != 1) 7 false
  { t with dpy := { t.dpy with q := t.dpy.q.map fun e => { e with stop := some (e.stop.getD 7) } } }

/-- Release from a freeze: scanning restarts at row time 0 (15 Table 15.2). -/
def dpyRelease (s : State) : State :=
  if s.dpy.scan then { s with dpy := { s.dpy with row := 32, at' := 75 * now s } } else s

/-- At the warning the panel goes dark and queued entries are lost (15 Table 15.2). -/
def dpyWarn (s : State) : State := { s with dpy := { s.dpy with dark := true, q := [] } }

end Sys2Proof.Machine
end

