-- ==== Sys2Proof/Machine/DpyUnit.lean ====
section
/-! DEFINITION. The DPY operations, the frame start and the row-time boundary (15). -/

namespace Sys2Proof.Machine

def isOpen (x : Ctx) : Bool := x == .world .opn

/-- The LEGAL world alone may issue the operation (15 R424). -/
def legalOnly (x : Ctx) : List Nat := onIf (isOpen x) stDENIED

/-- The mode is SERVICE, or the operation is the first accepted since power-up (15 R425). -/
def outsideService (s : State) (done : Bool) : List Nat := onIf (done && s.clk.mode != 4) stORDER

/-- DPY_CFG with the old and new words 1 to 3 (15 Table 15.5). -/
def dpyCfgEvent (old s : State) : State :=
  event s .dpy 0x60 [noInst, old.dpy.cfg1, old.dpy.cfg2, old.dpy.cfg3, s.dpy.cfg1, s.dpy.cfg2, s.dpy.cfg3]

/-- DPY.CFG (R419, R425, R433). -/
def execDpyCfg (c : CoreId) (rs : Reg) (s : State) : Host.Outcome State Fault Refusal :=
  unitI s c rs .dpy .more 8
    (fun x s ws =>
      let w := rw ws 2
      legalOnly x ++
        onIf (resv ws 1 0xFFFF01FF || resv ws 2 0xFFFFFF || resv ws 3 0xFFFFFF || (List.range 4).any (fun i => rw ws (4 + i) != 0) ||
          (List.range 3).any (fun i => decide (200 < bits w (8 * i + 7) (8 * i))) || decide (bits (rw ws 1) 8 0 < 16) || decide (488 < bits (rw ws 1) 8 0)) stRANGE ++
        outsideService s s.dpy.cfgDone)
    fun _ s ws =>
      (dpyCfgEvent s { s with dpy := { s.dpy with cfg1 := rw ws 1, cfg2 := rw ws 2, cfg3 := rw ws 3, cfgDone := true, acc := [] } }, [])

/-- Record address of the operation just accepted. -/
def lastAddr (s : State) : Nat := match s.posts.getLast? with | some q => q.addr | none => 0

/-- Bytes of a source row, padded (15 R426). -/
def pixRow (w : Word) : Nat := (3 * (rectX1 w - rectX0 w + 1) + 3) / 4 * 4
def blkRow (w : Word) : Nat := ((rectX1 w - rectX0 w + 4) / 4 + 3) / 4 * 4
def rectH (w : Word) : Nat := rectY1 w - rectY0 w + 1

/-- The world may load `n` bytes of its data memory at `a`, a multiple of 4. -/
def srcOk (s : State) (x : Ctx) (a : Word) (n : Nat) : Bool :=
  a.toNat % 4 == 0 && (List.range n).all fun i => decide (byteAt a i < 0x80000000) && grant s x (byteAt a i) false == .ok

/-- The entry of a DPY.UPD. -/
def updEntry (s : State) (x : Ctx) (ws : List Word) : DEntry :=
  let w := rw ws 1
  { world := worldOfCtx x, addr := lastAddr s, x0 := rectX0 w, y0 := rectY0 w, x1 := rectX1 w, y1 := rectY1 w, what := bits (rw ws 2) 1 0, src := rw ws 3,
    bsrc := rw ws 4, rows := 0, st := 0, stop := none, frame := 0 }

/-- SUP supersedes older overlapping entries of its own world, and from LEGAL those of OPEN (15 R429). -/
def supersede (s : State) (e : DEntry) : State :=
  let hit (o : DEntry) : Bool := dOverlap o e && (o.world == e.world || e.world == .legal) && o.stop.isNone
  let n := (s.dpy.q.filter hit).length
  let a := dDrop s (fun o => hit o && o.st != 1) stSTALE false
  { a with dpy := { a.dpy with q := a.dpy.q.map (fun o => if hit o then { o with stop := some stSTALE } else o), cuts := sat 65535 (a.dpy.cuts + n) } }

/-- DPY.UPD (R424 to R429). -/
def execDpyUpd (c : CoreId) (rs : Reg) (s : State) : Host.Outcome State Fault Refusal :=
  unitP s c rs .dpy .more 1 6
    (fun x s ws =>
      let w := rw ws 1
      let k := bits (rw ws 2) 1 0
      onIf (isOpen x && meetsRegion s.dpy.lock w) stDENIED ++
        onIf (resvs ws [(1, 0x9F1F7F7F), (2, 3), (5, 0xFFFF013F)] || rectBad w || k == 3 || (k == 1 && rw ws 3 != 0) || (k == 0 && rw ws 4 != 0) ||
          (k != 1 && !srcOk s x (rw ws 3) (pixRow w * rectH w)) || (k != 0 && !srcOk s x (rw ws 4) (blkRow w * rectH w))) stRANGE ++
        onIf (s.clk.mode == 3) stORDER ++
        onIf (decide (8 ≤ s.dpy.q.length) || (isOpen x && decide (6 ≤ (s.dpy.q.filter fun e => e.world == .opn).length))) stFULL)
    fun x s ws =>
      let e := updEntry s x ws
      let a := if (rw ws 1).getLsbD 31 then supersede s e else s
      later1 { a with dpy := { a.dpy with q := a.dpy.q ++ [e] } }

/-- The 16 entries that a DPY.GAMMA names. -/
def gammaSeg (s : State) (x : Ctx) (ws : List Word) : List Nat := (List.range 16).map fun i => unle (dataRead s x (rw ws 2 + w32 (2 * i)) 2)

/-- DPY.GAMMA (R418). -/
def execDpyGamma (c : CoreId) (rs : Reg) (s : State) : Host.Outcome State Fault Refusal :=
  unitP s c rs .dpy .more 2 5
    (fun x s ws =>
      legalOnly x ++
        onIf (resv ws 1 0x3F || decide (47 < bits (rw ws 1) 5 0) || rw ws 4 != 0 || !srcOk s x (rw ws 2) 32 || (gammaSeg s x ws).any fun v => decide (1023 < v)) stRANGE ++
        onIf (s.clk.mode == 3) stORDER ++ onIf s.dpy.gswap stBUSY)
    fun x s ws =>
      let g := s.dpy.gsgen + 1
      donePost { s with dpy := { s.dpy with shadow := s.dpy.shadow.set (bits (rw ws 1) 5 0) (some (gammaSeg s x ws)), gsgen := g } } 0 [(3, w32 g)]

def gammaFull (s : State) : Bool := s.dpy.shadow.all (·.isSome)

/-- DPY.GSWAP (R418): its outcome comes with the next frame. -/
def execDpyGswap (c : CoreId) (rs : Reg) (s : State) : Host.Outcome State Fault Refusal :=
  unitP s c rs .dpy .more 3 2 (fun x s _ => legalOnly x ++ onIf (s.clk.mode == 3 || !gammaFull s) stORDER) fun _ s _ =>
    later1 { s with dpy := { s.dpy with gswap := true } }

/-- DPY.BLINK (R421, R424). -/
def execDpyBlink (c : CoreId) (rs : Reg) (s : State) : Host.Outcome State Fault Refusal :=
  unitI s c rs .dpy .more 4
    (fun x _ ws =>
      let w := rw ws 2
      onIf (isOpen x && decide (bits (rw ws 1) 1 0 < 2)) stDENIED ++
        onIf (resv ws 1 3 || resv ws 2 0xFFFFFF || rw ws 3 != 0 || bits w 7 0 == 0 || decide (bits w 7 0 < bits w 15 8) ||
          decide (bits w 7 0 ≤ bits w 23 16)) stRANGE)
    fun _ s ws =>
      let w := rw ws 2
      ({ s with dpy := { s.dpy with blinkNew := s.dpy.blinkNew.set (bits (rw ws 1) 1 0) (bits w 7 0, bits w 15 8, bits w 23 16) } }, [])

/-- DPY.LOCK (R423, R425): queued OPEN entries that meet the new region are removed. -/
def execDpyLock (c : CoreId) (rs : Reg) (s : State) : Host.Outcome State Fault Refusal :=
  unitI s c rs .dpy .more 4
    (fun x s ws =>
      legalOnly x ++ onIf (resv ws 1 0x9F1F7F7F || rectBad (rw ws 1) || rw ws 3 != 0) stRANGE ++ outsideService s s.dpy.lockDone)
    fun _ s ws =>
      let w := rw ws 1
      let a := dDrop { s with dpy := { s.dpy with lock := w, lockDone := true } } (fun e => e.world == .opn && meetsRegion w (dRect e)) stDENIED true
      (event a .dpy 0x61 [noInst, s.dpy.lock, w], [(2, s.dpy.lock)])

/-- 15 Table 15.4. -/
def dpyStatus (s : State) : Word :=
  w32 ((s.dpy.q.filter fun e => e.world == .opn).length * 2 ^ 20 + s.dpy.q.length * 2 ^ 16 + 32768 * b2n (dpyEn s) + 16384 * b2n s.dpy.gswap +
    8192 * b2n (gammaFull s) + 4096 * b2n (s.dpy.lock.getLsbD 31) + 2048 * b2n s.clk.fallback.isSome + 1024 * b2n (s.dpy.q.any fun e => e.st == 1) +
    512 * b2n (s.dpy.q.any fun e => e.st == 2) + 256 * b2n s.dpy.bal + (if s.dpy.scan then min 31 s.dpy.row else 0))

/-- Words 1 to 5 of DPY.RDST (15 Table 15.3). -/
def dpyWords (s : State) : List Word :=
  [dpyStatus s, w32 s.dpy.frames, w32 (65536 * s.dpy.cuts + s.dpy.gsgen % 65536), s.dpy.lock, w32 s.dpy.doneN]

/-- DPY.RDST (R433). -/
def execDpyRdst (c : CoreId) (rs : Reg) (s : State) : Host.Outcome State Fault Refusal :=
  unitI s c rs .dpy .read 6 (fun _ _ _ => []) fun _ s _ => (s, (dpyWords s).mapIdx fun i v => (1 + i, v))

/-- Blink attributes of a row written from a source (15 R417, R426). -/
def putBlink (m : Mem) (y x0 : Nat) (b : Bytes) (n : Nat) : Mem :=
  (List.range n).foldl (fun m i =>
    let a := 32 * y + (x0 + i) / 4
    let sh := 2 * ((x0 + i) % 4)
    let v := nbits (b.getD (i / 4) 0).toNat (2 * (i % 4) + 1) (2 * (i % 4))
    let o := (Mem.read m a).toNat
    Mem.write m a (BitVec.ofNat 8 (o - nbits o (sh + 1) sh * 2 ^ sh + v * 2 ^ sh))) m

/-- An entry writes its next row (15 R426, R428). -/
def writeRow (s : State) (e : DEntry) : State :=
  let x := Ctx.world e.world
  let y := e.y0 + e.rows
  let w := e.x1 - e.x0 + 1
  let f := if e.what = 1 then s.dpy.fm
    else Mem.writeN s.dpy.fm (3 * (128 * y + e.x0)) (dataRead s x (e.src + w32 (e.rows * pixRow (dRect e))) (3 * w))
  let b := if e.what = 0 then s.dpy.bm else putBlink s.dpy.bm y e.x0 (dataRead s x (e.bsrc + w32 (e.rows * blkRow (dRect e))) ((w + 3) / 4)) w
  { s with dpy := { s.dpy with fm := f, bm := b } }

/-- The queue's work at a row-time boundary (15 R428, R429). -/
def dpyBoundary (s : State) : State :=
  let a := (s.dpy.q.filter fun e => e.stop.isSome).foldl (fun t e => dEnd t e (e.stop.getD 0) e.rows)
    { s with dpy := { s.dpy with q := s.dpy.q.filter fun e => e.stop.isNone } }
  match dNext a.dpy.q with
  | none => a
  | some i =>
    let q := dRun a.dpy.q i
    match q[i]? with
    | none => a
    | some e =>
      let b := writeRow { a with dpy := { a.dpy with q := q } } e
      let n := { e with rows := e.rows + 1, frame := s.dpy.frames % 65536 }
      if n.y1 < n.y0 + n.rows then
        dEnd { b with dpy := { b.dpy with q := dropAt b.dpy.q i, doneN := sat 0xFFFFFFFF (b.dpy.doneN + 1) } } n 0 n.rows
      else { b with dpy := { b.dpy with q := b.dpy.q.set i n } }

/-- A pending gamma swap takes effect (15 R418, R434). -/
def gammaSwap (s : State) : State :=
  if !s.dpy.gswap then s
  else
    let g := s.dpy.shadow.flatMap fun x => x.getD []
    let a := { s with dpy := { s.dpy with gamma := g, shadow := List.replicate 48 none, gswap := false } }
    let b := { a with posts := a.posts.map fun q =>
      if q.unit == .dpy && q.op == 3 && q.outcome.isNone then { q with outcome := some 0, results := [(1, w32 s.dpy.frames)] } else q }
    unitEv (event b .dpy 0x62 [noInst, w32 s.dpy.frames, crc32c (g.flatMap fun v => le 2 v)]) .legal .dpy

/-- DPY is present, clocked and not dark. -/
def dpyRuns (s : State) : Bool := alive s && !absentUnit s .dpy && !s.dpy.dark

/-- FRAME_START (R414, R418, R421, R428): the frame after the first DPY.CFG with EN = 1, then every 32 row times. -/
def execFrameStart (s : State) : Host.Outcome State Fault Refusal :=
  .next (if !dpyRuns s || (!s.dpy.scan && !dpyEn s) || (s.dpy.scan && s.dpy.row != 32) then s
    else
     atTick s (if s.dpy.scan then (s.dpy.at' + 74) / 75 else now s) fun s =>
      let d := s.dpy
      let a := { s with dpy := { d with
        scan := true, row := 0, at' := (if d.scan then d.at' else 75 * now s) + pixTime s (rowTime 0)
        frames := (if d.scan then d.frames + 1 else d.frames) % 2 ^ 32, blink := d.blinkNew, bal := d.balNow, balNow := false
        attWait := false, attRead := if d.attWait then some d.fm else d.attRead } }
      dpyBoundary (gammaSwap a))

/-- ROW_TIME_BOUNDARY (R414, R415, R419, R428): a row time ends; the next begins unless the frame is over. -/
def execRowTimeBoundary (s : State) : Host.Outcome State Fault Refusal :=
  .next (if !dpyRuns s || !s.dpy.scan || decide (31 < s.dpy.row) then s
    else
     atTick s ((s.dpy.at' + 74) / 75) fun s =>
      let r := s.dpy.row
      let a := endRow s r
      if r = 31 then { a with dpy := { a.dpy with row := 32 } }
      else dpyBoundary { a with dpy := { a.dpy with row := r + 1, at' := a.dpy.at' + pixTime s (rowTime (r + 1)) } })

end Sys2Proof.Machine
end

