-- ==== Sys2Proof/Machine/LedgerUnit.lean ====
section
/-! DEFINITION. The LDG operations and the flash (10 R295 to R302; 17 R474 to R476). -/

namespace Sys2Proof.Machine

/-- The 96 bytes of an appended body: record words 2 to 25. -/
def appendBody (ws : List Word) : Bytes := wordsBytes ((List.range 24).map fun i => rw ws (2 + i))

/-- LDG.APPEND (R302): TYPE 3 or 6; FULL while RESERVE is set; OK once committed in the pending store. -/
def execLdgAppend (c : CoreId) (rs : Reg) (s : State) : Host.Outcome State Fault Refusal :=
  unitP s c rs .ldg .more 0 34
    (fun _ s ws =>
      onIf (resv ws 1 0xFF || (rw ws 1 != 3 && rw ws 1 != 6) || (List.range 7).any fun i => rw ws (27 + i) != 0) stRANGE ++
        onIf (ldgReserve s) stFULL)
    fun _ s ws =>
      donePost (ldgGroup s (bits (rw ws 1) 7 0) false [] [appendBody ws]) 0 [(26, w32 (if s.ldg.next = 0 then 1 else s.ldg.next))]

/-- A record by index, and whether it waits in the pending store (R302). -/
def ldgRecord (s : State) (i : Nat) : Option (Bytes × Bool) :=
  match s.ldg.recs.find? fun r => r.index == i with
  | some r => some (r.bytes, true)
  | none =>
    if s.ldg.fault || s.ldg.nodev then none
    else (s.ldg.flash.find? fun r => r.1 == i).map fun r => (r.2, false)

/-- LDG.READ (R302): outcome RANGE beyond the last record, FAULT on a flash error. -/
def execLdgRead (c : CoreId) (rs : Reg) (s : State) : Host.Outcome State Fault Refusal :=
  unitP s c rs .ldg .read 1 35 (fun _ _ ws => onIf (resv ws 2 1) stRANGE) fun _ s ws =>
    let i := (rw ws 1).toNat
    if s.ldg.next ≤ i then donePost s stRANGE []
    else match ldgRecord s i with
      | none => donePost s stFAULT []
      | some (b, p) => donePost s 0 ((2, w32 (b2n p)) :: (List.range 32).map fun j => (3 + j, w32 (fld (4 * j) 4 b)))

/-- Records of a flash size code (R295). -/
def flashRecords (code : Nat) : Nat := 8388608 * 2 ^ code

/-- LDG.FLASH (R295, R302): once in each lifecycle state; the attached flash must answer the identity. -/
def execLdgFlash (c : CoreId) (rs : Reg) (s : State) : Host.Outcome State Fault Refusal :=
  unitI s c rs .ldg .more 4
    (fun _ s ws =>
      onIf (resv ws 1 0x107 || decide (4 ≤ bits (rw ws 1) 2 0) || decide (flashRecords (bits (rw ws 1) 2 0) < s.ldg.next) ||
        resv ws 2 0xFFFFFF || rw ws 3 != 0) stRANGE ++
      onIf (ldgSet s || s.ldg.device != some (rw ws 2).toNat) stORDER)
    fun _ s ws =>
      let z := bits (rw ws 1) 2 0
      let a := { s with ldg := { s.ldg with
        capacity := flashRecords z, sizeCode := z, dtr := (rw ws 1).getLsbD 8, jedec := (rw ws 2).toNat, setIn := some (lcState s),
        nodev := false, fullSeen := false } }
      (ldgTouch s (ldgKick (ldgGap a)), [])

/-- Records dropped since the last LEDGER_GAP. -/
def droppedSum (s : State) : Nat := s.ldg.dropped.foldl (· + ·) 0

/-- Words 1 to 7 of LDG.RDST (10 Table 10.9). -/
def ldgStatus (s : State) : List Word :=
  [w32 s.ldg.next, w32 s.ldg.capacity, w32 s.ldg.recs.length, ldgWord s, w32 s.ldg.lastCkpt, w32 (sat 65535 (droppedSum s)), 0]

/-- Result words from word `i` on. -/
def resFrom (i : Nat) (ws : List Word) : List (Nat × Word) := ws.mapIdx fun j w => (i + j, w)

/-- LDG.RDST (R302). -/
def execLdgRdst (c : CoreId) (rs : Reg) (s : State) : Host.Outcome State Fault Refusal :=
  unitI s c rs .ldg .read 8 (fun _ _ ws => onIf (resvs ws [(3, 0xFFFF), (6, 0xFFFF)] || rw ws 7 != 0) stRANGE) fun _ s _ => (s, resFrom 1 ((ldgStatus s).take 6))

/-- A program has failed: again, or FAULT after three (R298). -/
def progFailed (s : State) : State :=
  if s.ldg.fault then { s with ldg := { s.ldg with prog := none, retryAt := some (s.clk.ref + 240000000) } }
  else if s.ldg.tries + 1 < 3 then { s with ldg := { s.ldg with tries := s.ldg.tries + 1, prog := some s.clk.ref } }
  else
    let i := match s.ldg.recs with | r :: _ => r.index | [] => 0
    let a := { s with ldg := { s.ldg with prog := none, fault := true, tries := 3, retryAt := some (s.clk.ref + 240000000) } }
    event a .ldg 0x41 [noInst, w32 i, 3]

/-- The read-back of the oldest pending record matched: its slot is released (R296, R360). -/
def progMatched (s : State) : State :=
  match s.ldg.recs with
  | [] => { s with ldg := { s.ldg with prog := none } }
  | r :: t =>
    let a := { s with ldg := { s.ldg with
      recs := t, prog := none, tries := 0, fault := false, retryAt := none
      flash := (r.index, r.bytes) :: s.ldg.flash.filter fun x => x.1 != r.index } }
    ldgKick (tmpHand 16 (tmpSeal (ldgGap a) r.eseqs))

/-- FLASH_PROGRAM_DONE (R296, R298): a program ends and is read back. -/
def execFlashProgramDone (ok : Bool) (s : State) : Host.Outcome State Fault Refusal :=
  .next (if alive s && s.ldg.prog.isSome then ldgTouch s (if ok then progMatched s else progFailed s) else s)

/-- FLASH_RETRY (R298): once every 10 s while FAULT is set. -/
def execFlashRetry (s : State) : Host.Outcome State Fault Refusal :=
  .next (match s.ldg.retryAt with
    | some t =>
      if alive s && s.ldg.fault && s.ldg.prog.isNone && s.clk.pfw.isNone then
        atRef s t fun s => { s with ldg := { s.ldg with prog := some s.clk.ref, retryAt := none } }
      else s
    | none => s)

/-- FLASH_PROGRAM_TIMEOUT (17 R476): a program still busy after 10 ms counts as failed. -/
def execFlashProgramTimeout (s : State) : Host.Outcome State Fault Refusal :=
  .next (match s.ldg.prog with
    | some t => if alive s then atRef s (t + 240000) fun s => ldgTouch s (progFailed s) else s
    | none => s)

end Sys2Proof.Machine
end

