-- ==== Sys2Proof/Machine/StreamFrame.lean ====
section
/-! DEFINITION. The stream instructions and FRM.EMIT, FRM.XEMIT (05 R147 to R151). -/

namespace Sys2Proof.Machine

/-- The stream that a selector names, with the bad selector's low bits. -/
def strOf (s : State) (sel : Word) : Stream := selStream s sel

/-- A stream instruction without a destination in memory: STREAM detail 2 on a bad selector, detail 1 on a lost position when `lost` asks (R148). -/
def strInstr (s : State) (c : CoreId) (priv lost : Bool) (rs1 : Reg) (f : Ctx → State → Word → Stream → State) :
    Host.Outcome State Fault Refusal :=
  laneInstr s c priv fun x s =>
    let sel := getG s x rs1
    if selBad sel then raise s x (xStream 2)
    else if lost && strLost (strOf s sel) (laneOf x) then raise s x (xStream 1)
    else f x s sel (strOf s sel)

/-- A stream instruction that copies 16 or 80 bytes to rs2: ALIGN and DACCESS come first, and no position moves (R117, R148). -/
def strCopy (s : State) (c : CoreId) (priv lost : Bool) (rs1 rs2 : Reg) (item : Stream → LaneId → Option Bytes)
    (f : Ctx → State → Word → Stream → State) : Host.Outcome State Fault Refusal :=
  laneInstr s c priv fun x s =>
    let sel := getG s x rs1
    let a := getG s x rs2
    let n := if selBad sel then 16 else (item (strOf s sel) (laneOf x)).elim 16 List.length
    match destExc s x a n with
    | some e => raise s x e
    | none =>
      if selBad sel then raise s x (xStream 2)
      else if lost && strLost (strOf s sel) (laneOf x) then raise s x (xStream 1)
      else
        let st := strOf s sel
        f x (match item st (laneOf x) with | some b => dataWrite s x a b | none => s) sel st

/-- The kind that STR.PEEK, STR.POP and STR.READ report. -/
def kindOf (i : Option SItem) : Word := match i with | some y => w32 (y.kind % 16) | none => 0xF

def nextBytes (st : Stream) (l : LaneId) : Option Bytes := (strNext st l).map (·.bytes)

/-- STR.PEEK (R147). -/
def execStrPeek (c : CoreId) (rd rs1 : Reg) (s : State) : Host.Outcome State Fault Refusal :=
  strInstr s c false true rs1 fun x s _ st =>
    retire s x rd (kindOf (strNext st (laneOf x)) ||| (w32 (sat 4095 (strAhead st (laneOf x))) <<< 4))

/-- STR.POP (R147): PRIV in a slot; the position moves past the item. -/
def execStrPop (c : CoreId) (rd rs1 rs2 : Reg) (s : State) : Host.Outcome State Fault Refusal :=
  strCopy s c true true rs1 rs2 nextBytes fun x s sel st =>
    let i := strNext st (laneOf x)
    let t := if i.isSome then setSelStream s sel (setPos st (laneOf x) (strPos st (laneOf x) + 1)) else s
    retire t x rd (kindOf i)

/-- STR.READ (R147): as STR.POP, without moving the position. -/
def execStrRead (c : CoreId) (rd rs1 rs2 : Reg) (s : State) : Host.Outcome State Fault Refusal :=
  strCopy s c false true rs1 rs2 nextBytes fun x s _ st => retire s x rd (kindOf (strNext st (laneOf x)))

/-- STR.SEEK (R147): 0 done, 1 block not yet written, 2 block older than the retained depth. -/
def execStrSeek (c : CoreId) (rd rs1 rs2 : Reg) (s : State) : Host.Outcome State Fault Refusal :=
  strInstr s c true false rs1 fun x s sel st =>
    let q := (getG s x rs2).toNat
    match strFind st q with
    | some p => retire (setSelStream s sel (setPos st (laneOf x) p)) x rd 0
    | none => retire s x rd (if q = st.nextB ∨ later 32 q st.nextB then 1 else 2)

/-- STR.TELL (R147): BSEQ of the next block. -/
def execStrTell (c : CoreId) (rd rs1 : Reg) (s : State) : Host.Outcome State Fault Refusal :=
  strInstr s c false true rs1 fun x s _ st => retire s x rd (w32 (strTell st (laneOf x)))

/-- A stalled STR.WAIT may go on: an item is ahead, or MODT is later than or equal to the deadline (R147). -/
def waitOver (s : State) (l : LaneId) (sel dead : Word) : Bool :=
  decide (0 < strAhead (strOf s sel) l) || later 32 (now s % 2 ^ 32) dead.toNat || now s % 2 ^ 32 == dead.toNat

/-- STR.WAIT (R147): goes on at once, or the lane stalls. -/
def execStrWait (c : CoreId) (rs1 rs2 : Reg) (s : State) : Host.Outcome State Fault Refusal :=
  strInstr s c false false rs1 fun x s sel _ =>
    let dead := getG s x rs2
    if waitOver s (laneOf x) sel dead then advance s x else modLane s (laneOf x) fun y => { y with stall := .wait sel dead }

/-- The context that a stalled lane resumes. -/
def stalledCtx (s : State) (l : LaneId) : Ctx := match (lane s l).run with | some r => .slot l r.k | none => .ref l

/-- STR_WAIT_WAKE (R147). -/
def execStrWaitWake (l : LaneId) (s : State) : Host.Outcome State Fault Refusal :=
  .next (match (lane s l).stall with
    | .wait sel dead =>
      if alive s && (lane s l).running && waitOver s l sel dead then
        advance (modLane s l fun y => { y with stall := .none }) (stalledCtx s l)
      else s
    | _ => s)

/-- STR.EPOCH (R147): copy the retained epoch item, rd = 1; rd = 0 when none is retained. -/
def execStrEpoch (c : CoreId) (rd rs1 rs2 : Reg) (s : State) : Host.Outcome State Fault Refusal :=
  strCopy s c false false rs1 rs2 (fun st _ => st.epoch) fun x s _ st => retire s x rd (setIf st.epoch.isSome)

/-- A frame of 64 bytes with bytes 60 to 63 replaced by the CRC-32C of bytes 0 to 59 (R150). -/
def frameCrc (b : Bytes) : Word := crc32c (b.take 60)
def frameOf (b : Bytes) : Bytes := b.take 60 ++ le 4 (frameCrc b).toNat

/-- The frame at rs1 must be a multiple of 4 and readable (R150, R117). R150 has the frame in data memory. DESIGN CHOICE (log 11), unsafe: the reference program, which may load from the calibration window, may have it there too. -/
def frameExc (s : State) (x : Ctx) (a : Word) : Option Exc :=
  if a.toNat % 4 ≠ 0 then some (xAlign a)
  else match accessExc s x a 64 false with
    | some e => some e
    | none => loadEcc s x a 64

/-- FRM.EMIT once there is room: the frame enters the lane's PAIR input buffer of 128 (R150, 01 Table 1.9). -/
def emitFrame (s : State) (x : Ctx) (rd rs1 : Reg) : State :=
  let a := getG s x rs1
  let b := dataRead s x a 64
  let t := modPl (dataTouch s x a 64) (laneOf x) fun p => { p with inbuf := p.inbuf ++ [frameOf b] }
  retire t x rd (frameCrc b)

def inFull (s : State) (l : LaneId) : Bool := decide (128 ≤ (pl s l).inbuf.length)

/-- FRM.EMIT (R150): PRIV in a slot; the lane stalls while its PAIR input buffer is full. -/
def execFrmEmit (c : CoreId) (rd rs1 : Reg) (s : State) : Host.Outcome State Fault Refusal :=
  laneInstr s c true fun x s =>
    match frameExc s x (getG s x rs1) with
    | some e => raise s x e
    | none => if inFull s (laneOf x) then modLane s (laneOf x) fun y => { y with stall := .emit rd rs1 } else emitFrame s x rd rs1

/-- FRM_EMIT_UNSTALL (R150): the buffer has room again. -/
def execFrmEmitUnstall (l : LaneId) (s : State) : Host.Outcome State Fault Refusal :=
  .next (match (lane s l).stall with
    | .emit rd rs1 =>
      if alive s && (lane s l).running && !inFull s l then emitFrame (modLane s l fun y => { y with stall := .none }) (.ref l) rd rs1 else s
    | _ => s)

/-- FRM.XEMIT (R150, R151): to the extension buffer of 16 frames, or dropped and counted. -/
def execFrmXemit (c : CoreId) (rd rs1 : Reg) (s : State) : Host.Outcome State Fault Refusal :=
  laneInstr s c false fun x s =>
    let a := getG s x rs1
    match frameExc s x a with
    | some e => raise s x e
    | none =>
      let l := laneOf x
      let t := dataTouch s x a 64
      if 16 ≤ (pl s l).xbuf.length then
        retire { t with pair := { t.pair with xdrop := sat 65535 (t.pair.xdrop + 1) } } x rd 1
      else retire (modPl t l fun p => { p with xbuf := p.xbuf ++ [frameOf (dataRead s x a 64)] }) x rd 0

end Sys2Proof.Machine
end

