-- ==== Sys2Proof/Machine/Pair.lean ====
section
/-! DEFINITION. Pairing of frames, lane faults, restart, rejoin, checkpoints and the PAIR operations (07). -/

namespace Sys2Proof.Machine

/-- A lane whose frames pair: ACTIVE, STANDBY or JOINING (07 Table 7.2). -/
def pairs (s : State) (l : LaneId) : Bool := (pl s l).st == 1 || (pl s l).st == 2 || (pl s l).st == 5

def joining (s : State) (l : LaneId) : Bool := (pl s l).st == 5

def countReplay (s : State) : State := { s with pair := { s.pair with replay := sat 0xFFFFFFFF (s.pair.replay + 1) } }

/-- MODTICK at which the last input of a frame's cycle became readable; for a frame that LANE_PASS did not emit, the earliest that R181 allows. -/
def inputsAt (s : State) (l : LaneId) (f : Bytes) : Nat :=
  match (pl s l).inputAt.find? fun x => x.1 == f.take 5 with
  | some x => x.2
  | none => now s - (now s + 2 ^ 33 - fld 8 4 f - 22206) % 2 ^ 32

/-- A frame of a rebuilding lane enters the account of the output stop (07 R221): its delay in units of 10 µs. -/
def noteStop (s : State) (l : LaneId) (f : Bytes) : State :=
  if (pl s l).st ≠ 7 then s
  else
    let d := (now s - inputsAt s l f) / 40
    let st : Stop := match s.pair.stop with
      | some x => { x with longest := max x.longest d, lastSeq := frSeq f }
      | none => { longest := d, firstSeq := frSeq f, lastSeq := frSeq f }
    { s with pair := { s.pair with stop := some st } }

/-- Forward a held frame as SINGLE, or discard it when it came from a JOINING lane (07 R203). -/
def closeHeld (s : State) (mp : Nat) : State :=
  match (s.pair.pts.getD mp PPoint.zero).held with
  | none => s
  | some h => if joining s h.lane then modPt s mp fun p => { p with held := none } else pairForward s h.frame 1

/-- A new frame with none held (07 Table 7.2, first two rows). -/
def pairNew (s : State) (l : LaneId) (f : Bytes) : State :=
  if pairs s (otherLane l) then modPt s (frMp f) fun p => { p with held := some { frame := f, lane := l, opened := s.clk.sysRef } }
  else pairForward (noteStop s l f) f 1

/-- The frame of the ACTIVE lane of two twins. -/
def ofActive (s : State) (l : LaneId) (f : Bytes) (h : Held) : Bytes := if l = s.pair.active then f else h.frame

/-- A twin of the held frame inside the window (07 Table 7.2). -/
def pairTwin (s : State) (l : LaneId) (f : Bytes) (h : Held) : State :=
  let a := ofActive s l f h
  let o := if l = s.pair.active then h.frame else f
  let j := if joining s l then some l else if joining s h.lane then some h.lane else none
  if frCrc f = frCrc h.frame then
    let t := pairForward s (if joining s h.lane then f else h.frame) 0
    (match j with | some x => joinStep t x (frMp f) | none => t)
  else match j with
    | some x => laneFault (pairForward s a 1) x 7 0
    | none => disagreement (pairForward s a 2) (frMp f) (frSeq f) (frCrc a) (frCrc o) (frKind f)

/-- A frame that is not new (07 Table 7.2). -/
def pairOld (s : State) (l : LaneId) (f : Bytes) : State :=
  match (s.pair.pts.getD (frMp f) PPoint.zero).hist.find? fun x => x.1 == frSeq f with
  | none => countReplay s
  | some (_, c) =>
    if c = frCrc f then countReplay s
    else match (pl s l).st with
      | 5 => laneFault s l 7 0
      | 7 => pairEv (disagreeEvent s (frMp f) (frSeq f) c (frCrc f) 1 (frKind f))
      | _ =>
        if l = s.pair.active then disagreement s (frMp f) (frSeq f) (frCrc f) c (frKind f)
        else disagreement s (frMp f) (frSeq f) c (frCrc f) (frKind f)

/-- A frame is new: later than LAST, or admitted by a mark (07 R202, 06 R499); nothing forwarded yet leaves every frame new. -/
def isNew (p : PPoint) (f : Bytes) : Bool :=
  match p.last with
  | none => true
  | some q => later 32 (frSeq f) q || (p.mark && frFirst f)

/-- 07 Table 7.3 LAG: the other lane has not sent the frame four before this one. -/
def lagging (s : State) (l : LaneId) (f : Bytes) : Bool :=
  let p := s.pair.pts.getD (frMp f) PPoint.zero
  let o := match otherLane l with | .ebb => p.ebbSeq | .flood => p.floodSeq
  let q := (frSeq f + 2 ^ 32 - 4) % 2 ^ 32
  let pairSt := ((pl s l).st == 1 && (pl s (otherLane l)).st == 2) || ((pl s l).st == 2 && (pl s (otherLane l)).st == 1)
  pairSt && p.hist.any (fun x => x.1 == q) && (match o with | some y => later 32 q y | none => true)

def noteSeq (s : State) (l : LaneId) (f : Bytes) : State :=
  modPt s (frMp f) fun p => match l with | .ebb => { p with ebbSeq := some (frSeq f) } | .flood => { p with floodSeq := some (frSeq f) }

/-- The window of a held frame is over (07 R202). -/
def windowOver (s : State) (h : Held) : Bool := decide (h.opened + 6000 ≤ s.clk.sysRef)

/-- A result frame reaches PAIR (07 R203, R204). -/
def pairArrive (s : State) (l : LaneId) (f : Bytes) : State :=
  if 2 ≤ frKind f ∨ !mpDefined s (frMp f) then laneFault s l 10 0
  else
    let a := noteSeq (if lagging s l f then laneFault s (otherLane l) 3 0 else s) l f
    let b := match (a.pair.pts.getD (frMp f) PPoint.zero).held with
      | some h => if windowOver a h then closeHeld a (frMp f) else a
      | none => a
    let p := b.pair.pts.getD (frMp f) PPoint.zero
    match p.held with
    | some h =>
      if frSeq h.frame = frSeq f then (if h.lane = l then countReplay b else pairTwin b l f h)
      else if isNew p f then pairNew (closeHeld b (frMp f)) l f else pairOld b l f
    | none => if isNew p f then pairNew b l f else pairOld b l f

/-- PAIR takes the oldest frame of a lane's input buffer, unless the BIL input buffer has no room for what it forwards (01 R31). -/
def takeFrame (s : State) (l : LaneId) : State :=
  match (pl s l).inbuf with
  | [] => s
  | f :: t => bilFits s (pairArrive (modPl s l fun p => { p with inbuf := t }) l f)

/-- PAIR_FRAME_ARRIVAL (R202 to R210): the oldest frame of the lane's input buffer. -/
def execPairFrameArrival (l : LaneId) (s : State) : Host.Outcome State Fault Refusal := .next (if alive s then takeFrame s l else s)

/-- An extension or analysis frame goes to Headland and the host ports, never to BIL (07 R205). -/
def extForward (s : State) (f : Bytes) (status : Nat) : State :=
  let a := { s with pair := { s.pair with
    xtab := s.pair.xtab.filter fun h => h.frame.take 5 != f.take 5
    xdone := (f.take 5 :: s.pair.xdone).take 256
    single := if status = 1 then sat 0xFFFFFFFF (s.pair.single + 1) else s.pair.single
    toHead := some (f, status) } }
  hostFrame a (frMp f) true status f

/-- A pending extension frame without a twin: SINGLE, or nothing when it came from a JOINING lane. -/
def extClose (s : State) (h : Held) : State :=
  if joining s h.lane then { s with pair := { s.pair with xtab := s.pair.xtab.filter fun x => x.frame.take 5 != h.frame.take 5 } }
  else extForward s h.frame 1

/-- REF cycles of SYS running until the oldest window of a point ends. -/
def windowLeft (s : State) (mp : Nat) : Nat :=
  let hs := (s.pair.xtab.filter fun h => frMp h.frame == mp) ++ (s.pair.pts.getD mp PPoint.zero).held.toList
  match (hs.map (·.opened)).min? with | some o => o + 6000 - s.clk.sysRef | none => 0

/-- PAIRING_WINDOW_END (R202, R203, R205): the held frame of a point, and its pending extension frames, whose window has ended. -/
def execPairingWindowEnd (mp : PointId) (s : State) : Host.Outcome State Fault Refusal :=
  .next (if !alive s then s
    else
     atRef s (s.clk.ref + windowLeft s mp.val) fun s =>
      let a := match (s.pair.pts.getD mp.val PPoint.zero).held with
        | some h => if windowOver s h then bilFits s (closeHeld s mp.val) else s
        | none => s
      (a.pair.xtab.filter fun h => frMp h.frame == mp.val && windowOver s h).foldl extClose a)

/-- Analysis frames of the reference program (07 R205). -/
def analysisKind (k : Nat) : Bool := k == 2 || k == 3 || k == 4

/-- Twins of the extension buffers (07 R205). -/
def extTwin (s : State) (l : LaneId) (f : Bytes) (h : Held) : State :=
  let a := ofActive s l f h
  let o := if l = s.pair.active then h.frame else f
  if frCrc f = frCrc h.frame then extForward s a 0
  else if !analysisKind (frKind f) then
    extForward { s with pair := { s.pair with xdisagree := sat 65535 (s.pair.xdisagree + 1) } } a 2
  else if joining s l then laneFault (extForward s a 1) l 7 0
  else if joining s h.lane then laneFault (extForward s a 1) h.lane 7 0
  else disagreement (extForward s a 2) (frMp f) (frSeq f) (frCrc a) (frCrc o) (frKind f)

/-- An extension frame without a pending twin: discarded when its identity was forwarded, else forwarded alone or entered in the table (07 R205). -/
def extNew (s : State) (l : LaneId) (f : Bytes) : State :=
  if s.pair.xdone.contains (f.take 5) then s
  else if !pairs s (otherLane l) then (if joining s l then s else extForward s f 1)
  else
    let a := if 32 ≤ s.pair.xtab.length then (match s.pair.xtab with | h :: _ => extClose s h | [] => s) else s
    { a with pair := { a.pair with xtab := a.pair.xtab ++ [{ frame := f, lane := l, opened := s.clk.sysRef }] } }

/-- An extension frame reaches PAIR (07 R205); a pending entry whose window is over is closed first. -/
def extArrive (s : State) (l : LaneId) (f : Bytes) : State :=
  match s.pair.xtab.find? fun h => h.frame.take 5 == f.take 5 && h.lane != l with
  | some h => if windowOver s h then extNew (extClose s h) l f else extTwin s l f h
  | none => extNew s l f

/-- EXT_FRAME_ARRIVAL (R205). -/
def execExtFrameArrival (l : LaneId) (s : State) : Host.Outcome State Fault Refusal :=
  .next (if !alive s then s
    else match (pl s l).xbuf with
      | [] => s
      | f :: t => extArrive (modPl s l fun p => { p with xbuf := t }) l f)

/-- The lane has made a pass mark in the last 32,000 MOD cycles. -/
def markedSince (s : State) (l : LaneId) : Bool := match (pl s l).marked with | some t => decide (now s < t + 32000) | none => false

/-- LANE_SILENCE_TIMEOUT (R206): 32,000 MOD cycles without a pass mark, in which the other lane has made one. -/
def execLaneSilenceTimeout (l : LaneId) (s : State) : Host.Outcome State Fault Refusal :=
  .next (if alive s && pairs s l && pairs s (otherLane l) then
      atTick s ((pl s l).lastMark + 32000) fun s => if markedSince s (otherLane l) then laneFault s l 2 0 else s
    else s)

/-- LANE_CLOCK_FAULT (R206): CLK reports the lane's clock. -/
def execLaneClockFault (l : LaneId) (s : State) : Host.Outcome State Fault Refusal := .next (if alive s then laneFault s l 4 0 else s)

/-- The reference program's image from MRAM into a lane (07 R212; 04 R134). -/
def loadProgram (s : State) (l : LaneId) : State :=
  let im := imgBytes s 0
  modLane s l fun y =>
    let m := loadSects im y.imem y.dmem
    { y with imem := m.1, dmem := m.2, entry := w32 (fld 0x10 4 im) }

/-- The image of slot `k` from MRAM into a lane. -/
def loadSlotImage (l : LaneId) (s : State) (k : Nat) : State :=
  modLane s l fun y =>
    let m := loadSects (imgBytes s (k + 1)) y.imem y.dmem
    { y with imem := m.1, dmem := m.2 }

/-- Slots of a lane whose extension program is present. -/
def slotsOn (s : State) (l : LaneId) : List Nat := (List.range 4).filter fun k => ((lane s l).slots.getD k Slot.zero).present

/-- The images of a lane from MRAM at start-up: the reference program, then the slots whose entries measure (04 R134). -/
def loadLane (s : State) (l : LaneId) : State := (slotsOn s l).foldl (loadSlotImage l) (loadProgram s l)

def setPresent (s : State) (l : LaneId) (k : Nat) (b : Bool) : State :=
  modLane s l fun y => { y with slots := y.slots.modify k fun x => { x with present := b } }

/-- A reload of the reference program: the extension programs are not present until their own reloads (07 R212 step 4). -/
def reloadLane (s : State) (l : LaneId) : State :=
  let due := (List.range 4).filter fun k => (slotsOn s l).contains k || (pl s l).slotsDue.contains k
  modPl (due.foldl (fun t k => setPresent t l k false) (loadProgram s l)) l fun p => { p with slotsDue := due }

/-- The boot sequencer reloads the next extension program: one at each pass mark of the lane (07 R212 step 4; log 13 for when). -/
def reloadSlot (s : State) (l : LaneId) : State :=
  match (pl s l).slotsDue with
  | [] => s
  | k :: t => modPl (setPresent (loadSlotImage l s k) l k true) l fun p => { p with slotsDue := t }

/-- A reload ends: the measured image is in force and the lane goes on, or a RELOAD fault (07 R212). -/
def reloadEnds (s : State) (l : LaneId) : State :=
  let ok := measureImage s 0 == dirMeasure s 0
  if (pl s l).st = 3 then
    if ok then modPl (reloadLane s l) l fun p => { p with st := 4 }
    else
      let a := modPl s l fun p => { p with st := 6, cause := 9, faults := now s :: rst24 s l }
      let b := { a with pair := { a.pair with lastFault := w32 (laneNo l + 256 * 9) } }
      let c := event (laneFaultEvent b l 9 0) .pair 0x2C [w32 (laneNo l)]
      pairEv (settleLane c l stFAULT)
  else if ok then modPl (reloadLane s l) l fun p => { p with reload := false }
  else if (pl s l).reloadBad then modPl s l fun p => { p with reloadAt := now s }
  else
    let a := modPl s l fun p => { p with reloadBad := true, reloadAt := now s, cause := 9, faults := now s :: rst24 s l }
    pairEv (laneFaultEvent { a with pair := { a.pair with lastFault := w32 (laneNo l + 256 * 9) } } l 9 0)

/-- A lane waits for its reload; none is made during the PLL-loss fallback (07 R224). -/
def reloading (s : State) (l : LaneId) : Bool :=
  alive s && s.clk.fallback.isNone && ((pl s l).st == 3 || ((pl s l).st == 7 && (pl s l).reload))

/-- LANE_RELOAD_DONE (R212). -/
def execLaneReloadDone (l : LaneId) (s : State) : Host.Outcome State Fault Refusal :=
  .next (if reloading s l && !(pl s l).reloadBad then reloadEnds s l else s)

/-- LANE_RELOAD_RETRY (R212): every 3 ms, for a sole lane. -/
def execLaneReloadRetry (l : LaneId) (s : State) : Host.Outcome State Fault Refusal :=
  .next (if reloading s l && (pl s l).reloadBad then atTick s ((pl s l).reloadAt + 12000) fun s => reloadEnds s l else s)

/-- SNAPSHOT_COPY_DONE (R213): after 12,288 SYS cycles the lane is released with g2 = 1 and enters JOINING. -/
def execSnapshotCopyDone (l : LaneId) (s : State) : Host.Outcome State Fault Refusal :=
  .next (match s.pair.snap with
    | none => s
    | some c =>
      if alive s && (pl s l).st == 4 then
       afterCycles s (sysRate s) (c.started + 12288 - s.clk.sys) fun s =>
        let a := releaseLane (putSeg s l c.prog c.seg) l 1
        let b := modPl a l fun p => { p with st := 5, joinDead := some (now s + 4000000), paired := 0, lastMark := now s }
        { b with pair := { b.pair with snap := none } }
      else s)

/-- JOIN_TIMEOUT (R214). -/
def execJoinTimeout (l : LaneId) (s : State) : Host.Outcome State Fault Refusal :=
  .next (match (pl s l).joinDead with
    | some t => if alive s && joining s l then atTick s t fun s => laneFault s l 7 0 else s
    | none => s)

/-- PROBATION_END (R210). -/
def execProbationEnd (l : LaneId) (s : State) : Host.Outcome State Fault Refusal :=
  .next (match (pl s l).probation with
    | some t => if alive s then atTick s t fun s => modPl s l fun p => { p with probation := none } else s
    | none => s)

/-- The buffer written next is the one whose CKSEQ is not the later (07 R217, R218). -/
def ckNextIs0 (p : Pair) : Bool := p.ck0.ckseq == 0 || (p.ck1.ckseq != 0 && later 32 p.ck1.ckseq p.ck0.ckseq)

/-- CKSEQ of the next checkpoint. -/
def ckNextSeq (p : Pair) : Nat :=
  let m := if ckNextIs0 p then p.ck1.ckseq else p.ck0.ckseq
  if (m + 1) % 2 ^ 32 = 0 then 1 else (m + 1) % 2 ^ 32

/-- CHECKPOINT_COMMIT (R218): CKSEQ is the commit word. -/
def execCheckpointCommit (l : LaneId) (s : State) : Host.Outcome State Fault Refusal :=
  .next (match s.pair.ckCopy with
    | none => s
    | some c =>
      if alive s && c.lane = l then
        let k : Ckpt := { ckseq := ckNextSeq s.pair, copy := some c, good := true }
        let p := { s.pair with ckCopy := none, ckBase := c.mark }
        { s with pair := if ckNextIs0 s.pair then { p with ck0 := k } else { p with ck1 := k } }
      else s)

/-- The MEAN batch that a cold-started lane processes first: the first whose grid instants are still to come (07 R222; log 13). -/
def coldBatch (s : State) : Nat := now s / 8192 + 1

/-- Each ring's oldest retained item becomes the lane's next (log 13). -/
def basePos (s : State) (l : LaneId) : State :=
  { s with chs := s.chs.map fun c => { c with str := setPos c.str l c.str.base, sus := setPos c.sus l c.sus.base } }

/-- Points that the definitions in force define. -/
def definedPts (s : State) : List Nat := (List.range 32).filter fun mp => mpDefined s mp

/-- A lane starts cold after a double fault (07 R222, 06 R499). -/
def coldStart (s : State) (l : LaneId) : State :=
  let k := coldBatch s
  let a := putProg (basePos s l) l { coldProg s with batch := k }
  let b := if (ckInForce s).isNone then (definedPts s).foldl markPoint a else a
  let c := (definedPts s).foldl (fun t mp => event t .pair 0x2E ([w32 mp, w32 (t.pair.pts.getD mp PPoint.zero).lastEnd] ++ two (8192 * k))) b
  releaseLane { c with pair := { c.pair with ckBase := now c } } l 0

/-- REBUILD_RELEASE (R220, R222). -/
def execRebuildRelease (l : LaneId) (s : State) : Host.Outcome State Fault Refusal :=
  .next (if alive s && (pl s l).st == 7 && !(pl s l).reload && !(lane s l).running then
      let a := match ckInForce s with
        | some c => if (pl s l).cold || posGone s c.pos c.stream then coldStart s l
                    else releaseLane (loadPos (putSeg s l c.prog c.seg) l c.pos c.stream) l 2
        | none => coldStart s l
      let b := modPl a l fun p => { p with lastMark := now s }
      { b with pair := { b.pair with stop := none } }
    else s)

/-- 07 R221: a rebuilt lane has caught up at the end of a pass: PAIR takes the frames of that pass, the lane becomes ACTIVE and the stop is recorded. -/
def caughtUp (s0 : State) (l : LaneId) : State :=
  if (pl s0 l).st ≠ 7 then s0
  else
    let s := (pl s0 l).inbuf.foldl (fun t _ => takeFrame t l) s0
    let st := s.pair.stop.getD { longest := 0, firstSeq := 0, lastSeq := 0 }
    let a := modPl s l fun p => { p with st := 1 }
    let b := { a with pair := { a.pair with active := l, stop := none, maxStop := sat 65535 (max a.pair.maxStop st.longest) } }
    pairEv (event b .pair 0x2D [w32 (laneNo l), w32 st.longest, w32 st.firstSeq, w32 st.lastSeq])

/-- With no point defined, a JOINING lane joins by a pass mark within 1 ms of one of the ACTIVE lane's (07 R214). -/
def joinByMark (s : State) : State :=
  let j := otherLane s.pair.active
  let near := match (pl s s.pair.active).marked, (pl s j).marked with
    | some a, some b => decide (a ≤ b + 4000) && decide (b ≤ a + 4000)
    | _, _ => false
  if joining s j && (definedPts s).isEmpty && near then rejoin s j else s

/-- A pass mark (07 R201, R206, R212, R213, R217). -/
def passMark (s : State) (l : LaneId) : State :=
  let a := reloadSlot (modPl s l fun p => { p with lastMark := now s, marked := some (now s) }) l
  let o := otherLane l
  if (pl a l).st = 1 && (pl a o).st = 4 && a.pair.snap.isNone && a.clk.pfw.isNone then
    let b := copyPos a l o
    { b with pair := { b.pair with snap := some (takeSeg b l) } }
  else if (pl a l).st = 1 && decide (a.pair.ckBase + 800000 ≤ now a) && a.pair.snap.isNone && a.pair.ckCopy.isNone && a.clk.pfw.isNone then
    { a with pair := { a.pair with ckCopy := some (takeSeg a l) } }
  else a

/-- FRM.CKPT (R150, R201): the lane's pass mark. -/
def execFrmCkpt (c : CoreId) (s : State) : Host.Outcome State Fault Refusal :=
  laneInstr s c true fun x s =>
    joinByMark (advance (passMark s (laneOf x)) x)

/-- At the power-fail warning PAIR forwards every held frame for which the BIL input buffer has room, and abandons copies (07 Table 7.8; log 13). -/
def pairFlush (s : State) : State :=
  let a := (List.range 32).foldl (fun t mp => bilFits t (closeHeld t mp)) s
  let b := a.pair.xtab.foldl extClose a
  { b with pair := { b.pair with snap := none, ckCopy := none } }

/-- 07 Table 7.10. -/
def lanesWord (s : State) : Word :=
  let sb := otherLane s.pair.active
  w32 ((pl s .ebb).st + 16 * (pl s .flood).st + 4096 * laneNo s.pair.active + 32768 * b2n ((pl s sb).st == 2 && (pl s sb).probation.isSome))

/-- Words 1 to 7 of PAIR.RDST (Table 7.9). -/
def pairWords (s : State) : List Word :=
  [lanesWord s, w32 s.pair.disagree, w32 s.pair.single, w32 s.pair.replay, w32 (65536 * s.pair.xdrop + s.pair.xdisagree),
    w32 (2 ^ 24 * sat 255 (rst24 s .flood).length + 65536 * sat 255 (rst24 s .ebb).length + s.pair.maxStop), s.pair.lastFault]

/-- PAIR.RDST (R226). -/
def execPairRdst (c : CoreId) (rs : Reg) (s : State) : Host.Outcome State Fault Refusal :=
  unitI s c rs .pair .read 8 (fun _ _ _ => []) fun _ s _ => (s, (pairWords s).mapIdx fun i v => (1 + i, v))

/-- PAIR.CNT (R226). -/
def execPairCnt (c : CoreId) (rs : Reg) (s : State) : Host.Outcome State Fault Refusal :=
  unitI s c rs .pair .read 10 (fun _ _ ws => onIf (resv ws 1 1) stRANGE) fun _ s ws =>
    let p := pl s (if (rw ws 1).getLsbD 0 then .flood else .ebb)
    (s, (List.range 4).map (fun k => (2 + k, w32 (p.ended.getD k 0))) ++ (List.range 4).map fun k => (6 + k, w32 (p.aborted.getD k 0)))

/-- PAIR.CLR (R226). -/
def execPairClr (c : CoreId) (rs : Reg) (s : State) : Host.Outcome State Fault Refusal :=
  unitI s c rs .pair .more 2 (fun _ _ ws => onIf (resv ws 1 3) stRANGE) fun _ s ws =>
    let a := if (rw ws 1).getLsbD 0 then
      { s with pair := { s.pair with disagree := 0, single := 0, replay := 0, xdrop := 0, xdisagree := 0, maxStop := 0 } } else s
    let z : PLane → PLane := fun p => { p with ended := [0, 0, 0, 0], aborted := [0, 0, 0, 0] }
    (if (rw ws 1).getLsbD 1 then modPl (modPl a .ebb z) .flood z else a, [])

/-- PAIR.LANE (R227; log 13 for the states it does not list). -/
def laneOp (s : State) (l : LaneId) : Accepted :=
  let o := (pl s (otherLane l)).st
  match (pl s l).st with
  | 1 => if o = 2 then later1 (laneFault s l 8 0) else donePost s stORDER []
  | 2 => later1 (laneFault s l 8 0)
  | 5 => later1 (laneFault s l 8 0)
  | 3 => if o = 1 then later1 s else donePost s stORDER []
  | 4 => if o = 1 then later1 s else donePost s stORDER []
  | 6 =>
    if o = 1 || o = 2 then
      later1 (modPl s l fun p => { p with st := 3, cause := 8, faults := [], reloadBad := false, reloadAt := now s })
    else donePost s stORDER []
  | _ => donePost s stORDER []

/-- PAIR.LANE (R227): ORDER outside SERVICE. -/
def execPairLane (c : CoreId) (rs : Reg) (s : State) : Host.Outcome State Fault Refusal :=
  unitP s c rs .pair .more 3 2 (fun _ s ws => onIf (resv ws 1 1) stRANGE ++ onIf (s.clk.mode != 4) stORDER) fun _ s ws =>
    laneOp s (if (rw ws 1).getLsbD 0 then .flood else .ebb)

end Sys2Proof.Machine
end

