-- ==== Sys2Proof/Machine/PlsUnit.lean ====
section
/-! DEFINITION. The PLS operations and the pulses (17 R471 to R473). -/

namespace Sys2Proof.Machine

/-- Fields of PLS.CFG (17 Table 17.6). -/
def plsOut (ws : List Word) : Nat := bits (rw ws 1) 2 0
def plsSrc (ws : List Word) : Nat := bits (rw ws 1) 9 8
def plsAbort (ws : List Word) : Bool := (rw ws 1).getLsbD 24

/-- RANGE conditions of Table 17.6; ABORT ignores the other fields. -/
def plsRange (ws : List Word) : Bool :=
  let k := (rw ws 2).toNat
  let n := bits (rw ws 3) 31 8
  resv ws 1 0x019FF307 ||
    (!plsAbort ws && (bits (rw ws 1) 14 12 == 7 || plsSrc ws == 3 || decide (k < 1) || decide (10000000 < k) || bits (rw ws 3) 7 0 == 0 ||
      (if plsSrc ws = 2 then n == 0 else n != 0)))

/-- An output takes a new configuration: its accumulator, backlog and counts start at 0. -/
def plsConfigure (s : State) (ws : List Word) : State :=
  modPulse s (plsOut ws) fun p =>
    let src := plsSrc ws
    { p with
      src := src, mp := bits (rw ws 1) 20 16, basis := (rw ws 1).getLsbD 15, qty := bits (rw ws 1) 14 12, pol := (rw ws 1).getLsbD 23,
      k := (rw ws 2).toNat, count := bits (rw ws 3) 31 8, width := bits (rw ws 3) 7 0, acc := 0, backlog := 0, overrate := false,
      pulses := 0, started := 0, run := src == 2, runDone := p.runDone && src != 2, stopping := false,
      level := p.level && src != 0, lastEnd := if p.level && src = 0 then now s else p.lastEnd }

/-- The end of a run by ABORT: a pulse in progress still completes (R473). -/
def plsStop (s : State) (n : Nat) : State :=
  modPulse s n fun p =>
    { p with acc := 0, backlog := 0, overrate := false, pulses := 0, started := 0, run := p.run && p.level, stopping := p.run && p.level }

/-- PLS.CFG (R471, R473). -/
def plsOp (s : State) (c : CoreId) (rs : Reg) : Host.Outcome State Fault Refusal :=
  unitI s c rs .pls .more 4
    (fun _ s ws => onIf (plsRange ws) stRANGE ++ onIf ((pulse s (plsOut ws)).run && !plsAbort ws) stORDER)
    fun _ s ws => (if plsAbort ws then plsStop s (plsOut ws) else plsConfigure s ws, [])

/-- PLS.CFG with SRC other than 2 (R471). -/
def execPlsCfg (c : CoreId) (rs : Reg) (s : State) : Host.Outcome State Fault Refusal := plsOp s c rs

/-- PLS.CFG with SRC = 2 (R473). -/
def execPlsCfgRun (c : CoreId) (rs : Reg) (s : State) : Host.Outcome State Fault Refusal := plsOp s c rs

/-- PLS.CFG with ABORT = 1 (R473). -/
def execPlsCfgAbort (c : CoreId) (rs : Reg) (s : State) : Host.Outcome State Fault Refusal := plsOp s c rs

/-- Words 1 and 2 of PLS.RDST (17 Tables 17.6, 17.7). -/
def plsWords (s : State) (n : Nat) : List Word :=
  let p := pulse s n
  [w32 (65536 * sat 65535 p.backlog + 2048 * b2n p.level + 1024 * b2n p.overrate + 512 * b2n p.runDone + 256 * b2n p.run + n), w32 p.pulses]

/-- PLS.RDST (R471). -/
def execPlsRdst (c : CoreId) (rs : Reg) (s : State) : Host.Outcome State Fault Refusal :=
  unitI s c rs .pls .read 3 (fun _ _ ws => onIf (resv ws 1 0xFFFF0F07) stRANGE) fun _ s ws =>
    (s, (plsWords s (plsOut ws)).mapIdx fun i v => (1 + i, v))

/-- A pulse waits to start. -/
def pulseWaits (s : State) (n : Nat) : Bool :=
  let p := pulse s n
  (p.src == 1 || (p.src == 2 && p.run && !p.stopping)) && decide (0 < p.backlog) && !p.level

/-- Its instant: the later of the spacing after the last start and the width after the last end (R472). -/
def pulseAt (s : State) (n : Nat) : Nat := let p := pulse s n; (max (p.lastStart + p.spacing) (p.lastEnd + 200 * p.width)).toNat

/-- PULSE_START (R472, R473). -/
def execPulseStart (n : PulseId) (s : State) : Host.Outcome State Fault Refusal :=
  .next (if alive s && s.clk.pfw.isNone && pulseWaits s n.val then
     atTick s (pulseAt s n.val) fun s =>
      modPulse s n.val fun p =>
        let last := p.src == 2 && p.started + 1 == p.count
        { p with
          backlog := p.backlog - 1, level := true, lastStart := now s, pulses := p.pulses + 1, started := p.started + 1,
          overrate := p.overrate && p.backlog != 1, run := p.run && !last, runDone := p.runDone || last }
    else s)

/-- PULSE_END (R472): after its width. -/
def execPulseEnd (n : PulseId) (s : State) : Host.Outcome State Fault Refusal :=
  let p := pulse s n.val
  .next (if alive s && p.level then
     atTick s (p.lastStart + 200 * p.width).toNat fun s =>
      modPulse s n.val fun p => { p with level := false, lastEnd := now s, run := p.run && !p.stopping, stopping := false }
    else s)

/-- The outputs go inactive at a power-fail warning (17 Table 17.12). -/
def plsWarn (s : State) : State := { s with pls := s.pls.map fun p => { p with level := false } }

end Sys2Proof.Machine
end

