-- ==== Sys2Proof/Machine/RlyUnit.lean ====
section
/-! DEFINITION. The RLY operations and the timed steps of the relay sequencer (09 R268 to R285). -/

namespace Sys2Proof.Machine

def relayOf (ws : List Word) : Nat := bits (rw ws 1) 4 0

/-- The relay counts as closed (R270). -/
def countsClosed (s : State) (r : Nat) : Bool :=
  let x := rel s r
  coilOn x || fbA x || fbB x || (match x.frames with | (f, _) :: _ => frVload f | [] => false)

/-- CLRFLT on a relay that does not count as closed (R270): a relay in FAULT returns to OPEN; an open that a fault started ends in OPEN (log 18). -/
def clearFault (s : State) (r : Nat) : State :=
  setRel s r (if (rel s r).st = 7 then 0 else (rel s r).st) fun x => { x with fault := 0, faultDue := 0 }

/-- The pilot period in progress, counted from t0 (13 R380). -/
def pilotNow (s : State) : Nat := match s.clk.t0 with | some t => (s.clk.ref - t) / 24000 | none => 0


/-- RLY.CFG (R270, Table 9.6); CLRFLT clears the fault with it. The period in which the pilot is enabled has no whole take: one that is not whole is discarded (13 R380, log 18). -/
def rlyCfg (s : State) (c : CoreId) (rs : Reg) : Host.Outcome State Fault Refusal :=
  unitI s c rs .rly .more 6
    (fun _ s ws =>
      let g := bits (rw ws 1) 20 16
      onIf (resv ws 1 0x801FFE1F || g == 0 || decide (30 < g) || (List.range 3).any fun i => rw ws (3 + i) != 0) stRANGE ++
        onIf (countsClosed s (relayOf ws)) stORDER)
    fun _ s ws =>
      let w := rw ws 1
      let r := relayOf ws
      let a := modRel s r fun x =>
        { x with grace := bits w 20 16, pilotAcc := bits w 15 12, pilotEn := w.getLsbD 11, polB := w.getLsbD 10, polA := w.getLsbD 9
                 pilotPer := if x.pilotEn then x.pilotPer else pilotNow s, pilotSkip := x.pilotSkip || !bound s (bits w 15 12)
                 openT := bits (rw ws 2) 31 16, closeT := bits (rw ws 2) 15 0
                 pilot := if w.getLsbD 11 then x.pilot else 0, pilotBad := if w.getLsbD 11 then x.pilotBad else 0 }
      (if w.getLsbD 31 then clearFault a r else watchFb a r, [])

def execRlyCfg (c : CoreId) (rs : Reg) (s : State) : Host.Outcome State Fault Refusal := rlyCfg s c rs

def execRlyCfgClrflt (c : CoreId) (rs : Reg) (s : State) : Host.Outcome State Fault Refusal := rlyCfg s c rs

/-- The crossing that a close would aim at (R275). -/
def closeAim (s : State) (r : Nat) : Option Nat := predict s (vRef s r) (now s + 4 * (rel s r).closeT + 40)

/-- The preconditions of Table 9.7 in its order: REASON and whether it holds. -/
def closePre (s : State) (r : Nat) : List (Nat × Bool) :=
  let x := rel s r
  let p := bp s r
  let fs := x.frames.take 2
  let recent : Bool := match fs with | (f, _) :: _ => decide (now s ≤ frEnd s f + 240000) | [] => false
  [(9, x.st != 7), (11, x.st == 0), (1, permit s), (10, !(s.clk.mode == 4 && lcState s == 3)),
    (12, s.clk.mode != 3 || s.clk.redmask.getLsbD r), (2, match p.sess with | some z => z.c.isNone | none => false),
    (3, !p.prepay || decide (p.reserve < p.credit)), (8, chanOf (defWord s r 2) != 0xFF && recent),
    (4, fs.length == 2 && fs.all fun f => !frVload f.1), (5, !fbA x && !fbB x), (6, !x.pilotEn || x.pilot == 3 || x.pilot == 4),
    (7, isDc s r || (closeAim s r).isSome)]
where
  /-- VLOAD of a definition's word 2. -/
  chanOf (w : Word) : Nat := bits w 31 24

/-- The first failing precondition, 0 when all hold (R274). -/
def closeReason (s : State) (r : Nat) : Nat := match (closePre s r).find? fun p => !p.2 with | some p => p.1 | none => 0

/-- The relay is armed (R275). -/
def armClose (s : State) (r : Nat) : State :=
  let d := 4 * (rel s r).closeT + 40
  let z := if isDc s r then none else closeAim s r
  setRel s r 1 fun x =>
    { x with cmd := (match z with | some t => t - d | none => now s), cross := z, cmdDone := false, fbMet := false, vMet := false }

/-- RLY.CLOSE (R274). -/
def execRlyClose (c : CoreId) (rs : Reg) (agree : Bool) (s : State) : Host.Outcome State Fault Refusal :=
  unitP s c rs .rly .more 1 2 (fun _ _ ws => onIf (resv ws 1 0xFF1F) stRANGE) fun _ s ws =>
    let r := relayOf ws
    let n := closeReason s r
    let w (k : Nat) : List (Nat × Word) := [(1, w32 (r + 256 * k))]
    if !agree then donePost (notify9 s 6 4) stFAULT (w 0)
    else if n ≠ 0 then donePost s stORDER (w n)
    else { st := armClose s r, outcome := none, results := w 0 }

/-- RLY.OPEN (R277, R278): an open is never refused; on a relay that is open already nothing is left to do (log 18). -/
def execRlyOpen (c : CoreId) (rs : Reg) (s : State) : Host.Outcome State Fault Refusal :=
  unitP s c rs .rly .more 2 2 (fun _ _ ws => onIf (resv ws 1 0x11F) stRANGE) fun _ s ws =>
    let r := relayOf ws
    if (rel s r).st = 0 ∨ (rel s r).st = 7 then donePost s 0 [] else later1 (startOpen s r 1 ((rw ws 1).getLsbD 8))

/-- RLY.GRANT (R282). -/
def execRlyGrant (c : CoreId) (rs : Reg) (s : State) : Host.Outcome State Fault Refusal :=
  unitI s c rs .rly .more 2
    (fun _ s ws => onIf (resv ws 1 0x701) stRANGE ++ onIf ((rw ws 1).getLsbD 0 && decide (5 ≤ lcState s)) stORDER) fun _ s ws =>
    let g := (rw ws 1).getLsbD 0
    let a := { s with grant := g, hl := { s.hl with grantLost := s.hl.grantLost && !g } }
    (a, [(1, w32 (holds a + b2n g))])

/-- Whole seconds of grace left. -/
def graceLeft (s : State) (x : Relay) : Nat := match x.graceAt with | some t => (t - now s) / 4000000 | none => 0

/-- Words 2 and 3 of RLY.RDST: Table 9.12 and the closes. -/
def rlyStatus (s : State) (r : Nat) : List Word :=
  let x := rel s r
  [w32 (x.fault * 2 ^ 24 + graceLeft s x * 65536 + x.pilot * 8192 + 4096 * b2n (permit s) + 2048 * b2n (!coilOn x) + 1024 * b2n (x.reduce != 0) +
      512 * b2n (fbB x) + 256 * b2n (fbA x) + 128 * b2n (coilOn x) + 16 * x.trigger + x.st), w32 x.closes]

/-- RLY.RDST (R284). -/
def execRlyRdst (c : CoreId) (rs : Reg) (s : State) : Host.Outcome State Fault Refusal :=
  unitI s c rs .rly .read 4 (fun _ _ ws => onIf (resv ws 1 0x1F) stRANGE) fun _ s ws => (s, (rlyStatus s (relayOf ws)).mapIdx fun i v => (2 + i, v))

/-- GRACE_EXPIRY (R268). -/
def execGraceExpiry (r : RelayId) (s : State) : Host.Outcome State Fault Refusal :=
  .next (match (rel s r.val).graceAt with
    | some t => if alive s then atTick s t fun s => startOpen (modRel s r.val fun x => { x with graceAt := none }) r.val 2 false else s
    | none => s)

/-- RELAY_COMMAND_INSTANT (R275, R278): none is reached after a power-fail warning (Table 9.11). -/
def execRelayCommandInstant (r : RelayId) (s : State) : Host.Outcome State Fault Refusal :=
  .next (
    let x := rel s r.val
    if alive s && s.clk.pfw.isNone && (x.st == 1 || x.st == 5) && !x.cmdDone then
      atTick s x.cmd fun s => modRel s r.val fun y => { y with cmdDone := true }
    else s)

/-- COIL_CHANGE (R275, R278): 40 MOD cycles after the command. The end of an open ends a grace that began during it (R268). -/
def execCoilChange (r : RelayId) (s : State) : Host.Outcome State Fault Refusal :=
  .next (
    let x := rel s r.val
    if alive s && x.cmdDone && (x.st == 1 || x.st == 5) then
     atTick s (x.cmd + 40) fun s =>
      (if x.st = 1 then setRel (coilChange s r.val true) r.val 2 fun y => { y with cmdDone := false, fbMet := fbA y && fbB y, vMet := false }
       else setRel (coilChange s r.val false) r.val 6 fun y => 
         { y with cmdDone := false, fbMet := !fbA y && !fbB y, vMet := false, yieldDue := true, graceAt := none })
    else s)

/-- A filtered level has changed: confirmations, and the watch of Table 9.9. -/
def feedback (s : State) (r : Nat) : State :=
  let x := rel s r
  if x.st = 2 && fbA x && fbB x && now s < x.m + 240000 then closeJudge (modRel s r fun y => { y with fbMet := true }) r
  else if x.st = 6 && !fbA x && !fbB x && now s < x.m + 400000 then openJudge (modRel s r fun y => { y with fbMet := true }) r
  else watchFb s r

/-- FEEDBACK_CHANGE (R269, R276, R279). -/
def execFeedbackChange (r : RelayId) (inputB level : Bool) (s : State) : Host.Outcome State Fault Refusal :=
  .next (if alive s then feedback (modRel s r.val fun x => if inputB then { x with b := level } else { x with a := level }) r.val else s)

/-- CLOSE_DEADLINE (R276): the feedback condition was not met. -/
def execCloseDeadline (r : RelayId) (s : State) : Host.Outcome State Fault Refusal :=
  .next (
    let x := rel s r.val
    if alive s && x.st == 2 && !x.fbMet then atTick s (x.m + 240000) fun s => closeFail s r.val 1 else s)

/-- OPEN_DEADLINE (R279): judged once the load side is known to be dead. -/
def execOpenDeadline (r : RelayId) (s : State) : Host.Outcome State Fault Refusal := 
  .next (if alive s && (rel s r.val).st == 6 then atTick s ((rel s r.val).m + 400000) fun s => openJudge s r.val else s)

/-- FEEDBACK_STEADY_TIMEOUT (R281): FB_STEADY or FB_OPEN after 10 ms. -/
def execFeedbackSteadyTimeout (r : RelayId) (s : State) : Host.Outcome State Fault Refusal :=
  .next (match (rel s r.val).badSince with
    | some t =>
      if alive s then
       atTick s (t + 40000) fun s =>
        (if (rel s r.val).st = 0 then rlyEvent (setRel s r.val 7 fun x => { x with fault := 9 }) 0x3D r.val [9] else faultOpen s r.val 7 0x3D [7])
      else s
    | none => s)

end Sys2Proof.Machine
end

