-- ==== Sys2Proof/Machine/KeyUnit.lean ====
section
/-! DEFINITION. The KEY operations, the lifecycle moves and KEY's own timed events (11). -/

namespace Sys2Proof.Machine

/-- A buffer of a KEY operation (11 R330): a multiple of 4, wholly in data memory that the world may load and store. -/
def bufOk (s : State) (w : World) (a : Word) (n : Nat) : Bool :=
  a.toNat % 4 == 0 &&
  (List.range n).all fun i =>
    decide (byteAt a i < 0x80000000) && grant s (.world w) (byteAt a i) false == .ok && grant s (.world w) (byteAt a i) true == .ok

def bufBad (s : State) (w : World) (a : Word) (n : Nat) : List Nat := onIf (!bufOk s w a n) stRANGE

/-- Write an output buffer of a live operation (05 R158). -/
def bufOut (s : State) (w : World) (live : Bool) (a : Word) (b : Bytes) : State := if live then dataWrite s (.world w) a b else s

def rec (s : State) (i : Nat) : SlotRec := s.key.recs.getD i default
def cached (s : State) (i : Nat) : Option Cached := s.key.cache.getD i none
def pendKey (s : State) (i : Nat) : Option Bytes := s.key.pendKeys.getD i none

def modRec (s : State) (i : Nat) (f : SlotRec → SlotRec) : State := { s with key := { s.key with recs := s.key.recs.modify i f } }
def setCached (s : State) (i : Nat) (c : Option Cached) : State := { s with key := { s.key with cache := s.key.cache.set i c } }
def setPendKey (s : State) (i : Nat) (c : Option Bytes) : State := { s with key := { s.key with pendKeys := s.key.pendKeys.set i c } }

/-- A slot is loaded; the hardware slots are once they are derived (11 R324). -/
def slotLoaded (s : State) (i : Nat) : Bool := if i < 4 then (s.key.ks.getD i none).isSome else (cached s i).isSome

/-- The world's MASTERS and WORLDS bits of an attribute word (11 Table 11.9). -/
def attrWorld (a : Word) (w : World) : Bool :=
  match w with
  | .legal => a.getLsbD 2 && a.getLsbD 8
  | .opn => a.getLsbD 3 && a.getLsbD 9

/-- 11 R338: after ERASE, KEY serves only what Table 11.13 lists. -/
def erased (s : State) : Bool := s.key.scuttle != 0

/-- 11 R326, R327: may a world use slot `i` under attributes `a` for usage bit `u`; ORDER when it is not loaded, STALE for an old copy. -/
def slotSt (s : State) (w : World) (i : Nat) (a : Word) (u : Nat) : List Nat :=
  let mine := attrWorld a w
  let ok := decide (4 ≤ i) && mine && attrLcs a (lcState s) && a.getLsbD u
  onIf (w = .opn && !mine) stDENIED ++ onIf (slotLoaded s i && !ok) stDENIED ++ onIf (!slotLoaded s i) stORDER ++
    onIf (match cached s i with | some c => c.gen != (rec s i).gen | none => false) stSTALE

def slotOf (ws : List Word) : Nat := bits (rw ws 1) 5 0

/-- Usage bits. -/
def uWRAP : Nat := 23
def uDERIVE : Nat := 22
def uENCRYPT : Nat := 21
def uMAC : Nat := 20
def uSIGN : Nat := 19

/-- The type a use needs: a private key to sign, a public part to verify, a MAC key, a cipher key (log 14). -/
def typeDenied (s : State) (i : Nat) (ok : Nat → Bool) : List Nat := onIf (slotLoaded s i && !ok (attrType (recAttr (rec s i)))) stDENIED

/-- Bytes that a message field names: 32 with PRE, otherwise LEN. -/
def msgLen (ws : List Word) : Nat := if (rw ws 3).getLsbD 16 then 32 else bits (rw ws 3) 15 0

/-- Checks that SIGN, VERIFY and MAC share (11 Table 11.15). -/
def signChk (s : State) (w : World) (ws : List Word) (u outLen : Nat) : List Nat :=
  slotSt s w (slotOf ws) (recAttr (rec s (slotOf ws))) u ++
    onIf (resv ws 1 0x3F || resv ws 3 0x1FFFF || msgLen ws == 0 || decide (4096 < msgLen ws)) stRANGE ++
    bufBad s w (rw ws 2) (min 4097 (msgLen ws)) ++ bufBad s w (rw ws 4) outLen

/-- KEY.SIGN (R330, R342). -/
def execKeySign (c : CoreId) (rs : Reg) (s : State) : Host.Outcome State Fault Refusal :=
  unitP s c rs .key .more 0 6
    (fun x s ws =>
      onIf (erased s) stDENIED ++ signChk s (worldOfCtx x) ws uSIGN 64 ++ typeDenied s (slotOf ws) (· == 3) ++
        onIf (rw ws 5 != 0) stRANGE ++ onIf (!s.key.drbgOk) stFAULT)
    fun _ s _ => later1 s

/-- KEY.VERIFY (R330, R338, R342). -/
def execKeyVerify (c : CoreId) (rs : Reg) (s : State) : Host.Outcome State Fault Refusal :=
  unitP s c rs .key .more 1 6
    (fun x s ws => signChk s (worldOfCtx x) ws uSIGN 64 ++ onIf (resv ws 5 1) stRANGE ++ typeDenied s (slotOf ws) fun t => t == 3 || t == 4) fun _ s _ => later1 s

/-- KEY.MAC (R330, R342): PRE must be 0. -/
def execKeyMac (c : CoreId) (rs : Reg) (s : State) : Host.Outcome State Fault Refusal :=
  unitP s c rs .key .more 2 6
    (fun x s ws =>
      onIf (erased s) stDENIED ++ signChk s (worldOfCtx x) ws uMAC 32 ++ typeDenied s (slotOf ws) (· == 2) ++
        onIf ((rw ws 3).getLsbD 16 || rw ws 5 != 0) stRANGE)
    fun _ s _ => later1 s

/-- KEY.GCM, in both directions (R342). -/
def keyGcm (s : State) (c : CoreId) (rs : Reg) : Host.Outcome State Fault Refusal :=
  unitP s c rs .key .more 3 8
    (fun x s ws =>
      let w := worldOfCtx x
      let al := bits (rw ws 4) 31 16
      let n := bits (rw ws 4) 15 0
      onIf (erased s) stDENIED ++ slotSt s w (slotOf ws) (recAttr (rec s (slotOf ws))) uENCRYPT ++ typeDenied s (slotOf ws) (· == 1) ++
        onIf (resv ws 1 0x13F || decide (4096 < al) || decide (4096 < n)) stRANGE ++ bufBad s w (rw ws 2) 12 ++
        bufBad s w (rw ws 3) (min 4097 al) ++ bufBad s w (rw ws 5) (min 4097 n) ++ bufBad s w (rw ws 6) (min 4097 n) ++ bufBad s w (rw ws 7) 16)
    fun _ s _ => later1 s

/-- KEY.GCM with DIR = 0 (R342). -/
def execKeyGcmEncrypt (c : CoreId) (rs : Reg) (s : State) : Host.Outcome State Fault Refusal := keyGcm s c rs

/-- KEY.GCM with DIR = 1 (R342). -/
def execKeyGcmDecrypt (c : CoreId) (rs : Reg) (s : State) : Host.Outcome State Fault Refusal := keyGcm s c rs

/-- Child attributes within the parent's (11 R333). -/
def attrSub (child parent : Word) : Bool := ((child &&& ~~~parent) &&& 0x00F8FFFF#32) == 0

/-- A valid attribute word (11 R331): a TYPE, some usage, suited to it, no reserved bit (log 14). -/
def attrValid (a : Word) : Bool :=
  let t := attrType a
  let u := bits a 23 19
  decide (1 ≤ t) && decide (t ≤ 4) && u != 0 && (a &&& 0xF0070000#32) == 0 && (!a.getLsbD uENCRYPT || t == 1) && (!a.getLsbD uMAC || t == 2) &&
    (!a.getLsbD uSIGN || t == 3 || t == 4) && ((!a.getLsbD uWRAP && !a.getLsbD uDERIVE) || t != 4)

/-- A slot is free when its record is free and it is not loaded (11 R329). -/
def slotFree (s : State) (i : Nat) : Bool := decide (4 ≤ i) && (rec s i).st == 0 && !slotLoaded s i && (pendKey s i).isNone

def lowestFree (s : State) : Option Nat := (List.range 64).find? fun i => slotFree s i

/-- KEY.DERIVE (R333). -/
def execKeyDerive (c : CoreId) (rs : Reg) (s : State) : Host.Outcome State Fault Refusal :=
  unitP s c rs .key .more 4 5
    (fun x s ws =>
      let w := worldOfCtx x
      let p := slotOf ws
      let any := (rw ws 1).getLsbD 14
      let n := bits (rw ws 3) 6 0
      onIf (erased s) stDENIED ++ slotSt s w p (recAttr (rec s p)) uDERIVE ++
        onIf (resv ws 1 0x7F3F || resv ws 3 0xFF00007F || decide (64 < n) || decide (p < 4) || !attrValid (rw ws 4) || attrType (rw ws 4) == 4 ||
          (slotLoaded s p && !attrSub (rw ws 4) (recAttr (rec s p))) || (!any && !slotFree s (bits (rw ws 1) 13 8))) stRANGE ++
        bufBad s w (rw ws 2) (min 65 n) ++ onIf (any && (lowestFree s).isNone) stFULL)
    fun _ s _ => later1 s

/-- KEY.WRAP (R328, R331): the pending key where there is one, otherwise the loaded key. -/
def wrapAttr (r : SlotRec) (pend : Bool) : Word := if pend then (if r.bank then r.attr0 else r.attr1) else recAttr r

/-- KEY.WRAP (R328). -/
def execKeyWrap (c : CoreId) (rs : Reg) (s : State) : Host.Outcome State Fault Refusal :=
  unitP s c rs .key .more 5 5
    (fun x s ws =>
      let w := worldOfCtx x
      let i := slotOf ws
      let p := (pendKey s i).isSome
      let a := wrapAttr (rec s i) p
      onIf (erased s) stDENIED ++ onIf (resvs ws [(1, 0x3F), (3, 0xFFFFFF)] || decide (i < 4) || rw ws 4 != 0) stRANGE ++ bufBad s w (rw ws 2) 72 ++
        (if p then onIf (!attrWorld a w || !attrLcs a (lcState s) || !a.getLsbD uWRAP) stDENIED else slotSt s w i a uWRAP))
    fun _ s _ => later1 s

/-- WORLD byte of a blob (11 Table 11.10). -/
def blobWorld (w : World) : Nat := match w with | .legal => 1 | .opn => 2

/-- KEY.UNWRAP (R329). -/
def execKeyUnwrap (c : CoreId) (rs : Reg) (s : State) : Host.Outcome State Fault Refusal :=
  unitP s c rs .key .more 6 5
    (fun x s ws =>
      let w := worldOfCtx x
      let a := rw ws 2
      let b := dataRead s (.world w) a 16
      let sl := fld 1 1 b
      let at' := w32 (fld 8 4 b)
      if bufOk s w a 72 then
        onIf (erased s || fld 2 1 b != blobWorld w || (w = .opn && !attrWorld at' .opn)) stDENIED ++
          onIf (fld 0 1 b != 1 || fld 7 1 b != 0 || fld 13 3 b != 0 || (at' &&& 0xF0070000#32) != 0 ||
            !(sl == 0xFF || (decide (4 ≤ sl) && decide (sl < 64))) || (decide (64 ≤ fld 12 1 b) && fld 12 1 b != 0x7F) || resvs ws [(1, 0x3F), (3, 0xFFFFFF)] || rw ws 4 != 0) stRANGE
      else onIf (erased s) stDENIED ++ [stRANGE])
    fun _ s _ => later1 s

/-- Slot links form a chain of live records (11 R329). -/
def chainLive (s : State) : Nat → Nat → Bool
  | 0, _ => false
  | n + 1, i => if i = 0x7F then true else decide (i < 64) && (rec s i).st == 1 && chainLive s n (recLink (rec s i))

/-- The slots that hang below `i`, loaded, with `i` itself. -/
def family (s : State) (i : Nat) : List Nat := (List.range 64).filter fun j => j == i || ((cached s j).isSome && descends s.key.recs 64 i j)

/-- An operation in flight that uses one of the slots. -/
def usesSlot (js : List Nat) (p : Posted) : Bool := p.unit == .key && decide (p.op ≤ 5) && js.contains (slotOf p.words)

/-- KEY.WRITE (R331): the first phase of an update. -/
def execKeyWrite (c : CoreId) (rs : Reg) (s : State) : Host.Outcome State Fault Refusal :=
  unitP s c rs .key .more 7 12
    (fun x s ws =>
      let p := bits (rw ws 1) 14 8
      onIf (erased s || worldOfCtx x = .opn) stDENIED ++
        onIf (resvs ws [(1, 0x1007F3F), (11, 0xFFFFFF)] || decide (slotOf ws < 4) || decide (p < 4) || (decide (64 ≤ p) && p != 0x7F) || !attrValid (rw ws 2)) stRANGE ++
        onIf (rec s (slotOf ws)).pend stORDER)
    fun _ s ws =>
      let i := slotOf ws
      let a := rw ws 2
      let m := wordsBytes ((List.range 8).map fun j => rw ws (3 + j))
      let pub := if attrType a = 3 then fit 64 (p256Pub m) else if attrType a = 4 then fit 64 (p256Decompress m ((rw ws 1).getLsbD 24))
        else List.replicate 64 0
      let l := bits (rw ws 1) 14 8
      let g := (max (rec s i).gen (rec s i).pendGen + 1) % 2 ^ 24
      let t := modRec s i fun r =>
        if r.bank then { r with attr0 := a, link0 := l, pub0 := pub, pend := true, pendGen := g }
        else { r with attr1 := a, link1 := l, pub1 := pub, pend := true, pendGen := g }
      donePost (setPendKey t i (some (if attrType a = 4 then pub else m))) 0 [(11, w32 g)]

/-- KEY.COMMIT (R331): the single-word commit; the old generation ends as on an invalidation. -/
def keyCommit (s : State) (i : Nat) : State :=
  let a := settleAll s (usesSlot (family s i)) stREVOKED
  let b := (purgeTree a i false).1
  let g := (rec s i).pendGen
  let c := modRec b i fun r => { r with gen := g, bank := !r.bank, st := 1, pend := false, vol := false }
  let d := setPendKey (setCached c i ((pendKey s i).map fun k => { key := k, gen := g })) i none
  event d .key 0x4A [noInst, w32 i, w32 g, recAttr (rec d i)]

/-- KEY.COMMIT (R331): STALE when EXPGEN differs or no update is pending. -/
def execKeyCommit (c : CoreId) (rs : Reg) (s : State) : Host.Outcome State Fault Refusal :=
  unitP s c rs .key .more 8 3
    (fun x s ws =>
      onIf (erased s || worldOfCtx x = .opn) stDENIED ++ onIf (resv ws 1 0x3F || resv ws 2 0xFFFFFF) stRANGE ++
        onIf (!(rec s (slotOf ws)).pend || (rw ws 2).toNat != (rec s (slotOf ws)).pendGen) stSTALE)
    fun _ s ws => donePost (keyCommit s (slotOf ws)) 0 []

/-- KEY.INVAL (R334): word 0x00 with STATE invalidated, operations in flight REVOKED, the slot and its descendants purged. -/
def keyInval (s : State) (i : Nat) : State × Nat :=
  let a := settleAll s (usesSlot (family s i)) stREVOKED
  let p := purgeTree (modRec a i fun r => { r with st := 2 }) i true
  (event (setPendKey p.1 i none) .key 0x4B [noInst, w32 i, w32 p.2], p.2)

/-- KEY.INVAL (R324, R327, R334). -/
def execKeyInval (c : CoreId) (rs : Reg) (s : State) : Host.Outcome State Fault Refusal :=
  unitP s c rs .key .more 9 3
    (fun x s ws =>
      onIf (erased s || (worldOfCtx x = .opn && !attrWorld (recAttr (rec s (slotOf ws))) .opn)) stDENIED ++
        onIf (resvs ws [(1, 0x3F), (2, 0x7F)] || decide (slotOf ws < 4)) stRANGE)
    fun _ s ws =>
      let r := keyInval s (slotOf ws)
      donePost r.1 0 [(2, w32 r.2)]

/-- The role that may sign a move from state `f` to state `t` (11 Table 11.2). -/
def moveRole (f t role : Nat) : Bool :=
  if t = 6 then f != 6 && role == 4
  else if t = 5 then decide (f ≤ 4) && (role == 4 || role == 2)
  else if f = 1 then t == 2 && role == 5
  else if f = 2 then t == 3 && role == 4
  else if f = 3 then t == 4 && role == 4
  else f == 4 && t == 3 && role == 4

/-- The lowest unblown bit of LCFUSE [7:0], which the next move blows (11 R318). -/
def nextFuse (s : State) : Option Nat := (List.range 8).find? fun i => !s.key.shadow.testBit i

/-- Hardware conditions of a move (11 Table 11.2, R318). -/
def moveCond (s : State) (t : Nat) : Bool :=
  let f := lcState s
  if t = 5 then true
  else if t = 6 then !coilAny s
  else !(s.key.test && s.clk.dbg) &&
    (if f = 1 then rootOk s
     else if f = 2 then (s.key.ks.take 3).all (·.isSome) && !coilAny s
     else if f = 3 then (match nextFuse s with | some i => i % 2 == 0 | none => false) && !coilAny s
     else (nextFuse s).isSome && !coilAny s)

/-- The slot that the access table header names for a role (10 Table 10.15). -/
def roleSlot (s : State) (role : Nat) : Nat :=
  match role with
  | 5 => s.obj.keySlots.getD 0 0xFF
  | 4 => s.obj.keySlots.getD 1 0xFF
  | 2 => s.obj.keySlots.getD 2 0xFF
  | 3 => s.obj.keySlots.getD 3 0xFF
  | 1 => s.obj.keySlots.getD 4 0xFF
  | _ => 0xFF

/-- The public key that proves a role: loaded, usable in the current state, with SIGN usage (11 R319, R326). -/
def rolePub (s : State) (role : Nat) : Option Bytes :=
  let i := roleSlot s role
  if 64 ≤ i then none
  else
    let a := recAttr (rec s i)
    match cached s i with
    | some c => if a.getLsbD uSIGN && attrLcs a (lcState s) && c.gen == (rec s i).gen then some (recPub (rec s i)) else none
    | none => none

/-- A token is one of the part's permitted moves (11 R319). -/
def tokenOk (s : State) (t : Bytes) : Bool :=
  let tgt := fld 0 1 t
  let role := fld 1 1 t
  moveRole (lcState s) tgt role && moveCond s tgt && fld 2 2 t == 0 && fld 4 4 t == s.key.shadow && slice 8 8 t == uidBytes s &&
    (match rolePub s role with | some k => ecdsaVerify k (sha256 (t.take 16)) (slice 16 64 t) | none => false)

/-- Purge what the new state forbids; with a change of domain every secret key goes and KS0 to KS3 are derived anew (11 R320). -/
def movePurge (s : State) (dom : Bool) : State :=
  let st := lcState s
  let keep : Nat → Bool := fun i => let a := recAttr (rec s i); attrLcs a st && (!dom || attrType a == 4)
  let ca := s.key.cache.mapIdx fun i c => if keep i then c else none
  let pk := if dom then List.replicate 64 none else s.key.pendKeys
  let t := { s with key := { s.key with cache := ca, pendKeys := pk } }
  if dom then deriveKs t else t

/-- Steps 4 to 7 of a move (11 R320). -/
def moveRest (s : State) (dom : Bool) : State :=
  let a := movePurge { s with key := { s.key with lastLc := s.key.shadow } } dom
  let b := endAssocs a
  if dom then ldgTouch s (ldgCheckpoint b) else b

/-- A move to PROVISIONED, SEALED or REPAIR (11 R320). -/
def moveUp (s : State) (role : Nat) : State :=
  match nextFuse s with
  | none => s
  | some i =>
    let old := lcState s
    let a := { s with fuse := { s.fuse with lc := s.fuse.lc.set i 3 } }
    let b := { a with key := { a.key with shadow := lcFuse a.fuse } }
    let dom := lcDomain (lcState b) != lcDomain old
    let pub := fit 64 (p256Pub (lsigKey s (lcDomain (lcState b))))
    unitEv (ldgTouch s (moveRest (lifeEvent b false old (lcState b) role pub) dom)) .legal .key

/-- A move to RETIRED: ERASE first, then RET (11 R318, R336). -/
def moveRetire (s : State) (role : Nat) : State :=
  let a := eraseKeys s 4 noInst role
  let b := { a with fuse := { a.fuse with lc := a.fuse.lc.set 9 3 } }
  let c := { b with key := { b.key with shadow := lcFuse b.fuse, lastLc := lcFuse b.fuse } }
  unitEv (endAssocs (lifeEvent (deriveKs c) false (lcState a) 6 role (List.replicate 64 0))) .legal .key

/-- Carry out a decided move. -/
def moveDo (s : State) (t : Bytes) : State :=
  match fld 0 1 t with
  | 5 => eraseKeys s 3 noInst (fld 1 1 t)
  | 6 => moveRetire s (fld 1 1 t)
  | _ => moveUp s (fld 1 1 t)

/-- A token to TAMPERED on an erased part asks for nothing further (11 R338). -/
def tokenIdle (s : State) (t : Bytes) : Bool := erased s && fld 0 1 t == 5

/-- The whole of KEY.LIFE on a token: status, and the state after it (11 R319; 12 Table 12.5 for the decision). -/
def lifeMove (s : State) (t : Bytes) (agree : Bool) : State × Nat :=
  if tokenIdle s t then (s, 0)
  else if !tokenOk s t then (s, stORDER)
  else if agree then (moveDo s t, 0) else (notify9 s 6 2, stFAULT)

/-- KEY.LIFE (R319, R320): ORDER for a move that is not permitted, FAULT when the two computations disagree. -/
def execKeyLife (c : CoreId) (rs : Reg) (agree : Bool) (s : State) : Host.Outcome State Fault Refusal :=
  unitP s c rs .key .more 10 3
    (fun x s ws =>
      let t := dataRead s x (rw ws 1) 80
      onIf (worldOfCtx x = .opn) stDENIED ++
        (if bufOk s .legal (rw ws 1) 80 then onIf (!tokenIdle s t && !tokenOk s t) stORDER else [stRANGE]))
    fun x s ws =>
      let r := lifeMove s (dataRead s x (rw ws 1) 80) agree
      donePost r.1 r.2 (if r.2 = 0 then [(2, w32 r.1.key.shadow)] else [])

/-- KEY.ERASE (R336, R338): by HL-LEGAL, taken twice. -/
def execKeyErase (c : CoreId) (rs : Reg) (agree : Bool) (s : State) : Host.Outcome State Fault Refusal :=
  unitP s c rs .key .more 15 2 (fun x _ ws => onIf (worldOfCtx x = .opn) stDENIED ++ onIf (rw ws 1 != 0) stRANGE)
    fun _ s _ =>
      if erased s then donePost s 0 []
      else if agree then donePost (eraseKeys s 2 noInst 0xFF) 0 [] else donePost (notify9 s 6 1) stFAULT []

/-- The DRBG reseeds: after 65,536 requests or 60 s (11 R341). -/
def reseedDue (s : State) : Bool := s.key.drbgOk && (decide (65536 ≤ s.key.requests) || decide (s.key.reseedAt + 1440000000 ≤ s.clk.ref))

/-- One request to the DRBG. -/
def drbgUsed (s : State) : State := { s.used with key := { s.key with requests := s.key.requests + 1 } }

/-- KEY.RAND (R341): BUSY during reseeding, FAULT while the DRBG is stopped. -/
def execKeyRand (c : CoreId) (rs : Reg) (s : State) : Host.Outcome State Fault Refusal :=
  unitI s c rs .key .more 4
    (fun _ s ws => onIf (rw ws 1 != 0) stRANGE ++ onIf (reseedDue s) stBUSY ++ onIf (!s.key.drbgOk) stFAULT)
    fun _ s _ => (drbgUsed s, [(2, w32 (fld 0 4 (drbg s 8))), (3, w32 (fld 4 4 (drbg s 8)))])

/-- KEY.MASK (R330): 125 to 8000 µs. -/
def execKeyMask (c : CoreId) (rs : Reg) (s : State) : Host.Outcome State Fault Refusal :=
  unitI s c rs .key .more 2
    (fun x _ ws =>
      onIf (worldOfCtx x = .opn) stDENIED ++
        onIf (resv ws 1 0x1FFF || decide ((rw ws 1).toNat < 125) || decide (8000 < (rw ws 1).toNat)) stRANGE)
    fun _ s ws => ({ s with key := { s.key with period := bits (rw ws 1) 12 0 } }, [])

/-- 11 Table 11.16. -/
def keyStatus (s : State) : Word :=
  w32 (lcState s + 8 * b2n s.key.test + 16 * b2n (erased s) + 32 * b2n (erased s && !s.key.shadow.testBit 8) +
    64 * b2n ((s.key.ks.take 3).all (·.isSome)) + 256 * b2n s.key.drbgOk + 512 * b2n (reseedDue s) + 1024 * b2n s.key.entropyFail +
    2048 * b2n (s.key.recs.any (·.pend)) + 4096 * b2n (rootOk s))

def loadedMask (s : State) (lo : Nat) : Word := maskOf ((List.range 32).map fun i => slotLoaded s (lo + i))

/-- KEY.RDST (R342). -/
def execKeyRdst (c : CoreId) (rs : Reg) (s : State) : Host.Outcome State Fault Refusal :=
  unitI s c rs .key .more 6 (fun _ _ ws => onIf (resv ws 5 0xFFFF1FFF) stRANGE) fun _ s _ =>
    (s, [(1, keyStatus s), (2, w32 s.key.shadow), (3, loadedMask s 0), (4, loadedMask s 32), (5, w32 (65536 * s.key.erases + s.key.period))])

/-- A MAC, signature or verification runs (11 R330). -/
def runSign (s : State) (q : Posted) : State × Nat × List (Nat × Word) :=
  let x := Ctx.world q.world
  let i := slotOf q.words
  let m := dataRead s x (rw q.words 2) (msgLen q.words)
  let d := if (rw q.words 3).getLsbD 16 then m else sha256 m
  match cached s i with
  | none => (s, stREVOKED, [])
  | some k =>
    if q.op = 0 then (bufOut s.used q.world q.live (rw q.words 4) (fit 64 (ecdsaSign k.key d s.free)), 0, [])
    else if q.op = 1 then
      (s, 0, [(5, setIf (ecdsaVerify (recPub (rec s i)) d (dataRead s x (rw q.words 4) 64)))])
    else (bufOut s q.world q.live (rw q.words 4) (hmac k.key m), 0, [])

/-- AES-256-GCM runs (11 Table 11.15). -/
def runGcm (s : State) (q : Posted) : State × Nat × List (Nat × Word) :=
  let x := Ctx.world q.world
  let al := bits (rw q.words 4) 31 16
  let n := bits (rw q.words 4) 15 0
  let iv := dataRead s x (rw q.words 2) 12
  let aad := dataRead s x (rw q.words 3) al
  let inp := dataRead s x (rw q.words 5) n
  match cached s (slotOf q.words) with
  | none => (s, stREVOKED, [])
  | some k =>
    let out := fit n (gcmCrypt k.key iv inp)
    if (rw q.words 1).getLsbD 8 then
      if fit 16 (gcmTag k.key iv aad inp) = dataRead s x (rw q.words 7) 16 then (bufOut s q.world q.live (rw q.words 6) out, 0, [])
      else (s, stFAULT, [])
    else (bufOut (bufOut s q.world q.live (rw q.words 6) out) q.world q.live (rw q.words 7) (fit 16 (gcmTag k.key iv aad out)), 0, [])

/-- A volatile child enters a free slot: live, VOL, LINK = parent (11 R329, R333). -/
def loadChild (s : State) (i parent : Nat) (a : Word) (key : Bytes) : State :=
  let pub := if attrType a = 3 then fit 64 (p256Pub key) else List.replicate 64 0
  let t := modRec s i fun _ => { SlotRec.zero with st := 1, vol := true, attr0 := a, link0 := parent, pub0 := pub }
  setCached t i (some { key := key, gen := 0 })

/-- KEY.DERIVE runs (11 R322, R323, R333). -/
def runDerive (s : State) (q : Posted) : State × Nat × List (Nat × Word) :=
  let p := slotOf q.words
  let a := rw q.words 4
  let n := bits (rw q.words 3) 6 0
  let tgt := if (rw q.words 1).getLsbD 14 then lowestFree s
    else if slotFree s (bits (rw q.words 1) 13 8) then some (bits (rw q.words 1) 13 8) else none
  match cached s p, tgt with
  | none, _ => (s, stREVOKED, [])
  | some _, none => (s, if (rw q.words 1).getLsbD 14 then stFULL else stRANGE, [])
  | some k, some i =>
    let ctx := le 4 a.toNat ++ dataRead s (.world q.world) (rw q.words 2) n
    let p256 := attrType a == 3
    let raw := kdf k.key 0x20 (blobWorld q.world) (lcDomain (lcState s)) ctx (if p256 then 320 else 256)
    (loadChild s i p a (if p256 then fit 32 (p256Scalar raw) else raw), 0,
      [(3, w32 (i * 2 ^ 24 + n))])

/-- KEY.WRAP runs (11 R328). -/
def runWrap (s : State) (q : Posted) : State × Nat × List (Nat × Word) :=
  let i := slotOf q.words
  let r := rec s i
  let p := pendKey s i
  let par := if p.isSome then (if r.bank then r.link0 else r.link1) else recLink r
  let gen := if r.vol then (rec s par).gen else if p.isSome then r.pendGen else r.gen
  let key := match p with | some k => some k | none => (cached s i).map (·.key)
  match key with
  | none => (s, stREVOKED, [])
  | some k =>
    let h := [1#8, BitVec.ofNat 8 (if r.vol then 0xFF else i), BitVec.ofNat 8 (blobWorld q.world), BitVec.ofNat 8 (lcDomain (lcState s))] ++
      le 4 gen ++ le 4 (wrapAttr r p.isSome).toNat ++ [BitVec.ofNat 8 par, 0, 0, 0]
    (bufOut s q.world q.live (rw q.words 2) (h ++ fit 56 (kwpWrap (kek s q.world) (h ++ fit 32 k))), 0, [(3, w32 gen)])

/-- KEY.UNWRAP runs: STALE and FULL on the clear header, then the authenticated content (11 R329). -/
def runUnwrap (s : State) (q : Posted) : State × Nat × List (Nat × Word) :=
  let b := dataRead s (.world q.world) (rw q.words 2) 72
  let sl := fld 1 1 b
  let g := fld 4 3 b
  let par := fld 12 1 b
  let child := sl == 0xFF
  let stale := if child then !chainLive s 64 par || (decide (par < 64) && (rec s par).gen != g)
    else (rec s sl).st != 1 || (rec s sl).gen != g || !chainLive s 64 (recLink (rec s sl))
  let tgt := if child then lowestFree s else some sl
  match tgt with
  | none => (s, if stale then stSTALE else stFULL, [])
  | some i =>
    if stale then (s, stSTALE, [])
    else match kwpUnwrap (kek s q.world) (slice 16 56 b) with
      | none => (s, stFAULT, [])
      | some p =>
        if fld 3 1 b ≠ lcDomain (lcState s) ∨ p.take 16 ≠ b.take 16 then (s, stFAULT, [])
        else
          let k := slice 16 32 p
          let t := if child then loadChild s i par (w32 (fld 8 4 b)) k else setCached s i (some { key := k, gen := g })
          (t, 0, [(1, w32 i), (3, w32 g)])

/-- REMASK (R316, R330): fresh shares every PERIOD; the lifecycle fuses are read again. -/
def remaskNow (s : State) : State :=
  let r := lcFuse s.fuse
  let a := { s.used with key := { s.key with mask := s.free, remaskAt := s.clk.ref } }
  if r = s.key.shadow then { a with key := { a.key with misread := 0 } }
  else
    let b := if s.key.misread = r + 1 then { a with key := { a.key with shadow := r, misread := 0 } }
      else { a with key := { a.key with misread := r + 1 } }
    notify9 b 8 r

/-- REMASK (R330). -/
def execRemask (s : State) : Host.Outcome State Fault Refusal :=
  .next (if alive s then atRef s (s.key.remaskAt + usRef s.key.period) remaskNow else s)

/-- DRBG_RESEED (R341). -/
def execDrbgReseed (s : State) : Host.Outcome State Fault Refusal :=
  .next (if alive s && s.key.drbgOk then
      atRef s (if 65536 ≤ s.key.requests then s.clk.ref else s.key.reseedAt + 1440000000) fun s =>
        { s.used with key := { s.key with requests := 0, reseedAt := s.clk.ref } }
    else s)

/-- ENTROPY_FAIL (R341): a health test fails; 1 repetition count, 2 adaptive proportion. -/
def execEntropyFail (adaptive : Bool) (s : State) : Host.Outcome State Fault Refusal :=
  .next (if alive s && s.key.drbgOk then
      let a := { s with key := { s.key with entropyFail := true, drbgOk := false, restartAt := s.clk.ref } }
      unitEv (event a .key 0x4C [noInst, if adaptive then 2 else 1]) .legal .key
    else s)

/-- ENTROPY_RESTART_TEST (R341): at most once in 10 s while the DRBG is stopped. -/
def execEntropyRestartTest (pass : Bool) (s : State) : Host.Outcome State Fault Refusal :=
  .next (if alive s && !s.key.drbgOk then
      atRef s (s.key.restartAt + 240000000) fun s => { s with key := { s.key with restartAt := s.clk.ref, drbgOk := pass, requests := 0, reseedAt := s.clk.ref } }
    else s)

/-- TAMP reads back blown (11 Table 11.12). -/
def tampBlow (s : State) : State :=
  let a := { s with fuse := { s.fuse with lc := s.fuse.lc.set 8 3 } }
  let b := setLflag { a with key := { a.key with shadow := lcFuse a.fuse, tampPend := false } } 1 false
  event b .key 0x4E (noInst :: two (now s))

/-- TAMPER_FUSE (R336). -/
def execTamperFuse (s : State) : Host.Outcome State Fault Refusal :=
  .next (if alive s && s.key.tampPend && s.clk.pfw.isNone then tampBlow s else s)

end Sys2Proof.Machine
end

