-- ==== Sys2Proof/Machine/TimOps.lean ====
section
/-! DEFINITION. TIM: slews, steps, corrections and the reference time (08 R230 to R234; 16 R447, R448). -/

namespace Sys2Proof.Machine

/-- A segment opens; segments of more than 2.0 s ago but for the one then in force go (R230). -/
def pushSeg (l : List Seg) (g : Seg) (m : Nat) : List Seg :=
  let t := g :: l
  let k := (t.takeWhile fun x => decide (m < x.m0 + 8000000)).length
  t.take (k + 1)

/-- The part of the running slew that has been absorbed, in whole µs. -/
def absorbed (s : State) : Int :=
  match s.tim.segs with
  | g :: _ =>
    let d := (g.r * (now s - g.m0)).tdiv 4000000
    if 0 ≤ s.tim.slew then min d s.tim.slew else max d s.tim.slew
  | [] => 0

/-- The high-water mark: the latest billing time reached (R261). -/
def hMark (s : State) : Nat := max s.bil.hw (btNow s)

/-- A time set record (10 Table 10.6, TYPE 4). -/
def timeSetBody (old new tick kind src role h : Nat) : Bytes :=
  le 8 old ++ le 8 new ++ le 8 tick ++ [BitVec.ofNat 8 kind, BitVec.ofNat 8 src, BitVec.ofNat 8 role] ++ List.replicate 5 0 ++ le 8 h

/-- LOCKED: beacons selected and received within 10 s (Table 8.1). -/
def timLocked (s : State) : Bool := s.tim.beacons && s.tim.locked

/-- SRC is the source that disciplines: beacons only while they are received (R231). -/
def timeSet (s : State) (old new kind role : Nat) : State :=
  ldgGroup s 4 false [] [timeSetBody old new (now s) kind (b2n (timLocked s)) role (hMark s)]

/-- The running slew is over: what it absorbed enters SLEWSUM and SLEWNET (R232). -/
def bookSlew (s : State) : State :=
  { s with tim := { s.tim with slew := 0, slewSum := s.tim.slewSum + (absorbed s).natAbs, slewNet := s.tim.slewNet + absorbed s } }

/-- The running slew ends or is replaced, with the time set record of kind SLEW that its sum may call for (R232). -/
def endSlew (s : State) : State :=
  let t := bookSlew s
  if 2000000 < t.tim.slewSum then
    let u := timeSet t (((btNow t : Int) - t.tim.slewNet).toNat) (btNow t) 2 0xFF
    { u with tim := { u.tim with slewSum := 0, slewNet := 0 } }
  else t

def rateNow (s : State) : Int := match s.tim.segs with | g :: _ => g.r | [] => 0

/-- A new segment from MODTICK `m` on with rate `r`. -/
def openSegAt (s : State) (m b0 : Nat) (r : Int) : State :=
  { s with tim := { s.tim with segs := pushSeg s.tim.segs { m0 := m, b0 := b0, r := r } (now s) } }

/-- A new segment from now on. -/
def openSeg (s : State) (b0 : Nat) (r : Int) : State := openSegAt s (now s) b0 r

/-- A segment was opened within the last 100 ms: a further change of rate waits for the next correction (R230; log 20). -/
def segFresh (s : State) : Bool := match s.tim.segs with | g :: _ => decide (now s < g.m0 + 400000) && decide (0 < g.m0) | [] => false

/-- A step of billing time at this MODTICK (R232, R260, R261); `kind` 0 by a source, 1 by a role. -/
def timeStep (s : State) (d : Int) (kind role : Nat) : State :=
  let a := endSlew s
  let f := btNow a
  let t := ((f : Int) + d).toNat
  let b := { a with bil := { a.bil with
    hw := max a.bil.hw f
    pts := a.bil.pts.mapIdx fun mp x => if mpDefined a mp then { x with steps := x.steps ++ [(now a, f, t)] } else x } }
  let c := openSeg b t 0
  timeSet { c with tim := { c.tim with unset := false } } f t kind role

/-- A correction (R232); `first` says that TIME_UNSET makes it a step whatever its size (16 R448). -/
def correct (s : State) (d : Int) (kind role : Nat) (first : Bool) : State :=
  if 2000000 < d.natAbs || (s.tim.unset && first) then timeStep s d kind role
  else
    let r := max (-500) (min 500 d)
    if r = rateNow s && r = 0 then s
    else if segFresh s then s
    else
      let a := endSlew s
      openSeg { a with tim := { a.tim with slew := d } } (btNow a) r

/-- The RTC's own time in µs, before the offset (R231). -/
def rtcUs (s : State) : Int := (s.bk.rtc * 1000000 / 32768 : Nat)

/-- Tref of R231. -/
def tref (s : State) : Int := rtcUs s + s.tim.rtcOff

/-- TIM compares billing time with the RTC and applies the difference (R231; 16 R450). -/
def rtcCorrect (s : State) : State := correct s (tref s - btNow s) 0 0xFF false

/-- A beacon has been received (R231). -/
def beaconHeard (s : State) : State := { s with tim := { s.tim with lastBeacon := some (now s), locked := true } }

/-- SIT hands over the coordinator's time, provided the source is beacons (R231; 14 R407): the RTC's offset follows, and billing time is corrected. -/
def beaconTime (s : State) (t : Nat) : State :=
  if s.tim.beacons then
    let a := { s with tim := { s.tim with rtcOff := (t : Int) - rtcUs s } }
    correct a ((t : Int) - btNow a) 0 0xFF true
  else s

/-- Billing time at power-up from the RTC, or from the high-water mark after loss of the RTC; the first segment opens at MODTICK 0 (R234, 16 R448). -/
def timStartup (s : State) : State :=
  let off : Int := if s.bk.rtcLost then (s.bil.hw : Int) - rtcUs s else s.tim.rtcOff
  let b := (rtcUs s + off).toNat
  { s with tim := { s.tim with
    segs := [{ m0 := 0, b0 := b, r := 0 }], rtcOff := off, unset := s.tim.unset || s.bk.rtcLost, slew := 0, locked := false
    lastBeacon := none, lastDisc := 0, beacons := false } }

end Sys2Proof.Machine
end

