-- ==== Sys2Proof/Machine/SitOps.lean ====
section
/-! DEFINITION. The site link's keys, neighbours, tone maps, timing, sending and receiving (14 R384 to R409). -/

namespace Sys2Proof.Machine

/-- The site network key, while its slot allows DERIVE to master 6 (14 R392; 11 R326). -/
def netKey (s : State) : Option Bytes :=
  let i := sitKeySlot s
  let a := recAttr (rec s i)
  match cached s i with
  | some k => if !erased s && a.getLsbD 6 && a.getLsbD uDERIVE && attrLcs a (lcState s) && k.gen == (rec s i).gen then some k.key else none
  | none => none

/-- The transmit key of a node (14 R392). -/
def sitKey (s : State) (uid jn : Bytes) : Option Bytes := (netKey s).map fun k => kdf k 0x30 0 (lcDomain (lcState s)) (uid ++ jn) 256

/-- What the node holds of node `n`; a fresh record when it holds nothing. 0xFF keeps the numbers of broadcasts. -/
def nbr (s : State) (n : Nat) : Nbr := (s.sit.nbrs.find? fun x => x.node == n).getD (Nbr.zero n)

def modNbr (s : State) (n : Nat) (f : Nbr → Nbr) : State :=
  { s with sit := { s.sit with nbrs := f (nbr s n) :: s.sit.nbrs.filter fun x => x.node != n } }

def sitMember (s : State) (n : Nat) : Bool := s.sit.members.testBit n

/-- Members in ascending order. -/
def sitMembers (s : State) : List Nat := (List.range 254).filter fun n => sitMember s n

/-! ## Carriers and durations -/

/-- The static notches (14 Table 14.2). -/
def notched (c : Nat) : Bool :=
  [(55, 56), (94, 111), (190, 198), (274, 279), (381, 393), (492, 498), (572, 587), (678, 684), (763, 764)].any fun b => decide (b.1 ≤ c) && decide (c ≤ b.2)

/-- Code of carrier 55 + i in a map of nibbles, low first. -/
def carrierCode (m : Bytes) (i : Nat) : Nat := nbits (m.getD (i / 2) 0).toNat (4 * (i % 2) + 3) (4 * (i % 2))

/-- Map a code over the 710 carriers. -/
def mapCarriers (f : Nat → Nat) : Bytes := (List.range 355).map fun k => BitVec.ofNat 8 (f (2 * k) + 16 * f (2 * k + 1))

def codesSum (m : Bytes) : Nat := ((List.range 710).map fun i => carrierCode m i).foldl (· + ·) 0

/-- Rates 1 to 4 of 14 Table 14.4 as fractions. -/
def rateNum (r : Nat) : Nat := match r with | 2 => 2 | 3 => 3 | 4 => 5 | _ => 1
def rateDen (r : Nat) : Nat := match r with | 2 => 3 | 3 => 4 | 4 => 6 | _ => 2

/-- Capacity of a map in tenths of a bit per symbol. -/
def toneCap (r : Nat) (m : Bytes) : Nat := 10 * codesSum m * rateNum r / rateDen r

/-- Payload symbols of `n` bytes: whole LDPC blocks (14 Table 14.1, R390); rate 0 is robust. -/
def payloadSyms (s : State) (r : Nat) (m : Bytes) (n : Nat) : Nat :=
  let info := if r = 0 then 1152 else 2304 * rateNum r / rateDen r
  let blocks := (8 * n + info - 1) / info
  let per := if r = 0 then (if sitNotch s then 315 else 355) else max 1 (codesSum m)
  (2304 * blocks + per - 1) / per

/-- MOD cycles of a symbol, and of a frame's turn with its ACK (14 Table 14.1, R405). -/
def symTicks : Nat := 128
def ackTicks : Nat := 256 + 3 * symTicks

/-- The beacon period in progress: BPI, MOD cycles since its region's start, and its length (14 R397). -/
def bcnNow (s : State) : Option (Nat × Nat × Nat) :=
  match s.sit.bcn with
  | some b =>
    if 256 * now s < b.start || b.period = 0 then none
    else
      let k := (256 * now s - b.start) / (2 * b.period)
      some (b.bpi + k, (256 * now s - b.start - k * (2 * b.period)) / 256, 2 * b.period / 256)
  | none => none

def bpiNow (s : State) : Nat := match bcnNow s with | some x => x.1 | none => 0

/-- Nominal period in MOD cycles (14 R395). -/
def pNom (s : State) : Nat := if sitNomf s then 66667 else 80000

/-! ## Sending -/

/-- Frame control (14 Table 14.4). -/
def frameControl (dt : Nat) (trk : Bool) (rate tmid src dest lseq nsym : Nat) : Bytes :=
  let b := [BitVec.ofNat 8 (dt + 16 * b2n trk + 32 * rate), BitVec.ofNat 8 tmid, BitVec.ofNat 8 src, BitVec.ofNat 8 dest] ++ le 2 lseq ++
    [BitVec.ofNat 8 nsym] ++ List.replicate 7 0
  b ++ le 2 ((crc32c b).toNat % 65536)

/-- The IV of a transmit counter (14 R392). -/
def sitIv (ctr : Nat) : Bytes := le 4 ctr ++ List.replicate 8 0

/-- A protected MAC frame (14 Table 14.3, R391, R392). -/
def macFrame (s : State) (key : Bytes) (dest typ mflags lseq : Nat) (payload : Bytes) : Bytes :=
  let h := le 4 (sitId s) ++ [BitVec.ofNat 8 (sitNode s), BitVec.ofNat 8 dest, BitVec.ofNat 8 typ, BitVec.ofNat 8 mflags] ++ le 2 lseq ++
    le 2 payload.length ++ le 4 s.sit.txctr
  let iv := sitIv s.sit.txctr
  let body := if typ ≤ 4 then payload else fit payload.length (gcmCrypt key iv payload)
  let tag := fit 16 (if typ ≤ 4 then gcmTag key iv (h ++ payload) [] else gcmTag key iv h body)
  h ++ body ++ tag ++ le 4 (crc32c (h ++ body ++ tag)).toNat

/-- The coupling of a transmission (14 R385). -/
def coupling (s : State) (dest : Nat) (trk : Bool) : Nat :=
  if trk then 0 else if sitTxph s ≠ 0 then sitTxph s else if dest = 0xFF || (nbr s dest).best = 0 then 1 else (nbr s dest).best

/-- Code of carrier 55 + i in the active mask: with NOTCH = 1 a notched carrier reads 0, whatever was written (14 R412). -/
def maskCode (s : State) (i : Nat) : Nat := if sitNotch s && notched (55 + i) then 0 else carrierCode s.sit.mask i

/-- A pending mask swap takes effect at the start of a transmitted frame (14 R387, R388, R413). -/
def maskSwap (s : State) : State :=
  if !s.sit.swap then s
  else
    let m := (s.sit.shadow.flatMap fun x => x.getD []).take 355
    let n := mapCarriers fun i => if sitNotch s && notched (55 + i) then 0 else carrierCode m i
    let a := { s with sit := { s.sit with mask := n, shadow := List.replicate 12 none, swap := false } }
    let b := { a with posts := a.posts.map fun q =>
      if q.unit == .sit && q.op == 4 && q.outcome.isNone then { q with outcome := some 0, results := [(1, w32 (now s))] } else q }
    event b .sit 0x5C [noInst, crc32c n]

def toneOf (x : Nbr) (trk : Bool) : Tone := if trk then x.tk else x.ph
def setTone (x : Nbr) (trk : Bool) (t : Tone) : Nbr := if trk then { x with tk := t } else { x with ph := t }

/-- The link's shadow map comes into force at the next frame (14 R389). -/
def toneSwap (t : Tone) : Tone :=
  match t.next with
  | some (r, m) => { t with tmid := t.tmid % 15 + 1, rate := r, codes := m, next := none, stale := false, fails := 0 }
  | none => t

/-- The posted operation of a SIT.SEND: its destination, and its LSEQ among the results kept so far. -/
def sendOp (e : SOut) (q : Posted) : Bool :=
  q.unit == .sit && q.op == 1 && bits (q.words.getD 1 0) 31 24 == e.dest && q.results == [(3, w32 e.lseq)]

/-- SIT.SEND completes (14 R405). -/
def sendDone (s : State) (e : SOut) (out : Nat) : State :=
  if e.world.isSome then settle s (sendOp e) out [(3, w32 (65536 * e.acked + e.lseq)), (4, w32 (e.atP + e.atT))] else s

def dropOut (s : State) (i : Nat) : State := { s with sit := { s.sit with q := dropAt s.sit.q i } }

/-- Copies of a LEGAL frame that have to be sent at least once. -/
def copiesDone (s : State) (e : SOut) : Bool := decide (1 ≤ e.atP) && (!sitTrk s || decide (1 ≤ e.atT))

/-- Frame number `i` of the queue goes out on a path (14 R385, R388, R389, R398, R405). -/
def sendOut (s0 : State) (i : Nat) (trk limit : Bool) : State :=
  let s := maskSwap s0
  match s.sit.q[i]?, sitKey s (uidBytes s) s.sit.jn with
  | some e, some key =>
    let t := toneSwap (toneOf (nbr s e.dest) trk)
    let at' := if trk then e.atT else e.atP
    let rob := decide (2 ≤ at') || t.stale || t.tmid == 0 || e.dest == 0xFF
    let r := if rob then 0 else t.rate
    let fl := b2n trk + 2 * b2n rob + 4 * b2n (decide (0 < at')) + 8 * b2n (e.typ == 5 && sitTrk s)
    let m := macFrame s key e.dest e.typ fl e.lseq e.payload
    let n := payloadSyms s r t.codes m.length
    let f := frameControl 1 trk r (if rob then 0 else t.tmid) (sitNode s) e.dest e.lseq n ++ m
    let e2 := if trk then { e with atT := e.atT + 1, draw := none } else { e with atP := e.atP + 1, draw := none }
    let a := modNbr s e.dest fun x => setTone x trk t
    let b := { a with sit := { a.sit with
      txctr := a.sit.txctr + 1, air := [(coupling a e.dest trk, f)], limit := limit, limitN := sat 65535 (a.sit.limitN + b2n limit)
      retries := sat 65535 (a.sit.retries + b2n (decide (0 < at'))), q := a.sit.q.set i e2
      flight := if e.dest = 0xFF then none else some (e.dest, e.lseq, trk, now s + (3 + n) * symTicks + ackTicks) } }
    if e.dest = 0xFF then (if e.typ ≠ 5 || copiesDone b e2 then sendDone (dropOut b i) e2 0 else b)
    else if e.typ = 5 && e2.acked != 0 && copiesDone b e2 then dropOut b i else b
  | _, _ => s

/-- Queue a frame of the link's own. -/
def sitQueue (s : State) (dest typ : Nat) (payload : Bytes) (w : Option World) : State :=
  let n := (nbr s dest).lseq
  let a := modNbr s dest fun x => { x with lseq := (n + 1) % 65536 }
  { a with sit := { a.sit with q := a.sit.q ++
      [{ dest := dest, typ := typ, payload := payload, world := w, lseq := n, born := now s, atP := 0, atT := 0, acked := 0, draw := none }] } }

/-- The first frame that may contend in the CSMA region (14 R399); before admission only JOIN goes out. -/
def csmaHead (s : State) : Option (Nat × SOut) :=
  findAt (fun e => e.typ != 5 && (sitIn s.sit.st || (e.typ == 1 && (s.sit.st == 2 || s.sit.st == 3)))) s.sit.q 0

/-- Path of a CSMA frame: the one on which its destination was last heard (log 21). -/
def csmaTrk (s : State) (e : SOut) : Bool := sitTrk s && (nbr s e.dest).viaTrk

/-- Symbol times drawn before an attempt (14 R399). -/
def csmaDraw (s : State) (e : SOut) : Nat :=
  let a := (if csmaTrk s e then e.atT else e.atP) + 1
  Config.freeNat s.free % 2 ^ ((if e.typ = 7 then 2 else 1) + a)

/-- JOIN payload (14 Table 14.3). -/
def joinPayload (s : State) : Bytes := uidBytes s ++ s.sit.jn ++ [BitVec.ofNat 8 (sitRank s), BitVec.ofNat 8 (b2n (sitTrk s))]

/-- A fresh JNONCE and transmit counter (14 R392). -/
def sitFresh (s : State) : State := { drbgUsed s with sit := { s.sit with jn := drbg s 16, txctr := 0 } }

/-- On an authenticated beacon the node sends JOIN and enters JOINING; without the DRBG there is no new JNONCE (14 R393, Table 14.8). -/
def sitJoin (s : State) (coord epoch : Nat) : State :=
  if !s.key.drbgOk then s
  else
    let a := sitFresh s
    let b := sitQueue a coord 1 (joinPayload a) none
    setSit { b with sit := { b.sit with joinAt := now s } } 3 coord epoch

/-! ## What every step of the link does first -/

/-- Object responses on their way back become OBJECT frames (14 R406). -/
def sitCollect (s : State) : State :=
  s.obj.siteOut.foldl (fun t m => sitQueue t m.1 6 m.2 none) { s with obj := { s.obj with siteOut := [] } }

/-- Four attempts on every path have failed. -/
def spent (s : State) (e : SOut) : Bool :=
  if e.typ = 5 then decide (4 ≤ e.atP) && (!sitTrk s || decide (4 ≤ e.atT)) else decide (4 ≤ max e.atP e.atT)

/-- A frame that has spent its attempts and waits for no acknowledgement ends with FAULT (14 R405). -/
def sweepSpent (s : State) : State :=
  if s.sit.flight.isSome then s
  else match findAt (fun (e : SOut) => e.acked == 0 && e.dest != 0xFF && spent s e) s.sit.q 0 with
    | some (i, e) => dropOut (sendDone s e stFAULT) i
    | none => s

/-- NOKEY while the NETKEY slot cannot be used (14 R393); a twin whose slot is over is missing (14 R404); the head frame has its draw. -/
def sitTick (s : State) : State :=
  let k := (netKey s).isSome
  let a := if !k then sitSilence s else if s.sit.st = 1 && (sitW s 1).getLsbD 30 then setSit { s with sit := { s.sit with since := now s } } 2 0xFE 0 else s
  let b := match a.sit.twin with
    | some (_, _, _, t) => if t ≤ now a then { a with sit := { a.sit with twin := none, twinMiss := sat 65535 (a.sit.twinMiss + 1) } } else a
    | none => a
  let c := sweepSpent (sitCollect b)
  match csmaHead c with
  | some (i, e) =>
    if e.draw.isNone then { c.used with sit := { c.sit with q := c.sit.q.set i { e with draw := some (csmaDraw c e, now c) } } } else c
  | none => c

/-- SIT runs: present, clocked, not stopped. -/
def sitRuns (s : State) : Bool := alive s && !absentUnit s .sit && s.sit.st != 8 && s.clk.fallback.isNone

/-! ## Receiving -/

def isTrunk (p : Coupling) : Bool := p == .trk
def phaseNo (p : Coupling) : Nat := match p with | .pl1 => 1 | .pl2 => 2 | .pl3 => 3 | .trk => 0

/-- The receivers run from LISTEN to COORD; the trunk receiver with TRKEN (14 R384). -/
def rxOn (s : State) (p : Coupling) : Bool := decide (2 ≤ s.sit.st) && decide (s.sit.st ≤ 6) && (!isTrunk p || sitTrk s)

/-- A heard preamble makes the waiting frame draw again (14 R399). -/
def redraw (s : State) : State := { s with sit := { s.sit with q := s.sit.q.map fun e => { e with draw := none } } }

/-- What any frame at a running receiver does before it is read: its preamble is heard (14 R399). -/
def onPreamble (s : State) (p : Coupling) : State := if rxOn s p then redraw s else s

def countFail (s : State) : State := { s with sit := { s.sit with fcsFail := sat 65535 (s.sit.fcsFail + 1) } }
def countReplay14 (s : State) : State := { s with sit := { s.sit with replay := sat 65535 (s.sit.replay + 1) } }

/-- The replay window of a source (14 R392). -/
def ctrOk (x : Nbr) (c : Nat) : Bool :=
  match x.hi with
  | none => true
  | some h => later 32 c h || (decide ((h + 2 ^ 32 - c) % 2 ^ 32 ≤ 64) && !x.seen.contains c)

def ctrTake (x : Nbr) (c : Nat) : Nbr :=
  let h := match x.hi with | some h => if later 32 c h then c else h | none => c
  { x with hi := some h, seen := (c :: x.seen).filter fun y => decide ((h + 2 ^ 32 - y) % 2 ^ 32 ≤ 64) }

/-- The values a frame carries for its own key replace those held, with a fresh window (14 R392). -/
def holdKey (x : Nbr) (uid jn : Bytes) : Nbr :=
  if x.uid == uid && x.jn == jn then x
  else { x with uid := uid, jn := jn, old := if x.jn.isEmpty then x.old else (x.jn :: x.old).take 4, hi := none, seen := [] }

/-- A frame of a source was heard. -/
def heardOf (s : State) (x : Nbr) (p : Coupling) (snr : Nat) : Nbr :=
  let y := { x with heard := now s, heardBpi := bpiNow s, viaTrk := isTrunk p }
  if isTrunk p then { y with snrT := snr } else { y with snrP := snr, best := phaseNo p }

/-- A received MAC frame, opened. -/
structure Rx where
  src : Nat
  dest : Nat
  typ : Nat
  mflags : Nat
  lseq : Nat
  tmid : Nat
  data : Bytes
  trk : Bool
  deriving DecidableEq, Repr

/-- Frame control that decodes: length and FCRC (14 Table 14.4). -/
def fcOk (f : Bytes) : Bool := decide (16 ≤ f.length) && fld 14 2 f == (crc32c (f.take 14)).toNat % 65536

/-- A data frame is received: its checks, counts, key and window (14 R391, R392). `dup` says whether its values may replace those held. -/
def rxFrame (s : State) (p : Coupling) (snr : Nat) (f : Bytes) (typ : Nat) (mayHold : Nbr → Bytes → Bool) : State × Option Rx :=
  let m := f.drop 16
  let n := fld 10 2 m
  let src := fld 4 1 m
  let pay := slice 16 n m
  let x := nbr s src
  let own := typ == 1 || typ == 3
  let uid := if own then pay.take 8 else x.uid
  let jn := if own then slice 8 16 pay else x.jn
  let ctr := fld 12 4 m
  let h := m.take 16
  if !fcOk f || fld 0 1 f % 16 != 1 || fld 0 4 m != sitId s || src == sitNode s || decide (253 < src) then (s, none)
  else if m.length ≠ 36 + n ∨ fld (32 + n) 4 m ≠ (crc32c (m.take (32 + n))).toNat then (countFail s, none)
  else if fld 6 1 m ≠ typ ∨ (fld 5 1 m ≠ sitNode s ∧ fld 5 1 m ≠ 0xFF) then (s, none)
  else if jn.isEmpty then (countFail s, none)
  else if own && x.old.contains jn then (countReplay14 s, none)
  else match sitKey s uid jn with
    | none => (s, none)
    | some k =>
      let iv := sitIv ctr
      let tag := fit 16 (if typ ≤ 4 then gcmTag k iv (h ++ pay) [] else gcmTag k iv h pay)
      if slice (16 + n) 16 m ≠ tag then (countFail s, none)
      else
        let y := if own && mayHold x uid then holdKey x uid jn else x
        if y.jn == jn && !ctrOk y ctr then (countReplay14 s, none)
        else
          let z := heardOf s (if y.jn == jn then ctrTake y ctr else y) p snr
          (modNbr s src fun _ => z,
            some { src := src, dest := fld 5 1 m, typ := typ, mflags := fld 7 1 m, lseq := fld 8 2 m, tmid := fld 1 1 f % 16,
                   data := if typ ≤ 4 then pay else fit n (gcmCrypt k iv pay), trk := isTrunk p })

/-- An ACK on the same path (14 R405), a frame like any other for a pending mask swap (R388, R390). -/
def sitAck (s0 : State) (r : Rx) : State :=
  if r.dest = sitNode s0 then
    let s := maskSwap s0
    { s with sit := { s.sit with air := [(coupling s r.src r.trk, frameControl 2 r.trk 0 0 (sitNode s) r.src r.lseq 0)] } }
  else s0

/-- The receiver's TMAP report to the source of a link (14 R389). -/
def toneReport (s : State) (r : Rx) : State :=
  let x := nbr s r.src
  let t := toneOf x r.trk
  let prop := fit 356 (Config.toneMap s.free)
  let cap := toneCap (prop.getD 0 0).toNat (prop.drop 1)
  let due := match t.repAt with | some a => decide (a + 8000000 ≤ now s) || decide (t.repCap < 10 * (max cap t.repCap - min cap t.repCap)) | none => true
  if r.dest = sitNode s && due then
    let a := modNbr s.used r.src fun y => setTone y r.trk { toneOf y r.trk with repAt := some (now s), repCap := cap }
    sitQueue a r.src 4 (BitVec.ofNat 8 r.tmid :: prop) none
  else s

/-- LSEQ is one of the last 32 accepted on the link. -/
def sitDup (s : State) (r : Rx) : Bool := (nbr s r.src).seqs.contains r.lseq
def sitTake (s : State) (r : Rx) : State := modNbr s r.src fun x => { x with seqs := (r.lseq :: x.seqs).take 32 }

def rxMsg (r : Rx) : SMsg := { src := r.src, lseq := r.lseq, trk := r.trk, robust := r.mflags.testBit 1, data := r.data }

/-- A frame that finds its queue of 16 full is not acknowledged (14 R406). -/
def sitDrop (s : State) : State := { s with sit := { s.sit with dropQ := sat 65535 (s.sit.dropQ + 1) } }

/-! ## Status -/

/-- Nibble of a metering point in PMAP (14 R409, Table 14.7). -/
def phaseNib (c0 c1 : SClass) : Nat :=
  match c0.cur with
  | none => 0
  | some k =>
    let d := ((c1.th * c0.p : Nat) - (c0.th * c1.p : Nat) : Int) % (c0.p * c1.p : Nat)
    let rot := c1.cur.isSome && decide (0 < c0.p * c1.p) && decide ((23 * (c0.p * c1.p) : Nat) ≤ 36 * d) && decide (36 * d ≤ (25 * (c0.p * c1.p) : Nat))
    [1, 3, 2, 1, 3, 2].getD k 0 + 4 * (k % 2) + 8 * b2n rot

def sitNib (s : State) (mp : Nat) : Nat := phaseNib (s.sit.cls.getD (2 * mp) SClass.zero) (s.sit.cls.getD (2 * mp + 1) SClass.zero)

/-- The node's own PMAP. -/
def ownPmap (s : State) : Bytes := (List.range 16).map fun i => BitVec.ofNat 8 (sitNib s (2 * i) + 16 * sitNib s (2 * i + 1))

/-- Copies decoded in the last three beacon regions (14 Table 14.13). -/
def trkHeard (s : State) : Bool := match s.sit.trkBpi with | some b => decide (bpiNow s < b + 3) | none => false
def phHeard (s : State) : Bool := match s.sit.phBpi with | some b => decide (bpiNow s < b + 3) | none => false
def zcValid (s : State) : Bool := match s.sit.bcn with | some b => b.flags.testBit 0 | none => false

/-- The node's own word 2 of SIT.NBR. -/
def ownFlags (s : State) : Nat :=
  2 ^ 31 * b2n (s.sit.st == 6) + 2 ^ 30 * b2n (s.sit.st == 5) + 2 ^ 29 * b2n (trkHeard s) + 2 ^ 28 * b2n (zcValid s) + 2 ^ 20 * sitRank s

/-- Words 1 to 7 of SIT.NBR for a node (14 Table 14.9). -/
def nbrWords (s : State) (n : Nat) : List Word :=
  let x := nbr s n
  let me := n == sitNode s
  let fl := if me then ownFlags s else x.flags / 2 ^ 20 * 2 ^ 20 + sat 65535 (bpiNow s - x.heardBpi)
  let pm := if me then ownPmap s else x.pmap
  [w32 n, w32 fl] ++ ((List.range 4).map fun i => w32 (fld (4 * i) 4 pm)) ++ [if me then 0 else w32 (65536 * x.snrT + x.snrP % 65536)]

/-- SIT.NBR knows the node: a member, or the node itself. -/
def nbrKnown (s : State) (n : Nat) : Bool := n == sitNode s || (decide (n < 254) && sitMember s n)

/-- 14 Table 14.13. -/
def sitStatus (s : State) : Word :=
  w32 (2048 * b2n s.sit.swap + 1024 * b2n (s.sit.shadow.all (·.isSome)) + 512 * b2n (sitNotch s) + 256 * b2n (trkHeard s) + 128 * b2n (phHeard s) +
    64 * b2n (zcValid s) + 16 * b2n s.sit.limit + s.sit.st)

/-- Words 1 to 7 of SIT.RDST. -/
def sitWords (s : State) : List Word :=
  let b := s.sit.bcn.getD { coord := 0, backup := 0, flags := 0, bpi := 0, epoch := 0, crank := 0, period := 0, start := 0, members := 0 }
  [sitStatus s, w32 (b.coord * 2 ^ 24 + b.backup * 2 ^ 16 + b.epoch), w32 b.bpi, w32 (s.sit.sgen % 65536 * 65536 + (sitMembers s).length),
    w32 (65536 * s.sit.twinMiss + s.sit.retries), w32 (65536 * s.sit.fcsFail + s.sit.limitN), w32 (65536 * s.sit.replay + s.sit.dropQ)]

end Sys2Proof.Machine
end

