-- ==== Sys2Proof/Machine/SitUnit.lean ====
section
/-! DEFINITION. The SIT operations, beacons, membership, twin frames, acknowledgement and the timed steps of the link (14). -/

namespace Sys2Proof.Machine

/-! ## Operations -/

/-- SITE alone reserved to the LEGAL world (14 R411). -/
def sitLegal (x : Ctx) : List Nat := onIf (x == .world .opn) stDENIED

/-- RANGE conditions of SIT.CFG (14 R412). -/
def sitCfgRange (ws : List Word) : Bool :=
  let a := rw ws 1
  let b := rw ws 2
  let d := rw ws 4
  resv ws 1 0xF8FF00FF || resv ws 2 0xFFC03F || resv ws 4 0x3F3F || rw ws 5 != 0 || rw ws 6 != 0 || rw ws 7 != 0 || decide (253 < bits a 7 0) ||
    decide (bits b 5 0 < 4) || decide (60 < bits d 13 8) || decide (60 < bits d 5 0) || (decide (127 < bits b 23 16) && bits b 23 16 != 0xFF) ||
    (bits a 23 20 != 0 && (!a.getLsbD 28 || bits b 23 16 == 0xFF || bits a 19 16 == 0 || decide (8 < bits a 19 16))) || (a.getLsbD 31 && a.getLsbD 30)

/-- SIT.CFG takes effect: leave, join or store (14 R393, R412). -/
def sitCfgAct (s0 : State) (ws : List Word) : State :=
  let s := sitLapse s0 0xFE (sitEpoch s0)
  let cf := [rw ws 1, rw ws 2, rw ws 3, rw ws 4]
  let w := rw ws 1
  let a := if w.getLsbD 31 then setSit s 0 0xFE (sitEpoch s) else s
  let b := { a with sit := { a.sit with cfg := cf, resume := false, since := now s } }
  if w.getLsbD 31 then { b with sit := { b.sit with flight := none } }
  else if !w.getLsbD 30 then setSit b 0 0xFE 0
  else if s.clk.fallback.isSome || s.clk.mode = 3 then setSit b 8 0xFE 0
  else setSit b (if (netKey b).isSome then 2 else 1) 0xFE 0

def sitCfgOp (s : State) (c : CoreId) (rs : Reg) : Host.Outcome State Fault Refusal :=
  unitI s c rs .sit .more 8
    (fun x s ws =>
      sitLegal x ++ onIf (sitCfgRange ws) stRANGE ++ onIf (decide (3 ≤ s.sit.st) && decide (s.sit.st ≤ 7) && !(rw ws 1).getLsbD 31) stORDER)
    fun _ s ws => (sitCfgAct s ws, [])

/-- SIT.CFG (R412). -/
def execSitCfg (c : CoreId) (rs : Reg) (s : State) : Host.Outcome State Fault Refusal := sitCfgOp s c rs
/-- SIT.CFG with JOIN (R393). -/
def execSitCfgJoin (c : CoreId) (rs : Reg) (s : State) : Host.Outcome State Fault Refusal := sitCfgOp s c rs
/-- SIT.CFG with LEAVE (R393). -/
def execSitCfgLeave (c : CoreId) (rs : Reg) (s : State) : Host.Outcome State Fault Refusal := sitCfgOp s c rs

/-- `n` bytes of data memory at `a`, a multiple of 4, that the world may load, or store. -/
def memOk (s : State) (x : Ctx) (a : Word) (n : Nat) (store : Bool) : Bool :=
  a.toNat % 4 == 0 && (List.range n).all fun i => decide (byteAt a i < 0x80000000) && grant s x (byteAt a i) store == .ok

/-- SIT.SEND (R405, R411, R412). -/
def execSitSend (c : CoreId) (rs : Reg) (s : State) : Host.Outcome State Fault Refusal :=
  unitP s c rs .sit .more 1 6
    (fun x s ws =>
      let w := rw ws 1
      let k := bits w 17 16
      let n := bits w 10 0
      let d := bits w 31 24
      onIf (x == .world .opn && k == 0) stDENIED ++
        onIf (resvs ws [(1, 0xFF0307FF), (3, 0x3FFFF), (4, 0xFF)] || rw ws 5 != 0 || k == 3 || n == 0 || decide ((if k = 0 then 384 else 1024) < n) || d == sitNode s || d == 0xFE ||
          (d == 0xFF && k == 2) || !memOk s x (rw ws 2) (min n 1024) false) stRANGE)
    fun x s ws =>
      let w := rw ws 1
      let d := bits w 31 24
      let wd := worldOfCtx x
      let b := dataRead s x (rw ws 2) (bits w 10 0)
      let k := bits w 17 16
      let a := sitQueue s d (if k = 0 then 5 else if k = 1 then 7 else 6) b (some wd)
      let r := if k = 2 && decide ((b.getD 0 0).toNat < 128) then { a with sit := { a.sit with reqs := (d, fld 2 2 b, wd) :: a.sit.reqs } } else a
      { st := r, outcome := none, results := [(3, w32 (nbr s d).lseq)] }

/-- The queue that SIT.RECV takes from (14 R406, R411). -/
def recvQ (s : State) (x : Ctx) (k : Nat) : List SMsg :=
  if k = 0 then s.sit.legalQ else if k = 1 then s.sit.openQ else if x = .world .opn then s.sit.objO else s.sit.objL

def setRecvQ (s : State) (x : Ctx) (k : Nat) (q : List SMsg) : State :=
  if k = 0 then { s with sit := { s.sit with legalQ := q } } else if k = 1 then { s with sit := { s.sit with openQ := q } }
  else if x = .world .opn then { s with sit := { s.sit with objO := q } } else { s with sit := { s.sit with objL := q } }

/-- SIT.RECV (R406, R412). -/
def execSitRecv (c : CoreId) (rs : Reg) (s : State) : Host.Outcome State Fault Refusal :=
  unitI s c rs .sit .more 5
    (fun x s ws =>
      let k := bits (rw ws 1) 17 16
      onIf (x == .world .opn && k == 0) stDENIED ++
        onIf (resvs ws [(1, 0xFF0307FF), (3, 0x3FFFF)] || rw ws 4 != 0 || k == 3 || !memOk s x (rw ws 2) 1024 true) stRANGE)
    fun x s ws =>
      let k := bits (rw ws 1) 17 16
      match recvQ s x k with
      | [] => (s, [(1, w32 (65536 * k))])
      | m :: t =>
        (dataWrite (setRecvQ s x k t) x (rw ws 2) m.data,
          [(1, w32 (m.src * 2 ^ 24 + 65536 * k + m.data.length)), (3, w32 (131072 * b2n m.robust + 65536 * b2n m.trk + m.lseq))])

/-- Codes 5, 7, 9 and 11 to 15 are invalid (14 R388). -/
def badCode (c : Nat) : Bool := c == 5 || c == 7 || c == 9 || decide (11 ≤ c)

/-- SIT.TMAP (R388, R412). -/
def execSitTmap (c : CoreId) (rs : Reg) (s : State) : Host.Outcome State Fault Refusal :=
  unitP s c rs .sit .more 3 6
    (fun x s ws =>
      let g := bits (rw ws 1) 3 0
      let b := dataRead s x (rw ws 2) 32
      sitLegal x ++
        onIf (resv ws 1 0xF || decide (11 < g) || rw ws 4 != 0 || rw ws 5 != 0 || !memOk s x (rw ws 2) 32 false ||
          (List.range 64).any fun i => badCode (carrierCode b i) || (g == 11 && decide (5 < i) && carrierCode b i != 0)) stRANGE ++
        onIf s.sit.swap stBUSY)
    fun x s ws =>
      let n := s.sit.sgen + 1
      donePost { s with sit := { s.sit with shadow := s.sit.shadow.set (bits (rw ws 1) 3 0) (some (dataRead s x (rw ws 2) 32)), sgen := n } } 0 [(3, w32 n)]

/-- SIT.TSWAP (R388): its outcome comes with the next frame that the node transmits. -/
def execSitTswap (c : CoreId) (rs : Reg) (s : State) : Host.Outcome State Fault Refusal :=
  unitP s c rs .sit .more 4 3 (fun x s ws => sitLegal x ++ onIf (rw ws 2 != 0) stRANGE ++ onIf (!(s.sit.shadow.all (·.isSome))) stORDER)
    fun _ s _ => later1 { s with sit := { s.sit with swap := true } }

/-- SIT.NBR (R409, R412). -/
def execSitNbr (c : CoreId) (rs : Reg) (s : State) : Host.Outcome State Fault Refusal :=
  unitI s c rs .sit .more 8 (fun _ s ws => onIf (resvs ws [(1, 0xFF), (2, 0xF0F0FFFF)] || !nbrKnown s (bits (rw ws 1) 7 0)) stRANGE)
    fun _ s ws => (s, ((nbrWords s (bits (rw ws 1) 7 0)).drop 1).mapIdx fun i v => (2 + i, v))

/-- SIT.RDST (R412). -/
def execSitRdst (c : CoreId) (rs : Reg) (s : State) : Host.Outcome State Fault Refusal :=
  unitI s c rs .sit .read 8 (fun _ _ ws => onIf (resv ws 4 0xFFFF01FF) stRANGE) fun _ s _ => (s, (sitWords s).mapIdx fun i v => (1 + i, v))

/-! ## Classification and time -/

/-- Rising crossings of a channel, newest first. -/
def rises (s : State) (ch : Nat) : List Nat := ((chan s ch).zc.filter (·.1)).map (·.2)

/-- The sector of a channel against the reference `tc` (1/256 MOD cycle), with θ as D of P (14 R408). -/
def sectorOf (s : State) (ch : Nat) (tc : Int) : Option (Nat × Nat × Nat) :=
  match rises s ch with
  | z1 :: z2 :: _ =>
    let p := z1 - z2
    if p < 61538 || 88889 < p then none
    else
      let z := (((rises s ch).filter fun (y : Nat) => decide (tc ≤ 256 * (y : Int))).getLast?).getD z1
      let q := 256 * p
      let d := ((256 * (z : Int) - tc) % q).toNat
      let k := (12 * d + q) / (2 * q)
      if (36 * (d : Int) - 6 * q * k).natAbs ≤ q then some (k % 6, d, q) else none
  | _ => none

/-- A classification after one beacon: eight equal new sectors change it, 64 periods without one clear it (14 R408, R409). -/
def classStep (x : SClass) (bpi : Nat) (r : Option (Nat × Nat × Nat)) : SClass :=
  match r with
  | some (k, d, p) =>
    let n := if x.cand = k && x.run != 0 then x.run + 1 else 1
    let y := { x with cand := k, run := n, lost := bpi, th := d, p := p }
    if 8 ≤ n then { y with cur := some k } else y
  | none => let y := { x with run := 0 }; if x.lost + 64 < bpi then { y with cur := none } else y

/-- V0 and V1 of a defined AC point, with ZC_EN. -/
def sitChan (s : State) (mp j : Nat) : Option Nat :=
  let ch := bits (defWord s mp 2) (8 * j + 7) (8 * j)
  if mpKind s mp = 1 && ch < 128 && (chan s ch).cfg1.getLsbD 15 then some ch else none

/-- Every channel is classified at a beacon with ZC_VALID; a change of a point's nibble is recorded (14 R408, R413). -/
def classify (s : State) (bpi : Nat) (tc : Int) (valid : Bool) : State :=
  let cs := s.sit.cls.mapIdx fun i x =>
    classStep x bpi (if valid then (match sitChan s (i / 2) (i % 2) with | some ch => sectorOf s ch tc | none => none) else none)
  let t := { s with sit := { s.sit with cls := cs } }
  (List.range 32).foldl (fun u mp =>
    if sitNib s mp = sitNib t mp then u else event u .sit 0x5B [w32 mp, w32 (sitNib s mp), w32 (sitNib t mp)]) t

/-- The sector in force of the ZCCH channel (14 R403). -/
def zcSector (s : State) : Option Nat :=
  ((List.range 64).find? fun i => sitChan s (i / 2) (i % 2) == some (sitZcch s) && (s.sit.cls.getD i SClass.zero).cur.isSome).bind
    fun i => (s.sit.cls.getD i SClass.zero).cur

def insertSorted (x : Int) : List Int → List Int
  | [] => [x]
  | y :: t => if x ≤ y then x :: y :: t else y :: insertSorted x t

/-- The median of a second's differences goes to TIM; a coordinator takes no time (14 R407). -/
def medianStep (s : State) (d : Int) : State :=
  let ds := insertSorted d s.sit.deltas
  if now s < s.sit.medAt + 4000000 then { s with sit := { s.sit with deltas := ds } }
  else
    let m := ds.getD (ds.length / 2) 0
    beaconTime { s with sit := { s.sit with deltas := [], medAt := now s } } ((btNow s : Int) + m).toNat

/-! ## Beacons -/

/-- The 92 authenticated bytes of a beacon copy (14 Table 14.5). -/
def beaconBytes (s : State) (b : Bcn) (copy zcoff bt ctr : Nat) : Bytes :=
  le 4 (sitId s) ++ [BitVec.ofNat 8 b.coord, BitVec.ofNat 8 b.backup, BitVec.ofNat 8 copy, BitVec.ofNat 8 b.flags] ++ le 4 b.bpi ++ le 2 b.epoch ++
    [BitVec.ofNat 8 b.crank, 0] ++ le 4 zcoff ++ le 4 b.period ++ le 8 bt ++ le 32 b.members ++ uidBytes s ++ fit 16 s.sit.jn ++ le 4 ctr

/-- A copy with its TAG and FCS, behind its frame control (14 R390, R396). -/
def beaconCopy (s : State) (key : Bytes) (b : Bcn) (copy zcoff bt : Nat) : Nat × Bytes :=
  let ctr := s.sit.txctr + copy
  let p := beaconBytes s b copy zcoff bt ctr
  let q := p ++ fit 16 (gcmTag key (sitIv ctr) p [])
  (copy, frameControl 0 (copy == 0) 0 0 b.coord 0xFF 0 11 ++ q ++ le 4 (crc32c q).toNat)

/-- The BACKUP: the member candidate of lowest rank, then lowest node (14 R400). -/
def backupOf (s : State) : Nat :=
  let cs := (sitMembers s).filter fun n => n != sitNode s && (nbr s n).trk && (nbr s n).crank != 0
  cs.foldl (fun m n => if m = 0xFE || (nbr s n).crank < (nbr s m).crank then n else m) 0xFE

/-- The reference instant of the next beacon: a second rising crossing of ZCCH, or the free-running count (14 R395, R403). -/
def zRef (s : State) : Option (Nat × Nat × Bool) :=
  let p0 := match s.sit.bcn with | some b => if b.period = 0 then pNom s else b.period / 256 | none => pNom s
  match rises s (sitZcch s) with
  | z1 :: z2 :: _ =>
    if now s ≤ z1 + 88889 then
      let p := z1 - z2
      let z := z1 - (zcSector s).getD 0 * p / 6
      if s.sit.zref + p + p / 2 ≤ z then some (z, p, true) else none
    else some (s.sit.zref + 2 * pNom s, p0, false)
  | _ => some (s.sit.zref + 2 * pNom s, p0, false)

/-- BEACON_TRANSMIT (R395, R396): four copies, the trunk first. -/
def beaconSend (s0 : State) (limit : Bool) (z p : Nat) (track : Bool) : State :=
  let s := maskSwap s0
  match sitKey s (uidBytes s) s.sit.jn, s.sit.bcn with
  | some key, some o =>
    let off := 1024000 + Config.freeNat s.free % 64
    let valid := track && s.sit.zok
    let b : Bcn :=
      { coord := sitNode s, backup := backupOf s, flags := b2n valid + 2 * b2n (sitNotch s) + 4 * b2n (sitNomf s) + 16 * sitNcfp s,
        bpi := (o.bpi + 1) % 2 ^ 32, epoch := o.epoch, crank := sitRank s, period := 256 * p, start := 256 * z + off, members := s.sit.members }
    let cs := (List.range 4).map fun i => beaconCopy s key b i off (btAt s z)
    let a := { s.used with sit := { s.sit with
      bcn := some b, txctr := s.sit.txctr + 4, air := cs, zref := z, limit := limit, limitN := sat 65535 (s.sit.limitN + b2n limit) } }
    classify a b.bpi (256 * z) valid
  | _, _ => s

def execBeaconTransmit (limit : Bool) (s0 : State) : Host.Outcome State Fault Refusal :=
  .next (if !sitRuns s0 then s0
    else
      let s := sitTick s0
      match s.sit.st, zRef s with
      | 6, some (z, p, track) => if s.clk.pfw.isSome then s else atTick s (z + 4000) fun s => beaconSend (sitTick s) limit z p track
      | _, _ => s)

/-- The last beacon's record, from the bytes of a copy that starts its region at `start`. -/
def bcnOf (m : Bytes) (start : Nat) : Bcn :=
  { coord := fld 4 1 m, backup := fld 5 1 m, flags := fld 7 1 m, bpi := fld 8 4 m, epoch := fld 12 2 m, crank := fld 14 1 m, period := fld 20 4 m,
    start := start, members := fld 32 32 m }

/-- Membership and role by a beacon of the network's coordinator (14 R393, R394, R401). -/
def beaconMember (s : State) (b : Bcn) : State :=
  let me := b.members.testBit (sitNode s)
  let role := if b.backup = sitNode s then 5 else 4
  match s.sit.st with
  | 2 =>
    if s.sit.resume && me then
      let a := setSit s role b.coord b.epoch
      { a with sit := { a.sit with resume := false } }
    else sitJoin (sitLapse s b.coord b.epoch) b.coord b.epoch
  | 3 => if me then setSit s role b.coord b.epoch else s
  | 4 => if me then setSit s role b.coord b.epoch else setSit s 2 b.coord b.epoch
  | 5 => if me then setSit s role b.coord b.epoch else setSit s 2 b.coord b.epoch
  | _ => s

/-- A coordinator hears another: it stops and joins a later network (14 R402). -/
def beaconRival (s : State) (b : Bcn) : State :=
  if s.sit.st = 6 && (later 16 b.epoch (sitEpoch s) || (b.epoch == sitEpoch s && decide (b.coord < sitNode s))) then setSit s 2 b.coord b.epoch else s

/-- An authenticated copy: membership once, then time and classification with the first copy of its region (14 R397, R407). -/
def beaconTake (s0 : State) (m : Bytes) (stamp : Nat) (trunk : Bool) : State :=
  let copy := fld 6 1 m
  let b := bcnOf m (stamp - 393216 * copy)
  let s := beaconRival s0 b
  if s.sit.st = 6 then s
  else
    let first := match s.sit.bcn with | some o => !(o.bpi == b.bpi && o.coord == b.coord && o.epoch == b.epoch) | none => true
    let a := { s with sit := { s.sit with
      bcn := if first then some b else s.sit.bcn, since := now s, members := b.members
      trkBpi := if trunk then some b.bpi else s.sit.trkBpi, phBpi := if trunk then s.sit.phBpi else some b.bpi } }
    let c := beaconMember a b
    if first && sitIn c.sit.st then
      let tc : Int := (stamp : Int) - fld 16 4 m - 393216 * copy
      let d : Int := (fld 24 8 m : Int) - btAt c (tc.toNat / 256)
      medianStep (beaconHeard (classify c b.bpi tc (b.flags.testBit 0))) d
    else c

/-- A received beacon copy (14 R387, R392, R396). -/
def beaconRx (s : State) (p : Coupling) (snr stamp : Nat) (f : Bytes) : State :=
  let m := f.drop 16
  let src := fld 4 1 m
  let x := nbr s src
  let uid := slice 64 8 m
  let jn := slice 72 16 m
  let ctr := fld 88 4 m
  if !fcOk f || fld 0 1 f % 16 != 0 || fld 0 4 m != sitId s || (fld 7 1 m).testBit 1 != sitNotch s || decide (253 < src) || src == sitNode s then s
  else if m.length ≠ 112 ∨ fld 108 4 m ≠ (crc32c (m.take 108)).toNat then countFail s
  else if x.old.contains jn then countReplay14 s
  else match sitKey s uid jn with
    | none => s
    | some k =>
      if slice 92 16 m ≠ fit 16 (gcmTag k (sitIv ctr) (m.take 92) []) then countFail s
      else
        let y := holdKey x uid jn
        if !ctrOk y ctr then countReplay14 s
        else beaconTake (modNbr s src fun _ => { heardOf s (ctrTake y ctr) p snr with crank := fld 14 1 m }) m stamp (isTrunk p)

/-- BEACON (R407). -/
def execBeacon (p : Coupling) (snr stamp : Nat) (frame : List Nat) (s0 : State) : Host.Outcome State Fault Refusal :=
  .next (if !sitRuns s0 then s0
    else
      let s := onPreamble (sitTick s0) p
      if rxOn s p then beaconRx s p snr stamp (frame.map (BitVec.ofNat 8)) else s)

/-! ## Membership frames -/

/-- A received data frame of a type, once the link's own account is in order. -/
def onFrame (s0 : State) (p : Coupling) (snr : Nat) (frame : List Nat) (typ : Nat) (hold : State → Nbr → Bytes → Bool) (f : State → Rx → State) :
    Host.Outcome State Fault Refusal :=
  .next (if !sitRuns s0 then s0
    else
      let s := onPreamble (sitTick s0) p
      if !rxOn s p then s
      else match rxFrame s p snr (frame.map (BitVec.ofNat 8)) typ (hold s) with
        | (t, some r) => f t r
        | (t, none) => t)

/-- Another member with a different UID holds the node ID (14 R393). -/
def dupNode (s : State) (x : Nbr) (uid : Bytes) : Bool := sitMember s x.node && !x.uid.isEmpty && x.uid != uid

/-- JOIN_FRAME (R393): the coordinator admits the node or answers that its ID is taken; the taker's own values stay (log 21). -/
def execJoinFrame (p : Coupling) (snr : Nat) (frame : List Nat) (s : State) : Host.Outcome State Fault Refusal :=
  onFrame s p snr frame 1 (fun s x uid => !dupNode s x uid) fun s r =>
    if s.sit.st ≠ 6 then s
    else
      let x := nbr s r.src
      let a := sitAck s r
      if dupNode s x (r.data.take 8) then sitQueue a r.src 2 [1] none
      else
        let b := modNbr a r.src fun y => { y with crank := fld 24 1 r.data, trk := (fld 25 1 r.data) == 1 }
        sitQueue { b with sit := { b.sit with members := b.sit.members ||| 2 ^ r.src } } r.src 2 [0] none

/-- JOIN_REPLY_FRAME (R393). -/
def execJoinReplyFrame (p : Coupling) (snr : Nat) (frame : List Nat) (s : State) : Host.Outcome State Fault Refusal :=
  onFrame s p snr frame 2 (fun _ _ _ => false) fun s r =>
    let a := sitAck s r
    if a.sit.st = 3 && r.data.getD 0 0 = 1 then
      event (setSit { a with sit := { a.sit with q := a.sit.q.filter fun e => e.world.isSome } } 7 r.src (sitEpoch s)) .sit 0x5A
        [noInst, w32 (sitNode s), w32 r.src]
    else a

/-- PHASE_FRAME (R394, R409). -/
def execPhaseFrame (p : Coupling) (snr : Nat) (frame : List Nat) (s : State) : Host.Outcome State Fault Refusal :=
  onFrame s p snr frame 3 (fun s x uid => !dupNode s x uid) fun s r =>
    sitAck (modNbr s r.src fun x =>
      { x with pmap := slice 24 16 r.data, flags := fld 40 4 r.data, crank := nbits (fld 40 4 r.data) 23 20,
               trk := x.trk || (fld 40 4 r.data).testBit 29 }) r

/-- TMAP_FRAME (R389): the proposal, capped by the mask in force, waits as the link's next map. -/
def execTmapFrame (p : Coupling) (snr : Nat) (frame : List Nat) (s : State) : Host.Outcome State Fault Refusal :=
  onFrame s p snr frame 4 (fun _ _ _ => false) fun s r =>
    let m := slice 2 355 r.data
    let n := mapCarriers fun i => min (carrierCode m i) (maskCode s i)
    sitAck (modNbr s r.src fun x => setTone x r.trk { toneOf x r.trk with next := some (fld 1 1 r.data, n) }) r

/-! ## Data frames -/

/-- End of the CFP slot in progress (14 Table 14.6). -/
def slotEnd (s : State) : Nat :=
  match bcnNow s with
  | some (_, o, _) => now s + 8192 - (o + 8192 - 6144) % 8192
  | none => now s + 8192

/-- A LEGAL copy (14 R404): the twin of an accepted copy ends the wait for it. -/
def legalTake (s : State) (r : Rx) : State :=
  if sitDup s r then
    let t := match s.sit.twin with | some (n, q, tr, _) => if n = r.src && q = r.lseq && tr != r.trk then none else s.sit.twin | none => none
    sitAck { s with sit := { s.sit with twin := t } } r
  else if 16 ≤ s.sit.legalQ.length then sitDrop s
  else
    let a := sitTake { s with sit := { s.sit with legalQ := s.sit.legalQ ++ [rxMsg r] } } r
    let b := match a.sit.twin with | some _ => { a with sit := { a.sit with twinMiss := sat 65535 (a.sit.twinMiss + 1) } } | none => a
    let c := { b with sit := { b.sit with twin := if r.mflags.testBit 3 then some (r.src, r.lseq, r.trk, slotEnd s) else none } }
    unitEv (toneReport (sitAck c r) r) .legal .sit

/-- LEGAL_FRAME (R404). -/
def execLegalFrame (p : Coupling) (snr : Nat) (frame : List Nat) (s : State) : Host.Outcome State Fault Refusal :=
  onFrame s p snr frame 5 (fun _ _ _ => false) legalTake

/-- OPEN_FRAME (R406). -/
def execOpenFrame (p : Coupling) (snr : Nat) (frame : List Nat) (s : State) : Host.Outcome State Fault Refusal :=
  onFrame s p snr frame 7 (fun _ _ _ => false) fun s r =>
    if sitDup s r then sitAck s r
    else if 16 ≤ s.sit.openQ.length then sitDrop s
    else unitEv (toneReport (sitAck (sitTake { s with sit := { s.sit with openQ := s.sit.openQ ++ [rxMsg r] } } r) r) r) .opn .sit

/-! ## Acknowledgement -/

/-- ACK_FRAME (R405): the first acknowledgement completes a frame; the other copy of a LEGAL frame still goes out once. -/
def ackTake (s : State) (f : Bytes) : State :=
  let src := fld 2 1 f
  let q := fld 4 2 f
  let trk := (fld 0 1 f).testBit 4
  let fl := match s.sit.flight with | some (d, l, t, _) => if d = src && l = q && t == trk then none else s.sit.flight | none => none
  let a := { s with sit := { s.sit with flight := fl } }
  match findAt (fun (e : SOut) => e.dest == src && e.lseq == q) a.sit.q 0 with
  | none => a
  | some (i, e) =>
    let e2 := { e with acked := e.acked ||| (if trk then 2 else 1) }
    let b := modNbr a src fun x => setTone x trk { toneOf x trk with fails := 0 }
    let c := if e.acked = 0 then sendDone b e2 0 else b
    if e.typ = 5 && !copiesDone c e2 then { c with sit := { c.sit with q := c.sit.q.set i e2 } } else dropOut c i

def execAckFrame (p : Coupling) (_snr : Nat) (frame : List Nat) (s0 : State) : Host.Outcome State Fault Refusal :=
  let f : Bytes := frame.map (BitVec.ofNat 8)
  .next (if !sitRuns s0 then s0
    else
      let s := onPreamble (sitTick s0) p
      if rxOn s p && fcOk f && fld 0 1 f % 16 == 2 && fld 3 1 f == sitNode s then ackTake s f else s)

/-- Two failed attempts in a row mark the link's map stale (14 R405). -/
def toneFail (t : Tone) : Tone := { t with fails := t.fails + 1, stale := t.stale || decide (1 ≤ t.fails) }

/-- ACK_TIMEOUT (R405). -/
def execAckTimeout (s0 : State) : Host.Outcome State Fault Refusal :=
  .next (if !sitRuns s0 then s0
    else match s0.sit.flight with
      | none => s0
      | some (d, l, trk, t) =>
        atTick s0 t fun s1 =>
          let s := sitTick s1
          let a := modNbr { s with sit := { s.sit with flight := none } } d fun x => setTone x trk (toneFail (toneOf x trk))
          match findAt (fun (e : SOut) => e.dest == d && e.lseq == l) a.sit.q 0 with
          | some (i, e) => if e.acked = 0 && spent a e then dropOut (sendDone a e stFAULT) i else a
          | none => a)

/-! ## Slots and timed steps -/

/-- The CFP slot in progress, and whether its trunk half is (14 Table 14.6). -/
def cfpSlot (s : State) : Option (Nat × Nat × Bool) :=
  match bcnNow s, s.sit.bcn with
  | some (bpi, o, _), some b =>
    let k := (o - 6144) / 8192
    if o < 6144 || b.flags / 16 % 16 ≤ k then none else some (bpi, k, decide (4096 ≤ (o - 6144) % 8192))
  | _, _ => none

/-- The slot's owner (14 R398). -/
def slotOwner (s : State) (bpi k : Nat) : Option Nat :=
  match s.sit.bcn with
  | some b =>
    let ms := (List.range 254).filter fun n => b.members.testBit n
    if ms.isEmpty then none else ms[(bpi * (b.flags / 16 % 16) + k) % ms.length]?
  | none => none

/-- The LEGAL frame whose copy on this path is due: unacknowledged, or not yet sent on it; its trunk copy follows its phase copy (R398). -/
def legalDue (trk : Bool) (e : SOut) : Bool :=
  e.typ == 5 && (if trk then e.atP != 0 && (decide (e.atT = 0) || (e.acked == 0 && decide (e.atT < 4))) else decide (e.atP = 0) || (e.acked == 0 && decide (e.atP < 4)))

/-- Number of a half-slot. -/
def slotId (bpi k : Nat) (trk : Bool) : Nat := (bpi * 16 + k) * 2 + b2n trk + 1

/-- A half-slot that the node may use and has not used. -/
def slotMine (s : State) (bpi k : Nat) (trk : Bool) : Bool :=
  slotOwner s bpi k == some (sitNode s) && s.sit.lastSlot != slotId bpi k trk && (!trk || sitTrk s)

/-- The instant at which such a half-slot next starts: now in one, else among those of as many periods as there are members. -/
def slotNext (s : State) : Nat :=
  match cfpSlot s, bcnNow s, s.sit.bcn with
  | c, some (bpi, o, len), some b =>
    if (match c with | some (n, k, trk) => slotMine s n k trk | none => false) then now s
    else
      let ns := b.flags / 16 % 16
      let hs := (List.range (255 * 2 * ns)).map fun j => (j / (2 * ns), j / 2 % ns, decide (j % 2 = 1))
      match hs.find? fun h => decide (o < h.1 * len + 6144 + 8192 * h.2.1 + 4096 * b2n h.2.2) && slotMine s (bpi + h.1) h.2.1 h.2.2 with
      | some h => now s - o + h.1 * len + 6144 + 8192 * h.2.1 + 4096 * b2n h.2.2
      | none => now s
  | _, _, _ => now s

/-- CFP_SLOT_START (R398, R404): one copy in each half-slot of the node's own slot. -/
def execCfpSlotStart (limit : Bool) (s0 : State) : Host.Outcome State Fault Refusal :=
  .next (if !sitRuns s0 || s0.clk.pfw.isSome then s0
    else
     let s1 := sitTick s0
     atTick s1 (if sitIn s1.sit.st then slotNext s1 else now s1) fun s2 =>
      let s := sitTick s2
      match cfpSlot s with
      | some (bpi, k, trk) =>
        if !sitIn s.sit.st || !slotMine s bpi k trk then s
        else match findAt (fun (e : SOut) => e.typ == 5) s.sit.q 0 with
          | some (i, e) => if legalDue trk e then (let t := sendOut s i trk limit; { t with sit := { t.sit with lastSlot := slotId bpi k trk } }) else s
          | none => s
      | none => s)

/-- A frame and its ACK end before the guard, inside the CSMA region (14 R399, Table 14.6). -/
def csmaFits (s : State) (e : SOut) : Bool :=
  match bcnNow s, s.sit.bcn with
  | some (_, o, len), some b =>
    let t := toneOf (nbr s e.dest) (csmaTrk s e)
    let r := if t.tmid = 0 || t.stale then 0 else t.rate
    decide (6144 + 8192 * (b.flags / 16 % 16) ≤ o) &&
      decide (o + (3 + payloadSyms s r t.codes (36 + e.payload.length)) * symTicks + ackTicks < len - 2048)
  | _, _ => false

/-- CSMA_BACKOFF_END (R399). -/
def execCsmaBackoffEnd (limit : Bool) (s0 : State) : Host.Outcome State Fault Refusal :=
  .next (if !sitRuns s0 || s0.clk.pfw.isSome then s0
    else
      let s := sitTick s0
      match csmaHead s with
      | some (i, e) =>
        (match e.draw with
        | some (k, t) =>
          if s.sit.flight.isNone then atTick s (t + k * symTicks) fun s => if csmaFits s e then sendOut s i (csmaTrk s e) limit else s else s
        | none => s)
      | none => s)

/-- JOIN_RETRY (R393). -/
def execJoinRetry (s0 : State) : Host.Outcome State Fault Refusal :=
  .next (if !sitRuns s0 then s0
    else
      let s := sitTick s0
      if s.sit.st = 3 then
       atTick s (s.sit.joinAt + 2000000) fun s =>
        let a := sitQueue { s with sit := { s.sit with q := s.sit.q.filter fun e => e.typ != 1 } } (sitCoord s) 1 (joinPayload s) none
        { a with sit := { a.sit with joinAt := now s } }
      else s)

/-- PHASE payload (14 Table 14.3). -/
def phasePayload (s : State) : Bytes := uidBytes s ++ fit 16 s.sit.jn ++ ownPmap s ++ le 4 (ownFlags s)

/-- The MODTICK at which the beacon period of number `n` begins. -/
def bpiTick (s : State) (n : Nat) : Nat :=
  match s.sit.bcn with
  | some b => (b.start + (n - b.bpi) * (2 * b.period) + 255) / 256
  | none => now s

/-- PHASE_REPORT_DUE (R394, R409): every 16 beacon periods, to all. -/
def execPhaseReportDue (s0 : State) : Host.Outcome State Fault Refusal :=
  .next (if !sitRuns s0 then s0
    else
      let s := sitTick s0
      if sitIn s.sit.st then
       atTick s (bpiTick s (s.sit.phaseBpi + 16)) fun s =>
        let a := sitQueue { s with sit := { s.sit with q := s.sit.q.filter fun e => e.typ != 3 } } 0xFF 3 (phasePayload s) none
        { a with sit := { a.sit with phaseBpi := bpiNow s } }
      else s)

/-- MEMBER_TIMEOUT (R394). -/
def execMemberTimeout (node : Nat) (s0 : State) : Host.Outcome State Fault Refusal :=
  .next (if !sitRuns s0 then s0
    else
      let s := sitTick s0
      if s.sit.st = 6 && sitMember s node && node != sitNode s then
        atTick s ((nbr s node).heard + 40000000) fun s => { s with sit := { s.sit with members := (s.sit.members ^^^ 2 ^ node) } }
      else s)

/-- The node starts beaconing (14 R400, R401): `bpi` is that of its first beacon. -/
def startCoord (s : State) (epoch bpi : Nat) (zok : Bool) (members : Nat) : State :=
  let o := s.sit.bcn
  let b : Bcn :=
    { coord := sitNode s, backup := 0xFE, flags := 0, bpi := (bpi + 2 ^ 32 - 1) % 2 ^ 32, epoch := epoch, crank := sitRank s,
      period := (match o with | some x => x.period | none => 256 * pNom s), start := (match o with | some x => x.start | none => 256 * now s),
      members := members }
  let a := setSit s 6 (sitNode s) epoch
  { a with sit := { a.sit with bcn := some b, members := members, zok := zok, zref := now s - 4000, resume := false } }

/-- A candidate: trunk fitted, ranked, with a reference channel (14 R400). -/
def candidate (s : State) : Bool := sitTrk s && sitRank s != 0

/-- COORDINATOR_START (R400 to R403): a node that held no classification starts without ZC_VALID unless its network is the first heard of. -/
def execCoordinatorStart (s0 : State) : Host.Outcome State Fault Refusal :=
  .next (if !sitRuns s0 then s0
    else
      let s := sitTick s0
      if candidate s && decide (2 ≤ s.sit.st) && decide (s.sit.st ≤ 5) then
       atTick s (s.sit.since + (3 + 2 * sitRank s) * (2 * pNom s)) fun s =>
        let was := sitIn s.sit.st
        if !was && !s.key.drbgOk then s
        else
          let a := if was then s else sitFresh s
          match s.sit.bcn with
          | none => startCoord a 0 0 true (2 ^ sitNode s)
          | some b => startCoord a ((b.epoch + 1) % 65536) 0 (zcSector s).isSome (if was then s.sit.members else 2 ^ sitNode s)
      else s)

/-- BACKUP_TAKEOVER (R401, R403): three beacon regions without a copy. -/
def execBackupTakeover (s0 : State) : Host.Outcome State Fault Refusal :=
  .next (if !sitRuns s0 then s0
    else
      let s := sitTick s0
      match s.sit.bcn, s.sit.st with
      | some b, 5 =>
        atTick s ((b.start + 3 * (2 * b.period) + 256 * 6144 + 255) / 256) fun s =>
          startCoord s ((b.epoch + 1) % 65536) ((b.bpi + 4) % 2 ^ 32) (zcSector s).isSome s.sit.members
      | _, _ => s)

/-- TXCTR_EXHAUSTED (R392): the node leaves and joins again. -/
def execTxctrExhausted (s0 : State) : Host.Outcome State Fault Refusal :=
  .next (if !sitRuns s0 then s0
    else
      let s := sitTick s0
      if sitIn s.sit.st && decide (2 ^ 32 - 1 ≤ s.sit.txctr) then setSit s 2 0xFE (sitEpoch s) else s)

/-- SEND_MEMBER_TIMEOUT (R405): the node has not been a member for the 10 s since acceptance. -/
def execSendMemberTimeout (s0 : State) : Host.Outcome State Fault Refusal :=
  .next (if !alive s0 || absentUnit s0 .sit || sitIn s0.sit.st then s0
    else match findAt (fun (e : SOut) => e.world.isSome && (match s0.sit.memUntil with | some m => decide (m ≤ e.born) | none => true)) s0.sit.q 0 with
      | some (i, e) => atTick s0 (e.born + 40000000) fun s0 => dropOut (sendDone s0 { e with atP := 0, atT := 0 } stFAULT) i
      | none => s0)

end Sys2Proof.Machine
end

