-- ==== Sys2Proof/Machine/TimUnit.lean ====
section
/-! DEFINITION. The TIM operations and TIM's timed steps (08 R231 to R235; 16 R447, R448). -/

namespace Sys2Proof.Machine

/-- Words 1 to 4 of TIM.READ (Table 8.1). -/
def timWords (s : State) : List Word :=
  [w32 (btNow s), w32 (btNow s >>> 32), w32 (s.bk.rtc / 32768),
    w32 (unsext 16 (rateNow s) * 65536 + 16 * b2n s.tim.unset + 4 * b2n s.tim.beacons + 2 * b2n (rateNow s != 0) + b2n (timLocked s))]

/-- TIM.READ (R235). -/
def execTimRead (c : CoreId) (rs : Reg) (s : State) : Host.Outcome State Fault Refusal :=
  unitI s c rs .tim .laneRead 5 (fun _ _ ws => onIf (resv ws 4 0xFFFF001F) stRANGE) fun _ s _ => (s, (timWords s).mapIdx fun i v => (1 + i, v))

/-- The signed VALUE of a TIM.SET. -/
def timVal (ws : List Word) : Int := sext 64 ((rw ws 2).toNat + 2 ^ 32 * (rw ws 3).toNat)

/-- TIM.SET (R233): the correction and the same move of the RTC offset. -/
def timSetAct (s : State) (ws : List Word) : Accepted :=
  let w := rw ws 1
  let d := if w.getLsbD 0 then timVal ws else ((rw ws 2).toNat + 2 ^ 32 * (rw ws 3).toNat : Nat) - (btNow s : Int)
  let r := (btNow s : Int) + d
  if timLocked s || r < 0 || 9223372036854775808 ≤ r || 2 ≤ bits w 9 8 then donePost s stORDER []
  else
    let a := { s with tim := { s.tim with rtcOff := s.tim.rtcOff + d } }
    donePost (correct a d 1 (2 + bits w 9 8) true) 0 []

def timSetOp (s : State) (c : CoreId) (rs : Reg) : Host.Outcome State Fault Refusal :=
  unitP s c rs .tim .more 1 4 (fun _ _ ws => onIf (resv ws 1 0x301) stRANGE) fun _ s ws => timSetAct s ws

def execTimSetAbsolute (c : CoreId) (rs : Reg) (s : State) : Host.Outcome State Fault Refusal := timSetOp s c rs

def execTimSetAdjust (c : CoreId) (rs : Reg) (s : State) : Host.Outcome State Fault Refusal := timSetOp s c rs

/-- TIM.DISC (R231, R233): ABSENT for beacons on a part without the site link. -/
def execTimDisc (c : CoreId) (rs : Reg) (s : State) : Host.Outcome State Fault Refusal :=
  unitI s c rs .tim .more 3
    (fun _ s ws => onIf ((rw ws 1).getLsbD 0 && absentUnit s .sit) stABSENT ++ onIf (resvs ws [(1, 1), (2, 1)]) stRANGE) fun _ s ws =>
    ({ s with tim := { s.tim with beacons := (rw ws 1).getLsbD 0 } }, [(2, w32 (b2n s.tim.beacons))])

/-- The first 60 bytes of the latches (16 Table 16.7). -/
def ledgeBytes (l : Ledge) : Bytes :=
  le 4 l.valid.toNat ++ le 2 l.lflags.toNat ++ le 2 l.pupcnt ++ le 8 l.pdBt ++ le 6 l.pdRtc ++ le 2 l.rtctrim.toNat ++ le 6 l.cellRtc ++ List.replicate 30 0

/-- TIM.LEDGE (16 R448): the copy of latches that the RTC loss spoiled fails its checks. -/
def execTimLedge (c : CoreId) (rs : Reg) (s : State) : Host.Outcome State Fault Refusal :=
  unitI s c rs .tim .laneRead 18 (fun _ _ ws => onIf (resv ws 1 0x103) stRANGE) fun _ s ws =>
    let found := (rw ws 1).getLsbD 8
    let l := if found then s.bk.found else s.bk.ledge
    let b := ledgeBytes l
    let lost := found && s.bk.rtcLost
    let crc := if lost then ~~~(crc32c b) else crc32c b
    let all := b ++ le 4 crc.toNat
    (s, (1, w32 (256 * b2n found + 2 * b2n (!lost) + b2n (l.valid == 0x4C454447))) ::
      (List.range 16).map fun i => (2 + i, w32 (fld (4 * i) 4 all)))

/-- TIM_DISCIPLINE_TICK (R231): once per second; from the RTC unless beacons discipline. -/
def execTimDisciplineTick (s : State) : Host.Outcome State Fault Refusal :=
  .next (if alive s then
     atTick s (s.tim.lastDisc + 4000000) fun s =>
      let a := { s with tim := { s.tim with lastDisc := now s } }
      if timLocked a then a else rtcCorrect a
    else s)

/-- BEACON_LOSS_TIMEOUT (R231): no beacon for 10 s. -/
def execBeaconLossTimeout (s : State) : Host.Outcome State Fault Refusal :=
  .next (match s.tim.lastBeacon with
    | some t => if alive s && s.tim.locked then atTick s (t + 40000000) fun s => { s with tim := { s.tim with locked := false } } else s
    | none => s)

/-- The MODTICK at which the running slew has absorbed all of Δ (R232). -/
def slewEnd (s : State) : Option Nat :=
  match s.tim.segs with
  | g :: _ => if s.tim.slew = 0 ∨ g.r = 0 then none else some (g.m0 + (4000000 * s.tim.slew.natAbs + g.r.natAbs - 1) / g.r.natAbs)
  | [] => none

/-- SLEW_COMPLETE (R232): the whole of Δ has been absorbed; the segment with r = 0 opens at that MODTICK, however late the command comes. -/
def execSlewComplete (s : State) : Host.Outcome State Fault Refusal :=
  .next (match slewEnd s with
    | some m => if alive s then atTick s m fun s => openSegAt (endSlew s) m (btAt s m) 0 else s
    | none => s)

/-- The trim of one second (R447): RTCTRIM × 70,368,744 in 2⁻³² period enters the fraction accumulator, and whole periods leave it. -/
def rtcTrimOnce (b : Backup) : Backup :=
  let f := b.frac + b.ledge.rtctrim.toInt * 70368744
  let k := f.tdiv 4294967296
  { b with frac := f - k * 4294967296, rtc := ((b.rtc + k) % 2 ^ 48).toNat, trims := b.trims - 1 }

/-- RTC_TRIM (16 R447): once per second, in every mode; nothing while the RTC has neither supply nor cell. -/
def execRtcTrim (s : State) : Host.Outcome State Fault Refusal :=
  .next (if s.clk.powered || s.bk.vbak then
      let t := if s.bk.trims = 0 then elapse (24000000 - s.bk.phase) s else s
      { t with bk := rtcTrimOnce t.bk }
    else s)

/-- VBAKLOW (16 R447, R448): in BACKUP the cell falls below 2.0 V; the latches are flagged, or, with the cell gone already, lost with the RTC. -/
def execVbaklow (s : State) : Host.Outcome State Fault Refusal :=
  .next (if s.clk.powered then s
    else if s.bk.ledge.lflags.getLsbD 6 then { s with bk := { s.bk with vbak := false } }
    else setLflag s 6 true)

end Sys2Proof.Machine
end

