-- ==== Sys2Proof/Machine/ObjOps.lean ====
section
/-! DEFINITION. The object gate (10 R303 to R311): catalogue, associations, access table, rights, reads and the request path. -/

namespace Sys2Proof.Machine

/-- An object message (10 Table 10.13). -/
structure ObjMsg where
  opc : Nat
  reqid : Nat
  oid : Nat
  offset : Nat
  len : Nat
  data : Bytes
  deriving DecidableEq, Repr

def ObjMsg.cls (m : ObjMsg) : Nat := nbits m.oid 31 24
def ObjMsg.inst (m : ObjMsg) : Nat := nbits m.oid 23 8
def ObjMsg.attr (m : ObjMsg) : Nat := nbits m.oid 7 0

/-- The bytes of a message as a request. -/
def parseObj (b : Bytes) : ObjMsg :=
  { opc := fld 0 1 b, reqid := fld 2 2 b, oid := fld 4 4 b, offset := fld 8 4 b, len := fld 12 2 b, data := (b.drop 16).take (fld 12 2 b) }

/-- Its response (10 R309): data only when STATUS is OK. -/
def objResponse (m : ObjMsg) (st : Nat) (data : Bytes) : Bytes :=
  let d := if st = 0 then data.take 1024 else []
  [BitVec.ofNat 8 (m.opc + 0x80), BitVec.ofNat 8 st] ++ le 2 m.reqid ++ le 4 m.oid ++ le 4 m.offset ++ le 2 d.length ++ le 2 0 ++ d

def objReply (s : State) (master node : Nat) (m : ObjMsg) (st : Nat) (data : Bytes) : State :=
  objAnswer s master node (objResponse m st data)

def masterNo (m : ObjMaster) : Nat := match m with | .hosta => 0 | .hostb => 1 | .site => 2 | .optical => 3

/-- Place of a master's association among the ports. -/
def portOf (master : Nat) : Nat := if master = 3 then 2 else master

/-! ## Associations (R304, R305) -/

def siteAssoc (s : State) (node : Nat) : Option Assoc := s.obj.site.find? fun a => a.node == node

/-- The requester's association; without one it is PUBLIC. -/
def assocOf (s : State) (master node : Nat) : Assoc :=
  if master = 2 then (siteAssoc s node).getD { Assoc.zero with node := node } else s.obj.ports.getD (portOf master) Assoc.zero

def setAssoc (s : State) (master node : Nat) (a : Assoc) : State :=
  if master = 2 then { s with obj := { s.obj with site := s.obj.site.map fun b => if b.node == node then a else b } }
  else { s with obj := { s.obj with ports := s.obj.ports.set (portOf master) a } }

/-- An association ends, with the subscription of its port (17 R464). -/
def endAssoc (s : State) (master node : Nat) : State :=
  if master = 2 then { s with obj := { s.obj with site := s.obj.site.filter fun b => b.node != node } }
  else
    let t := { s with obj := { s.obj with ports := s.obj.ports.set (portOf master) Assoc.zero } }
    modPort t (portOf master) fun p => { p with sub := 0, subExt := false }

/-- The PUBLIC SITE association that has gone longest without a request. -/
def siteIdle : List Assoc → Option Assoc
  | [] => none
  | a :: t =>
    match siteIdle t with
    | none => if a.role = 0 then some a else none
    | some b => if a.role = 0 && decide (a.last ≤ b.last) then some a else some b

/-- R304: the SITE association of a node, made on its first request; none when all 16 hold a role. -/
def siteJoin (s : State) (node : Nat) : Option State :=
  let new := { Assoc.zero with node := node, last := now s }
  let put (l : List Assoc) : State := { s with obj := { s.obj with site := l ++ [new] } }
  if (siteAssoc s node).isSome then some s
  else if s.obj.site.length < 16 then some (put s.obj.site)
  else match siteIdle s.obj.site with
    | some a => some (put (s.obj.site.filter fun b => b.node != a.node))
    | none => none

/-! ## Rights (R306) -/

/-- 10 Table 10.11: the attribute is in the catalogue. -/
def listed (cls inst attr : Nat) : Bool :=
  let rd (n : Nat) : Bool := decide (attr ≤ n)
  match cls with
  | 0x01 => inst == 0 && (rd 3 || attr == 0xC0)
  | 0x02 => decide (inst < 128) && rd 0
  | 0x03 => decide (inst < 32) && (rd 1 || attr == 0x80)
  | 0x04 => decide (inst < 64) && rd 7
  | 0x05 => decide (inst < 64) && (rd 0 || attr == 0x80)
  | 0x06 => decide (inst < 32) && (rd 1 || attr == 0xC0 || attr == 0xC1)
  | 0x07 => decide (inst < 32) && (rd 0 || attr == 0xC0)
  | 0x08 => decide (inst < 32) && (rd 0 || attr == 0xC0 || attr == 0xC1)
  | 0x09 => decide (inst < 2) && (rd 0x21 || (inst == 1 && ((decide (0x80 ≤ attr) && decide (attr ≤ 0xA1)) || attr == 0xC0)))
  | 0x0A => inst == 0 && (rd 0 || attr == 0xC0)
  | 0x0B => inst == 0 && rd 1
  | 0x0C => decide (inst < 64) && rd 0
  | 0x0D => (decide (inst < 10) && (rd 0 || attr == 0xC0)) || (inst == 0xFFFF && attr == 1)
  | 0x0E => decide (inst < 254) && rd 0
  | 0x0F => inst == 0 && rd 0
  | 0x10 => inst == 0 && rd 0
  | 0x11 => decide (inst < 8) && (rd 0 || attr == 0x80)
  | 0x12 => inst == 0 && rd 0
  | _ => decide (0x80 ≤ cls)

/-- What an attribute number allows (R303): 0 read, 1 write, 2 execute. -/
def attrKind (attr : Nat) : Nat := if attr < 0x80 then 0 else if attr < 0xC0 then 1 else 2

/-- 10 Table 10.14: the ceiling of a role for one attribute. -/
def ceiling (role cls attr : Nat) : Bool :=
  let isRead := attrKind attr == 0
  match role with
  | 0 => isRead && (cls == 0x01 || cls == 0x03 || cls == 0x04 || cls == 0x0A || cls == 0x0B || cls == 0x12)
  | 1 => isRead && ((cls == 0x01 && (attr == 0 || attr == 3)) || cls == 0x06 || cls == 0x12)
  | 2 | 3 => if isRead then cls != 0x0C else (decide (5 ≤ cls) && decide (cls ≤ 0x0A)) || cls == 0x11 || decide (0x80 ≤ cls)
  | 4 => isRead || (cls == 0x0D && attr == 0xC0)
  | 5 => true
  | _ => false

def aclFind (t : List AclEnt) (cls inst attr : Nat) : Option AclEnt :=
  t.find? fun e => e.cls == cls && decide (e.instLo ≤ inst) && decide (inst ≤ e.instHi) && decide (e.attrLo ≤ attr) && decide (attr ≤ e.attrHi)

/-- 10 R306 step 5. -/
def driverOk (s : State) (a : Assoc) (cls inst attr : Nat) : Bool :=
  if cls = 6 then
    inst == a.mp &&
      (if attr = 1 then !(bp s inst).lastClose.isEmpty && fld 16 4 (bp s inst).lastClose == a.sessid
       else match (bp s inst).sess with | some z => z.id.toNat == a.sessid | none => false)
  else true

/-- 10 R306: the right that the access table, the ceiling, the lifecycle state and the session leave an association. -/
def allowed (s : State) (a : Assoc) (cls inst attr : Nat) : Bool :=
  let k := attrKind attr
  (match aclFind s.obj.acl cls inst attr with
    | some e => e.rights.testBit (3 * a.role + k)
    | none => false) &&
    ceiling a.role cls attr && (k == 0 || decide (lcState s < 5)) && (a.role != 1 || driverOk s a cls inst attr)

/-! ## Reads (R303, R307, R310) -/

/-- 11 Table 11.17. -/
def keySlotBytes (s : State) (i : Nat) : Bytes :=
  let r := rec s i
  let pub : Bytes := if i = 1 || i = 2 then (match s.key.ks.getD i none with | some d => fit 64 (p256Pub d) | none => List.replicate 64 0) else fit 64 (recPub r)
  le 4 (r.st * 2 ^ 30 + b2n r.bank * 2 ^ 29 + b2n r.vol * 2 ^ 28 + r.gen % 2 ^ 24) ++ le 4 (b2n r.pend * 2 ^ 31 + r.pendGen % 2 ^ 24) ++
    le 4 (recAttr r).toNat ++ le 4 (recLink r % 128 + 256 * b2n r.vol + 512 * b2n (slotLoaded s i)) ++ pub

/-- An i64 as eight bytes. -/
def leI (v : Int) : Bytes := le 8 (unsext 64 v)

/-- The value of a read attribute that is not read by index (10 Table 10.11). -/
def objValue (s : State) (master : Nat) (a : Assoc) (cls inst attr : Nat) : Bytes :=
  let x := bp s (inst % 32)
  let h := bp s (inst / 2)
  match cls with
  | 0x01 =>
    if attr = 0 then wordsBytes (capWords s)
    else if attr = 1 then le 4 (lcState s)
    else if attr = 2 then (List.range 7).flatMap fun n => match s.hl.measures.getD n none with | some b => fit 32 b | none => List.replicate 32 0
    else le 8 (btNow s)
  | 0x02 => wordsBytes (chnStatus s inst)
  | 0x03 =>
    if attr = 0 then wordsBytes ((List.range 5).map fun i => defWord s inst (i + 1))
    else match (rel s inst).frames with
      | (f, st) :: _ => fit 64 f ++ le 4 st
      | [] => List.replicate 68 0
  | 0x04 =>
    if attr = 7 then le 8 ((if inst % 2 = 0 then h.pdM else h.pdC) / 256)
    else (List.range 9).flatMap fun i => le 8 (regVal h attr (inst % 2) i)
  | 0x05 => wordsBytes (regWords s (inst / 2) 7 0 (inst % 2))
  | 0x06 => if attr = 0 then wordsBytes ((regWords s inst 8 0 0).take 12) else fit 256 x.lastClose
  | 0x07 => leI x.credit ++ leI x.warn ++ leI x.reduce ++ leI x.exhaust ++ leI x.reserve ++ le 4 x.crgen.toNat ++ le 4 (4 * b2n x.prepay + x.level)
  | 0x08 => wordsBytes (w32 inst :: rlyStatus s inst)
  | 0x09 => fit 64 (if inst = 0 then s.bil.bank.getD attr [] else (s.bil.shadow.getD attr none).getD [])
  | 0x0A => wordsBytes (timWords s)
  | 0x0B => wordsBytes (ldgStatus s)
  | 0x0C => keySlotBytes s inst
  | 0x0D => wordsBytes (w32 inst :: tmpStatus s inst)
  | 0x0E => wordsBytes (nbrWords s inst)
  | 0x0F => wordsBytes (dpyWords s)
  | 0x10 => wordsBytes (pairWords s)
  | 0x11 => wordsBytes (plsWords s inst)
  | _ =>
    [BitVec.ofNat 8 (4 + master), BitVec.ofNat 8 a.role, BitVec.ofNat 8 a.mp, 0] ++ le 4 a.sessid ++
      le 4 ((a.last + msTick 300000 - now s) / msTick 1000) ++ le 4 0

/-- 10 R307: ledger records from OFFSET on. -/
def readRecords (s : State) (off len : Nat) : Nat × Bytes :=
  if len % 128 ≠ 0 || len = 0 || s.ldg.next < off + len / 128 then (stRANGE, [])
  else
    let rs := (List.range (len / 128)).map fun i => ldgRecord s (off + i)
    if rs.all (·.isSome) then (0, rs.flatMap fun r => match r with | some (b, _) => b | none => []) else (stFAULT, [])

/-- Strandline entries from index OFFSET on, 32 bytes each. -/
def readEntries (s : State) (off len : Nat) : Nat × Bytes :=
  let es := (List.range (len / 32)).map fun i => ringEntry s (off + i)
  if len % 32 ≠ 0 || len = 0 || !es.all (·.isSome) then (stRANGE, [])
  else (0, es.flatMap fun e => match e with | some x => fit 32 x.bytes | none => [])

/-- A READ from the unit state of one cycle (R310). -/
def objRead (s : State) (master : Nat) (a : Assoc) (m : ObjMsg) : Nat × Bytes :=
  if m.cls = 0x0B && m.attr = 1 then readRecords s m.offset m.len
  else if m.cls = 0x0D && m.inst = 0xFFFF then readEntries s m.offset m.len
  else if m.cls = 0x0E && !nbrKnown s m.inst then (stRANGE, [])
  else
    let b := objValue s master a m.cls m.inst m.attr
    if b.length < m.offset + m.len then (stRANGE, []) else (0, (b.drop m.offset).take m.len)

/-! ## The request path (R309 to R311) -/

/-- A master's requests without a response. -/
def outstanding (s : State) (master : Nat) : List ObjReq := (s.obj.legalQ ++ s.obj.openQ ++ s.obj.taken).filter fun r => r.master == master

/-- A 17th request, or a REQID already outstanding (R309). -/
def objDup (s : State) (master reqid : Nat) : Bool :=
  decide (16 ≤ (outstanding s master).length) || (outstanding s master).any fun r => r.reqid == reqid

/-- Headland does not take requests: STARTUP or a restart (R119, R466). -/
def objHeld (s : State) : Bool := s.clk.mode == 1 || s.hl.restarting || !s.legal.released

/-- Statuses of a READ, WRITE or EXEC in the order of R13, those of the read itself among them (R303, R307, R310). -/
def objSt (s : State) (a : Assoc) (master : Nat) (m : ObjMsg) : Nat :=
  let opn := decide (0x80 ≤ m.cls)
  let queued := m.opc != 1 || opn
  let r := if queued then 0 else (objRead s master a m).1
  pick (onIf ((m.cls = 0x0E && !s.fuse.variant.sit) || (m.cls = 0x0F && !s.fuse.variant.dpy)) stABSENT ++
    onIf (!allowed s a m.cls m.inst m.attr) stDENIED ++
    onIf (m.opc != attrKind m.attr + 1 || !listed m.cls m.inst m.attr || decide (1024 < m.len) || (m.opc != 1 && m.offset != 0) ||
      decide (1024 < m.data.length) || r == stRANGE) stRANGE ++
    onIf (objDup s master m.reqid) stORDER ++ onIf (r == stFAULT) stFAULT ++
    onIf (decide (s.clk.bootStage < 2) && s.clk.mode == 1 || (queued && objHeld s)) stBUSY ++
    onIf (queued && decide (16 ≤ (if opn then s.obj.openQ else s.obj.legalQ).length)) stFULL)

/-- The first free handle from a number on. -/
def freeHandle (used : List Nat) : Nat → Nat → Nat
  | 0, h => h
  | n + 1, h => if used.contains h then freeHandle used n ((h + 1) % 256) else h

/-- A write or execute, or a read of an OPEN class, enters the queue of its world (R310, R313). -/
def objQueue (s : State) (master node : Nat) (a : Assoc) (m : ObjMsg) : State :=
  let opn := decide (0x80 ≤ m.cls)
  let h := freeHandle ((s.obj.legalQ ++ s.obj.openQ ++ s.obj.taken).map (·.handle)) 256 s.obj.handle
  let r : ObjReq := { master := master, node := node, reqid := m.reqid, oid := m.oid, offset := m.offset, exec := m.opc == 3, role := a.role, data := m.data, born := now s,
                      handle := h, opn := opn }
  let t := { s with obj := { s.obj with handle := (h + 1) % 256, legalQ := if opn then s.obj.legalQ else s.obj.legalQ ++ [r],
                                        openQ := if opn then s.obj.openQ ++ [r] else s.obj.openQ } }
  let u := unitEv t .legal .obj
  if opn then unitEv u .opn .obj else u

/-- READ, WRITE and EXEC (R306, R310). -/
def objAccess (s : State) (master node : Nat) (m : ObjMsg) : State :=
  let a := assocOf s master node
  let st := objSt s a master m
  if st ≠ 0 then objReply s master node m st []
  else if m.opc = 1 && m.cls < 0x80 then objReply s master node m 0 (objRead s master a m).2
  else objQueue s master node a m

/-- 10 Table 10.12: the lifecycle states in which a role is granted. -/
def roleGranted (role st : Nat) : Bool :=
  match role with
  | 1 => st == 2 || st == 3
  | 2 | 3 => st == 2 || st == 3 || st == 4
  | 4 => decide (1 ≤ st) && decide (st ≤ 5)
  | 5 => st == 1 || st == 2 || st == 4
  | _ => false

def authSt (s : State) (master : Nat) (m : ObjMsg) : List Nat :=
  onIf (objDup s master m.reqid) stORDER ++ onIf (decide (s.clk.bootStage < 2) && s.clk.mode == 1) stBUSY ++ onIf (m.oid != 0 || m.offset != 0) stRANGE

/-- AUTH_BEGIN (R304, R305): a nonce from the DRBG. -/
def authBegin (s : State) (master node : Nat) (m : ObjMsg) : State :=
  let role := fld 0 1 m.data
  let st := pick (authSt s master m ++ onIf (m.data.length != 1 || decide (role < 1) || decide (5 < role)) stRANGE ++
    onIf (decide (1 ≤ role) && decide (role ≤ 5) && (!roleGranted role (lcState s) || decide (64 ≤ roleSlot s role))) stDENIED ++
    onIf (decide (now s < s.obj.lockEnd.getD master 0) || reseedDue s) stBUSY ++ onIf (!s.key.drbgOk) stFAULT)
  if st ≠ 0 then objReply s master node m st []
  else
    let n := drbg s 16
    objReply (setAssoc (drbgUsed s) master node { assocOf s master node with nonce := some (n, role, now s) }) master node m 0 n

/-- The proof of a role over NONCE ‖ UID ‖ MASTER ‖ ROLE verifies (10 Table 10.12, 11 Table 11.4). -/
def proofOk (s : State) (master role : Nat) (nonce proof : Bytes) : Bool :=
  let msg := nonce ++ uidBytes s ++ [BitVec.ofNat 8 (4 + master), BitVec.ofNat 8 role]
  if role = 1 then
    let i := roleSlot s 1
    let a := recAttr (rec s i)
    match cached s i with
    | some k =>
      proof.length == 37 && a.getLsbD uDERIVE && attrLcs a (lcState s) &&
        proof.drop 5 == hmac (kdf k.key 0x10 0 (lcDomain (lcState s)) (proof.take 5) 256) msg
    | none => false
  else
    match rolePub s role with
    | some k => proof.length == 64 && ecdsaVerify k (sha256 msg) proof
    | none => false

/-- A failed proof (R305): counted, recorded, and the master is locked out. -/
def authFailed (s : State) (master role : Nat) : State :=
  let k := s.obj.fails.getD master 0 + 1
  let o := { s.obj with
    fails := s.obj.fails.set master k, lockEnd := s.obj.lockEnd.set master (now s + msTick (1000 * min 1024 (2 ^ (k - 1)))),
    authFail := sat 0xFFFFFFFF (s.obj.authFail + 1) }
  event { s with obj := o } .obj 0x44 [noInst, w32 (4 + master), w32 role, w32 k]

/-- The nonce and role that an AUTH_PROVE answers: given within the last 10 s (R309). -/
def liveNonce (s : State) (a : Assoc) : Option (Bytes × Nat) :=
  match a.nonce with
  | some (n, role, t) => if now s ≤ t + msTick 10000 then some (n, role) else none
  | none => none

/-- The role of a verified proof is taken; a MAKER or VERIFIER grant is decided twice (R305). -/
def authGrant (s : State) (master node : Nat) (a : Assoc) (role : Nat) (m : ObjMsg) (agree : Bool) : State :=
  let s := { s with obj := { s.obj with fails := s.obj.fails.set master 0 } }
  let b := { a with nonce := none, role := role, mp := if role = 1 then fld 4 1 m.data else 0, sessid := if role = 1 then fld 0 4 m.data else 0 }
  if role = 4 || role = 5 then
    if agree then objReply (event (setAssoc s master node b) .obj 0x45 [noInst, w32 (4 + master), w32 role]) master node m 0 []
    else objReply (notify9 s 6 6) master node m stFAULT []
  else objReply (setAssoc s master node b) master node m 0 []

/-- AUTH_PROVE (R304, R305), its statuses in the order of R13: a proof that fails is DENIED before all others, and ORDER answers one without a live nonce. -/
def authProve (s : State) (master node : Nat) (m : ObjMsg) (agree : Bool) : State :=
  let a := assocOf s master node
  let live := liveNonce s a
  let s := setAssoc s master node { a with nonce := none }
  match live with
  | none => objReply s master node m (pick (authSt s master m ++ [stORDER])) []
  | some (n, role) =>
    let ok := roleGranted role (lcState s) && proofOk s master role n m.data
    let st := pick (authSt s master m ++ onIf (!ok) stDENIED)
    if st = stDENIED then objReply (authFailed s master role) master node m st []
    else if st ≠ 0 then objReply s master node m st []
    else authGrant s master node a role m agree

/-- LOGOUT (R305). -/
def authLogout (s : State) (master node : Nat) (m : ObjMsg) : State :=
  let st := pick (authSt s master m)
  if st ≠ 0 then objReply s master node m st [] else objReply (endAssoc s master node) master node m 0 []

/-- A request reaches the gate (R304, R309): its association is found or made and takes note of the request. A part without the site link has no master SITE (01 R35). -/
def objRequest (s : State) (master node : Nat) (m : ObjMsg) (agree : Bool) : State :=
  if !alive s || s.clk.bootStage = 3 || (master == 2 && absentUnit s .sit) then s
  else
    match (if master = 2 then siteJoin s node else some s) with
    | none => objReply s master node m stBUSY []
    | some t =>
      let u := setAssoc t master node { assocOf t master node with last := now s }
      match m.opc with
      | 4 => authBegin u master node m
      | 5 => authProve u master node m agree
      | 6 => authLogout u master node m
      | _ => objAccess u master node m

end Sys2Proof.Machine
end

