-- ==== Sys2Proof/Machine/Attest.lean ====
section
/-! DEFINITION. The attestation statement and KEY.ATTEST (11 R339, R340). -/

namespace Sys2Proof.Machine

/-! ## CBOR, deterministically encoded (RFC 8949, section 4.2.1) -/

/-- Major type `t` with argument `n`, in the shortest form. -/
def cborHead (t n : Nat) : Bytes :=
  if n < 24 then be 1 (32 * t + n)
  else if n < 2 ^ 8 then be 1 (32 * t + 24) ++ be 1 n
  else if n < 2 ^ 16 then be 1 (32 * t + 25) ++ be 2 n
  else if n < 2 ^ 32 then be 1 (32 * t + 26) ++ be 4 n
  else be 1 (32 * t + 27) ++ be 8 n

def cborUint (n : Nat) : Bytes := cborHead 0 n
def cborBytes (b : Bytes) : Bytes := cborHead 2 b.length ++ b
def cborText (b : Bytes) : Bytes := cborHead 3 b.length ++ b
def cborBool (b : Bool) : Bytes := be 1 (if b then 0xF5 else 0xF4)
def cborArray (xs : List Bytes) : Bytes := cborHead 4 xs.length ++ xs.flatten

/-- A map with the keys 1, 2, 3 and so on. -/
def cborMap (xs : List Bytes) : Bytes := cborHead 5 xs.length ++ (xs.mapIdx fun i x => cborUint (i + 1) ++ x).flatten

/-! ## Claims (Table 11.14) -/

/-- Claim 7: the calibration table region, trim records, cable models and sticky words as 0 (log 15). -/
def calHash (s : State) : Bytes :=
  let z (n : Nat) : Bytes := List.replicate n 0
  let m (a n : Nat) : Bytes := Mem.readN s.mram a n
  sha256 (m 0x010000 0x010000 ++ z 0x2700 ++ m 0x022700 0x013540 ++ z 0x400 ++ m 0x036040 0x700 ++ z 0x200 ++ m 0x036940 0x96C0)

/-- Claim 11: the newest entry in the ring (12 R358). -/
def strandHead (s : State) : Bytes := match s.tmp.ring.getLast? with | some e => sha256 e.bytes | none => List.replicate 32 0

/-- Claim 6: the loaded images. -/
def imageClaim (s : State) : Bytes := cborArray (s.hl.measures.map fun m => match m with | some b => cborBytes b | none => be 1 0xF6)

/-- The payload; `fm` is the frame memory for claim 14. -/
def claims (s : State) (nonce : Bytes) (fm : Option Mem) : Bytes :=
  cborMap ([cborBytes (uidBytes s), cborUint (lcState s), cborBool s.key.test, cborBytes (wordsBytes (capWords s)), cborUint s.key.shadow, imageClaim s,
      cborBytes (calHash s), cborBytes (sha256 (Mem.readN s.mram 0x035C40 0x400)), cborBytes (sha256 s.obj.aclImage), cborBytes (sha256 s.bil.bank.flatten),
      cborBytes (strandHead s), cborUint (btNow s), cborBytes nonce] ++
    match fm with | some m => [cborBytes (sha256 (Mem.readN m 0 12288))] | none => [])

/-- The protected header: the map of 1 to −7. -/
def protHeader : Bytes := [0xA1, 0x01, 0x26]

/-- The Sig_structure under "Signature1". -/
def sigStructure (payload : Bytes) : Bytes :=
  cborArray [cborText [0x53, 0x69, 0x67, 0x6E, 0x61, 0x74, 0x75, 0x72, 0x65, 0x31], cborBytes protHeader, cborBytes [], cborBytes payload]

/-- The COSE_Sign1 structure with tag 18, signed by K_ATT (R339). -/
def statement (s : State) (katt nonce : Bytes) (fm : Option Mem) : Bytes :=
  let p := claims s nonce fm
  let kid := (sha256 (fit 64 (p256Pub katt))).take 8
  be 1 0xD2 ++
    cborArray [cborBytes protHeader, cborHead 5 1 ++ cborUint 4 ++ cborBytes kid, cborBytes p,
      cborBytes (fit 64 (ecdsaSign katt (sha256 (sigStructure p)) s.free))]

/-! ## KEY.ATTEST -/

/-- Claim 14 is asked for and the display unit is present (01 R34). -/
def attestDpy (s : State) (ws : List Word) : Bool := (rw ws 1).getLsbD 0 && s.fuse.variant.dpy

/-- KEY.ATTEST (R339, R340): the frame memory is read at the next frame start (15 Table 15.2). -/
def execKeyAttest (c : CoreId) (rs : Reg) (s : State) : Host.Outcome State Fault Refusal :=
  unitP s c rs .key .more 11 6
    (fun x s ws =>
      let w := worldOfCtx x
      onIf (erased s || decide (5 ≤ lcState s)) stDENIED ++ onIf (resvs ws [(1, 1), (4, 0xFFFF), (5, 0xFFFF)]) stRANGE ++ bufBad s w (rw ws 2) 16 ++
        bufBad s w (rw ws 3) (min 617 (bits (rw ws 4) 15 0)) ++ onIf (!s.key.drbgOk) stFAULT)
    fun _ s ws => later1 (if attestDpy s ws then { s with dpy := { s.dpy with attWait := true } } else s)

/-- The frame memory that an operation hashes: none yet while frames run and none has started since; a display that scans no frame is read as it stands (log 31). -/
def attestFm (s : State) : Option Mem := if s.dpy.scan then s.dpy.attRead else some s.dpy.fm

/-- The statement is built, or RANGE when OUTMAX is below its length (R340). -/
def buildAttest (s : State) (q : Posted) (fm : Option Mem) : State × Nat × List (Nat × Word) :=
  match s.key.ks.getD 2 none with
  | none => (s, stDENIED, [])
  | some k =>
    let b := statement s k (dataRead s (.world q.world) (rw q.words 2) 16) fm
    if bits (rw q.words 4) 15 0 < b.length then (s.used, stRANGE, []) else (bufOut s.used q.world q.live (rw q.words 3) b, 0, [(5, w32 b.length)])

/-- KEY.ATTEST runs; none while it waits for a frame start. -/
def runAttest (s : State) (q : Posted) : Option (State × Nat × List (Nat × Word)) :=
  if attestDpy s q.words then
    match attestFm s with
    | none => none
    | some m => some (buildAttest { s with dpy := { s.dpy with attRead := none, attWait := false } } q (some m))
  else some (buildAttest s q none)

end Sys2Proof.Machine
end

