-- ==== Sys2Proof/Machine/Relief.lean ====
section
/-! DEFINITION. The clusters' start, the relief slots, overloads and crossings (02 R49 to R69; 03 R93). -/

namespace Sys2Proof.Machine

/-- CLUSTER_START (R69): CLk's modulators are powered 25 × k µs after t0. -/
def execClusterStart (k : ClusterId) (s : State) : Host.Outcome State Fault Refusal :=
  .next (if alive s && s.clk.mode == 1 then atTick s (100 * k.val) fun s => modClu s k.val fun c => { c with on := true } else s)

/-- BSCLK_START (R69): BSCLKg starts 200 µs + 25 × g µs after t0; its chains have the origins of 03 R84. -/
def execBsclkStart (g : BsGroup) (s : State) : Host.Outcome State Fault Refusal :=
  .next (if alive s && s.clk.mode == 1 then atTick s (800 + 100 * g.val) fun s => { s with bsclk := s.bsclk.set g.val true } else s)

/-- A slot starts: SPk measures the levels, whose codes are judged at 200 ms (R50, R51, Table 2.7). -/
def slotBegin (s : State) (k t : Nat) (cal : Int × Int × Int × Int) : State :=
  let n := slotCh s k
  modClu s k fun c => { c with phase := 1, start := t, off := 0, skip := slotSkip s n, second := false, held60 := false, dirty := false, parked := false,
                               cal := some cal, sp := none, mj := none }

/-- SPk's self-calibration ends: its checks and its new trim (R45, R56, R58, R59); the slot is abandoned and the rotation stops when the trim is out of range. -/
def judgeSp (s : State) (k : Nat) (cal : Int × Int × Int × Int) : State :=
  let n := slotCh s k
  let g := chGain (chan s n)
  let b := driftCheck (modClu s k fun c => { c with cal := none }) k g cal.2.1 cal.2.2.2
  let t := trimFor s k g cal.1 cal.2.1 cal.2.2.1
  match t with
  | some (gt, ot) =>
    if trimBad gt ot then event (stopRotation b k) .chn 0x18 [w32 k]
    else if (clu b k).drift then b
    else calDrift (modClu b k fun c => { c with sp := some (gt, ot) }) k 12 n gt ot
  | none => event (stopRotation b k) .chn 0x18 [w32 k]

/-- RELIEF_SLOT_START (R50, R51): the slots of a cluster follow one another. The operands are the codes, at preset scale and untrimmed, that SPk measures for zero, +L, −L and REFB. -/
def execReliefSlotStart (k : ClusterId) (zero : Int) (levels : Int × Int) (refb : Int) (s : State) : Host.Outcome State Fault Refusal :=
  let c := clu s k.val
  .next (match c.next with
    | some t =>
      if alive s && c.on && c.phase == 0 && !c.stopped && !c.paused then atTick s t fun s => slotBegin s k.val t (zero, levels.1, levels.2, refb) else s
    | none => s)

/-- RELIEF_CONNECT (R51, R56, R57): at 200 ms SPk's calibration is judged; SPk commits its record (at relock, when the PLL is unlocked) and is connected, or stays idle in a skipped slot. -/
def execReliefConnect (k : ClusterId) (s : State) : Host.Outcome State Fault Refusal :=
  let c := clu s k.val
  .next (if alive s && c.on && c.phase == 1 then
     atTick s (slotAt s k.val 200) fun s =>
      let j := match (clu s k.val).cal with | some cal => judgeSp s k.val cal | none => s
      let a := if lockedNow j then commitSp j k.val else j
      if (clu a k.val).stopped then a
      else if c.skip || slotSkip s (slotCh s k.val) then slotIdle a k.val else enterCmp a k.val 2 (slotAt s k.val 201)
    else s)

/-- RELIEF_TAKE_OVER (R51 to R54): the take-over comparison ends; gain and offset differences in 0.1 ppm, the gain only when `loud`. -/
def execReliefTakeOver (k : ClusterId) (loud : Bool) (dGain dOff : Int) (s : State) : Host.Outcome State Fault Refusal :=
  .next (if cmpDue s k.val 2 && lockedNow s then
     atTick s (s1Edge s k.val (cmpAtEnd s k.val 2)) fun s =>
      let n := slotCh s k.val
      if dOff.natAbs ≤ 500 && (!loud || decide (dGain.natAbs ≤ 5000)) then
        let a := modCh (markRlf s n) n fun c => { c with aborts := 0 }
        shiftTo (modClu a k.val fun c => { c with phase := 3 }) k.val 301 (cmpAtEnd s k.val 2)
      else abandon s k.val 1
    else s)

/-- RELIEF_TAKEOVER_TIMEOUT (R53): 1 s after the first start of the take-over comparison. -/
def execReliefTakeoverTimeout (k : ClusterId) (s : State) : Host.Outcome State Fault Refusal :=
  let c := clu s k.val
  .next (if alive s && c.on && c.phase == 2 then atTick s (c.first + ms 1000) fun s => abandon s k.val 2 else s)

/-- RELIEF_MJ_RECONNECT (R45, R51, R55, R58, R59): Mj's calibration ends at 1801 ms. The operands are the codes that Mj measures for zero, +L, −L and REFB. -/
def execReliefMjReconnect (k : ClusterId) (zero : Int) (levels : Int × Int) (refb : Int) (s : State) : Host.Outcome State Fault Refusal :=
  let c := clu s k.val
  .next (if alive s && c.on && c.phase == 3 then
     atTick s (slotAt s k.val 1801) fun s =>
      let n := slotCh s k.val
      let a := driftCheck s k.val (chGain (chan s n)) levels.1 refb
      let e := enterCmp a k.val 4 (slotAt s k.val 1802)
      if (clu a k.val).drift then modClu e k.val fun c => { c with mj := none }
      else match trimFor s k.val (chGain (chan s n)) zero levels.1 levels.2 with
        | some (gt, ot) =>
          if trimBad gt ot then retire1 a k.val
          else calDrift (modClu e k.val fun c => { c with mj := some (gt, ot) }) k.val c.slot n gt ot
        | none => retire1 a k.val
    else s)

/-- RELIEF_TRIM_APPLY (R51, R52): the return comparison gives DRIFT_G, which has no stated value on a quiet channel (log 1). -/
def execReliefTrimApply (k : ClusterId) (loud : Bool) (dGain : Int) (s : State) : Host.Outcome State Fault Refusal :=
  .next (if cmpDue s k.val 4 && lockedNow s then
     atTick s (s1Edge s k.val (cmpAtEnd s k.val 4)) fun s =>
      let a := modClu s k.val fun c => { c with driftG := if loud then dGain else sext 16 (Config.freeNat s.free) }
      let e := cmpAtEnd s k.val 4
      enterCmp (shiftTo (if loud then a else a.used) k.val 1902 e) k.val 5 e
    else s)

/-- RELIEF_HANDBACK (R51, R52, R55): the verification ends; the record is committed, the phases repeat once, or Mj is retired. -/
def execReliefHandback (k : ClusterId) (loud : Bool) (dGain dOff : Int) (s : State) : Host.Outcome State Fault Refusal :=
  .next (if cmpDue s k.val 5 && lockedNow s then
     atTick s (s1Edge s k.val (cmpAtEnd s k.val 5)) fun s =>
      let c := clu s k.val
      let n := slotCh s k.val
      if dOff.natAbs ≤ 50 && (!loud || decide (dGain.natAbs ≤ 200)) then
        let a := shiftTo (markRlf s n) k.val 1952 (cmpAtEnd s k.val 5)
        let b := match c.mj with | some (g, o) => commitTrim a k.val c.slot (chGain (chan s n)) g o c.driftG | none => a
        slotIdle b k.val
      else if c.second then retire1 s k.val
      else modClu s k.val fun c => { c with second := true, phase := 3, off := cmpAtEnd s k.val 5 - (c.start + ms 301), mj := none }
    else s)

/-- RELIEF_WAIT_60S (R53): recorded once. -/
def execReliefWait60s (k : ClusterId) (s : State) : Host.Outcome State Fault Refusal :=
  let c := clu s k.val
  .next (if alive s && c.on && (c.phase == 4 || c.phase == 5) && !c.held60 then
     atTick s (c.first + ms (cmpLen c.phase) + ms 60000) fun s =>
      abortEvent (modClu s k.val fun c => { c with held60 := true }) (slotCh s k.val) 2 1
    else s)

/-- RELIEF_SLOT_END (R50): the next slot follows without a gap. -/
def execReliefSlotEnd (k : ClusterId) (s : State) : Host.Outcome State Fault Refusal :=
  let c := clu s k.val
  .next (if alive s && c.on && c.phase == 6 && !c.stopped && !c.paused then
     atTick s (slotAt s k.val 2000) fun s =>
      modClu s k.val fun c => { c with phase := 0, slot := (c.slot + 1) % 12, next := some (c.start + c.off + ms 2000) }
    else s)

/-- An overload begins (R63): OVR is recorded when it changes from 0 to 1. -/
def overStart (s : State) (n : Nat) (pos : Bool) : State :=
  let a := modCh s n fun c => { c with overs := { start := now s, stop := none, pos := pos } :: oversKept c (now s) }
  setOvr (if isAin n then soil (modClu a (n / 12) fun c => { c with dist := true }) (n / 12) else a) n

/-- An overload lasts until it is ended. -/
def inOver (c : Ch) : Bool := c.overs.any fun o => o.stop.isNone

/-- MODTICK at which the last overload of the channel ended. -/
def overEnd (c : Ch) : Nat := (c.overs.filterMap (·.stop)).foldl max 0

/-- OVERLOAD_START (R63). -/
def execOverloadStart (ch : ChanId) (pos : Bool) (s : State) : Host.Outcome State Fault Refusal :=
  .next (if alive s && chRuns s ch.val && !inOver (chan s ch.val) then overStart s ch.val pos else s)

/-- OVERLOAD_END (R64): an AIN integrator is clamped; a BSI input is no longer stuck. -/
def execOverloadEnd (ch : ChanId) (s : State) : Host.Outcome State Fault Refusal :=
  .next (if alive s && inOver (chan s ch.val) then
      modCh s ch.val fun c =>
        { c with overs := c.overs.map fun o => if o.stop.isNone then { o with stop := some (now s) } else o, clamp := isAin ch.val, stuck := false }
    else s)

/-- INTEGRATOR_CLAMP_RELEASE (R64): 4 µs later. -/
def execIntegratorClampRelease (ch : ChanId) (s : State) : Host.Outcome State Fault Refusal :=
  let c := chan s ch.val
  .next (if alive s && c.clamp && !inOver c then
     atTick s (overEnd c + 16) fun s =>
      modCh s ch.val fun c => { c with clamp := false }
    else s)

/-- CLUSTER_DISTURBANCE_END (R53, R64): 20 µs after the last overload of the cluster. -/
def execClusterDisturbanceEnd (k : ClusterId) (s : State) : Host.Outcome State Fault Refusal :=
  let cs := (List.range 12).map fun j => chan s (12 * k.val + j)
  .next (if alive s && (clu s k.val).dist && !(cs.any inOver) then
     atTick s ((cs.map overEnd).foldl max 0 + 80) fun s =>
      restartCmp (modClu s k.val fun c => { c with dist := false }) k.val
    else s)

/-- BSI_STUCK (R49): 64 BSCLK periods at one level. -/
def execBsiStuck (ch : ChanId) (pos : Bool) (s : State) : Host.Outcome State Fault Refusal :=
  .next (if alive s && !isAin ch.val && chRuns s ch.val && !(chan s ch.val).stuck then
      let a := modCh (if inOver (chan s ch.val) then s else overStart s ch.val pos) ch.val fun c => { c with stuck := true }
      if (sticky a ch.val).getLsbD 1 then a else event (setSticky a ch.val 1) .chn 0x16 [w32 ch.val]
    else s)

/-- ZERO_CROSSING (03 R92, R93): the fast path takes the bits since its last value, in groups of 64, oldest first, of the channel's own modulator and, while it is connected, of the relief modulator; the values they give are delivered, and a crossing that an armed detector finds goes to RLY and the lanes with its direction and instant. -/
def execZeroCrossing (ch : ChanId) (n : Nat) (bits relief : List Bool) (s : State) : Host.Outcome State Fault Refusal :=
  let f := (chan s ch.val).fast
  .next (if alive s && chRuns s ch.val && decide (0 < n) && bits.length == 64 * n && (!spOn s ch.val || relief.length == 64 * n) then
      atTick s (f.tf + 64 * (f.n + n - 1)) fun s => fastRun s ch.val n bits relief
    else s)

end Sys2Proof.Machine
end

