-- ==== Sys2Proof/Machine/ClkOps.lean ====
section
/-! DEFINITION. Modes, SLACK freezes and the debug port (16 R440 to R442, R449 to R454; 11 R315). -/

namespace Sys2Proof.Machine

def modClk (s : State) (f : Clk → Clk) : State := { s with clk := f s.clk }

/-- A mode change writes MODE_CHANGE and raises CLK's event (16 R441, R454). -/
def setMode (s : State) (m role : Nat) : State :=
  let a := modClk s fun c => { c with mode := m, prevMode := c.mode, modechg := sat 65535 (c.modechg + 1) }
  unitEv (event a .clk 0x66 [noInst, w32 s.clk.mode, w32 m, w32 role, s.clk.redmask]) .legal .clk

/-! ## Modes -/

/-- Used channels of a point's definition. -/
def pointChans (s : State) (mp : Nat) : List Nat :=
  if mpDefined s mp then ((List.range 4).map (chanByte (defWord s mp 2)) ++ (List.range 4).map (chanByte (defWord s mp 3))).filter usedCh else []

/-- Channels of the points in a mask. -/
def maskChans (s : State) (m : Word) : List Nat :=
  (List.range 128).filter fun n => (List.range 32).any fun mp => m.getLsbD mp && (pointChans s mp).contains n

/-- 06 R168: the points of the part may leave SERVICE. -/
def pointsReady (s : State) : Bool :=
  (List.range 32).all fun mp =>
    let cs := pointChans s mp
    let run (p n : Nat) : Bool := chEnabled (chan s n) && (chan s n).chain.st != 0 && (chan s n).chain.preset == p
    !mpDefined s mp || cs.all (run 1) || (isDc s mp && cs.all (run 2))

/-- 16 Table 16.4: SERVICE may be entered. -/
def serviceOk (s : State) (role : Nat) : Bool :=
  makerOrRepair s || (lcState s == 3 && role == 4 && (s.obj.ports ++ s.obj.site).any (fun a => a.role == 4) && !coilAny s)

/-- 16 Table 16.4: REDUCED may be entered. -/
def reducedOk (s : State) (m : Word) : Bool :=
  let cs := maskChans s m
  decide (1 ≤ cs.length) && decide (cs.length ≤ 24) && (cs.all fun n => (chan s n).chain.st != 0 && (chan s n).chain.preset == 1) &&
    (List.range 32).all fun r => m.getLsbD r || !coilOn (rel s r)

/-- The end of STARTUP (16 R441): the rotations are armed, and SLACK_N counts unless it is low (R449). -/
def endStartup (s : State) : State := modClk (reliefArm s) fun c => { c with slackArmed := !c.slackPin }

/-- REDUCED begins (16 R442; 03 Table 3.12; 14 Table 14.8; 15 Table 15.2). -/
def beginReduced (s : State) : State :=
  let cs := maskChans s s.clk.redmask
  sitStop (dpyReduce (reliefReduce (chnReduce (modClk s fun c => { c with reducedSpans := ((now s, none) :: c.reducedSpans).take 4 }) cs.contains))) false

/-- The return from REDUCED to RUN. -/
def endReduced (s : State) : State :=
  sitGo (reliefReturn (chnReturn (modClk s fun c =>
    { c with reducedSpans := match c.reducedSpans with | (t, none) :: r => (t, some (now s)) :: r | l => l })))

/-- CLK.MODE takes effect (16 R441). -/
def enterMode (s : State) (m role : Nat) (red : Word) : State :=
  let old := s.clk.mode
  let a := setMode (modClk s fun c => { c with redmask := red }) m role
  let b := if old = 1 then endStartup a else a
  let c := if old = 4 then reliefLeaveService b else b
  let d := if old = 3 then endReduced c else c
  if m = 3 then beginReduced d else d

/-- CLK.MODE's transitions at acceptance (16 Table 16.4); REDUCED waits for the next MEAN batch boundary. -/
def modeAct (s : State) (ws : List Word) : Accepted :=
  let m := bits (rw ws 1) 2 0
  let role := bits (rw ws 1) 10 8
  let old := s.clk.mode
  if m = 2 then
    if (old == 1 && s.legal.released) || old == 3 || (old == 4 && pointsReady s) then donePost (enterMode s 2 role 0) 0 [] else donePost s stORDER []
  else if m = 4 then
    if (old == 1 || old == 2) && serviceOk s role then donePost (enterMode s 4 role 0) 0 [] else donePost s stORDER []
  else if old == 2 && reducedOk s (rw ws 2) then later1 (modClk s fun c => { c with reduceTo := some ((now s / 8192 + 1) * 8192) })
  else donePost s stORDER []

/-- CLK.MODE (16 R441, R453). -/
def clkModeOp (s : State) (c : CoreId) (rs : Reg) : Host.Outcome State Fault Refusal :=
  unitP s c rs .clk .more 0 3
    (fun _ _ ws =>
      let m := bits (rw ws 1) 2 0
      onIf (resv ws 1 0x707 || decide (m < 2) || decide (4 < m) || (m != 3 && rw ws 2 != 0)) stRANGE)
    fun _ s ws => modeAct s ws

/-- A CLK.MODE for REDUCED that waits for the boundary. -/
def reduceOp (q : Posted) : Bool := q.unit == .clk && q.op == 0 && bits (rw q.words 1) 2 0 == 3

/-! ## SLACK -/

/-- A freeze is refused (16 R449). -/
def slackRefused (s : State) : Bool :=
  ((lcState s == 3 || decide (5 ≤ lcState s)) && coilAny s) || s.clk.pfw.isSome ||
    (match s.clk.freezeEnd with | some t => decide (s.clk.ref < t + usRef 100000) | none => false)

/-- The entry of a SLACK request, grant or release (12 R362): 1 granted, 2 refused, 3 released. -/
def slackEntry (s : State) (reason tick : Nat) : State := tmpEntry s 8 0xFF reason 0 false false (tick % 2 ^ 56)

/-- A refusal (16 R449). -/
def slackRefuse (s : State) : State := slackEntry (modClk s fun c => { c with refused := sat 65535 (c.refused + 1) }) 2 (now s)

/-- A grant: the freeze instant (16 R450); the records of TMP, SIT and CLK in the order of their unit codes (10 R289). -/
def slackFreeze (s : State) (cause : Nat) (dur : Option Nat) : State :=
  let a := setMode (sitStop (slackEntry s 1 (now s)) true) 5 0xFF
  modClk a fun c =>
    { c with
      grants := sat 65535 (c.grants + 1)
      freeze := some { tick := now s, rtc := s.bk.rtc, cause := cause, endRef := dur.map fun d => c.ref + usRef (1000 * d),
                       chains := 0, mode := s.clk.mode } }

/-- A freeze may be requested in RUN, REDUCED and SERVICE (16 R449). -/
def slackMode (s : State) : Bool := s.clk.mode == 2 || s.clk.mode == 3 || s.clk.mode == 4

/-- The permission of a freeze, taken twice (16 R449): the state, and the outcome when it is not granted. -/
def slackAsk (s : State) (cause : Nat) (dur : Option Nat) (agree : Bool) : State × Option Nat :=
  if !slackMode s then (s, some stORDER)
  else if !agree then (notify9 s 6 5, some stFAULT)
  else if slackRefused s then (slackRefuse s, some stORDER)
  else (slackFreeze s cause dur, none)

/-- CLK.SLACK without outcome. -/
def slackOp (q : Posted) : Bool := q.unit == .clk && q.op == 1

/-- Release (16 R450): the domains restart, the units resume, billing time meets the RTC, and SLACK_GAP accounts for the freeze. -/
def slackRelease (s : State) : State :=
  match s.clk.freeze with
  | none => s
  | some f =>
    let a := modClk s fun c => { c with freeze := none, freezeEnd := some c.ref, modPhase := 0, mode := 5 }
    let b := tmpRelieve (tmpFlush (slackEntry (setMode a f.mode 0xFF) 3 f.tick))
    let c := dpyRelease (reliefRelease (chnRelease b))
    let d := { c with rly := c.rly.map fun x => { x with pilotSkip := true } }
    let e := rtcCorrect (remaskNow (if d.clk.fallback.isNone && d.clk.mode != 3 then sitGo d else d))
    let g := event e .clk 0x67 ([noInst] ++ two f.tick ++ [w32 (s.bk.rtc - f.rtc), w32 f.cause, w32 f.chains])
    settle g slackOp 0 []

/-! ## Debug -/

/-- CLK.DBG opens the IEEE 1149.1 port (16 R453; 11 R315). -/
def debugOpen (s : State) : State :=
  let a := purgeAll (modClk s fun c => { c with dbg := true })
  let b := deriveKs { a with key := { a.key with test := true } }
  event (sitSilence (ldgTouch s b)) .key 0x4D [noInst, w32 (lcState s)]

end Sys2Proof.Machine
end

