-- ==== Sys2Proof/Machine/Boot.lean ====
section
/-! DEFINITION. Power, REF and start-up: from power-on to the release of the worlds, and the power-fail sequence (16 R439, R443 to R448; 04 R134 to R139; 11 R321, R337). -/

namespace Sys2Proof.Machine

/-! ## BACKUP domain -/

/-- The found copy (16 R447): with VBAK lost the latches take their reset values, the RTC restarts and the copy holds free values (log 1). -/
def takeFound (s : State) : State :=
  let l := s.bk.ledge
  if s.bk.vbak && l.valid == 0x4C454447 then
    { s with bk := { s.bk with found := l, rtcLost := false, ledge := { l with cellRtc := 0 } } }
  else
    let n (i m : Nat) : Nat := Config.freeNat (s.free + i) % m
    let f : Ledge :=
      { valid := Config.freeWord s.free, lflags := BitVec.ofNat 16 (n 1 65536), pupcnt := n 2 65536, pdBt := n 3 (2 ^ 64), pdRtc := n 4 (2 ^ 48),
        rtctrim := BitVec.ofNat 16 (n 5 65536), cellRtc := n 6 (2 ^ 48) }
    { s with free := s.free + 7, bk := { Backup.zero with found := f, rtcLost := true } }

/-- CLK after a reset that the supply survives. -/
def clkReset (c : Clk) : Clk := { Clk.zero with powered := true, vio33 := c.vio33, ref := c.ref, slackPin := c.slackPin, sys := c.sys }

/-- STARTUP begins (16 R443, R446). -/
def beginStartup (s : State) : State := modClk (takeFound s) clkReset

/-- POWER_ON (R443): the supplies rise. -/
def execPowerOn (viosel : Bool) (s : State) : Host.Outcome State Fault Refusal :=
  .next (if s.clk.powered then s else modClk (beginStartup s) fun c => { c with vio33 := viosel })

/-- REF_STABLE (R443): t_r; AUX calibrates itself (13 R372). -/
def execRefStable (s : State) : Host.Outcome State Fault Refusal :=
  .next (if s.clk.powered && s.clk.refStable.isNone && s.clk.pfw.isNone then
      { modClk s (fun c => { c with refStable := some c.ref, refOk := true }) with aux := { Auxc.zero with calRun := true } }
    else s)

/-! ## t0 -/

/-- What a power-up resets, unit by unit; what lies in MRAM, in fuses or in BACKUP stays. -/
def resetUnits (s : State) : State :=
  let ring := s.tmp.ring
  { s with
    ebb := Lane.zero, flood := Lane.zero, legal := WorldSt.zero 1465, opn := WorldSt.zero 0, hl := Headland.zero
    pair := { Pair.zero with ck0 := s.pair.ck0, ck1 := s.pair.ck1 }
    rly := (rlyStartup s).rly.mapIdx fun i x => { x with yieldDue := (rel s i).yieldDue }
    grant := false
    ldg := { s.ldg with prog := none, tries := 0, retryAt := none, fault := false, subTick := 0, subSeq := 0,
                        nodev := s.ldg.capacity != 0 && s.ldg.device != some s.ldg.jedec }
    obj := { Obj.zero with acl := s.obj.acl, keySlots := s.obj.keySlots, aclImage := s.obj.aclImage, aclGen := s.obj.aclGen }
    tmp := { Tmp.zero with ring := ring, next := (match ring.getLast? with | some e => e.eseq + 1 | none => 0), handed := s.tmp.handed,
                           sealedTo := s.tmp.sealedTo, press := s.tmp.press, logpress := s.tmp.press.isSome }
    hst := List.replicate 3 HPort.zero
    pls := List.replicate 8 Pulse.zero
    dpy := Dpy.zero
    sit := Sit.zero
    posts := [] }

/-- KEY before any derivation (11 R316, R321, R337, Table 11.18): fuses completed, SCUTTLE after a found ERASE marker, the cache empty. -/
def keyFuses (s : State) : State :=
  let lc := s.fuse.lc.map fun n => if n = 2 then 3 else n
  let mark := s.bk.found.lflags.getLsbD 1 && !s.bk.rtcLost && s.key.scuttle == 0
  let sc : Word := if mark then 0xFFFFFFFF else s.key.scuttle
  let lc2 := if sc != 0 then lc.set 8 3 else lc
  let f := { s.fuse with lc := lc2 }
  let k := { s.key with
    cache := List.replicate 64 none, pendKeys := List.replicate 64 none, ks := List.replicate 4 none, test := !rootOk s, shadow := lcFuse f,
    misread := 0, scuttle := sc, erases := if mark then sat 65535 (s.key.erases + 1) else s.key.erases, period := 1000, drbgOk := !s.key.entropyFail,
    requests := 0, reseedAt := s.clk.ref, restartAt := s.clk.ref, remaskAt := s.clk.ref, mask := s.free, tampPend := false }
  setLflag (freeVol { s with fuse := f, key := k, free := s.free + 1 }) 1 false

/-- POWER_UP (16 Table 16.12), and REF_LOSS after a loss of REF. -/
def powerUpRecords (s : State) : State :=
  let f := s.bk.found
  let a := event s .clk 0x68 ([noInst] ++ two f.pdBt ++ [w32 f.pdRtc, w32 f.cellRtc, w32 f.lflags.toNat, w32 s.bk.rtc, w32 (b2n s.bk.rtcLost)])
  if f.lflags.getLsbD 5 && !s.bk.rtcLost then event a .clk 0x69 [noInst, w32 f.pdRtc] else a

/-- KEY derives its hardware keys (11 R324), completing an interrupted move first (R321). -/
def keyStart (s : State) : State :=
  let new := s.key.shadow
  let st := lcState s
  if new != s.key.lastLc && decide (st < 5) then
    let o := deriveKs { s with key := { s.key with shadow := s.key.lastLc } }
    let old := lcState o
    let pub := fit 64 (p256Pub (lsigKey s (lcDomain st)))
    let a := lifeEvent (powerUpRecords o) true old st 0xFF pub
    moveRest { a with key := { a.key with shadow := new } } (lcDomain st != lcDomain old)
  else powerUpRecords (deriveKs s)

/-- A TAMP fuse blown at power-up is recorded (11 R337, Table 11.19). -/
def tampRecord (old s : State) : State := if lcBit old.fuse 8 then s else if lcBit s.fuse 8 then event s .key 0x4E (noInst :: two (now s)) else s

/-- TMP's BLIND entry, and CLK's flags after it (12 R355, 16 R447). -/
def blindDone (s : State) : State :=
  let a := tmpBlind s
  let l := a.bk.ledge
  { a with bk := { a.bk with ledge := { l with
      lflags := l.lflags &&& ~~~0x3D#16, pupcnt := sat 65535 (l.pupcnt + 1), rtctrim := BitVec.ofNat 16 (Mem.word s.mram 0x2A000).toNat } } }

/-- AUX at t0 (13 R369, R377): its records, and the range fault of the calibration before. -/
def auxStart (s : State) : State :=
  let a := { s with aux := { s.aux with recs := auxRecs s, gen := calGen s, rangeAt := none, nextDie := 0, batch := 0 } }
  match s.aux.rangeAt with
  | some st => calRange a st
  | none => a

/-- Points whose sequence restarts at 0, since no checkpoint is in force (06 R180, R499). -/
def markCold (s : State) : State := if (ckInForce s).isNone then (definedPts s).foldl markPoint s else s

/-- The installs that start-up completes (04 R138). -/
def completeCopies (s : State) : State := (List.range 7).foldl (fun t n => (completeCopy t n (unitCode .clk)).1) s

/-- Everything that t0 starts (16 Table 16.5; 04 Table 4.19). -/
def startup (s : State) : State :=
  let a := timStartup (resetUnits (modClk s fun c => { c with t0 := some c.ref, modRun := true, modPhase := 0, modtick := 0, lock := true, sysRef := 0 }))
  let k := keyFuses a
  let b := keyStart (loadPublic k fun w => !erased k || attrLcs w 5)
  let c := blindDone (tampRecord s b)
  let d := auxStart (reliefStartup (chnStartup c))
  let e := bilRestore (markCold d) (if d.bk.rtcLost then s.bil.hw else d.bk.found.pdBt) (btNow d)
  setStage (ldgKick (completeCopies e)) 0 0xFF 0

/-- PLL_LOCK_STARTUP (R436, R443; 02 R69): t0, no earlier than 400 µs after t_r. -/
def execPllLockStartup (s : State) : Host.Outcome State Fault Refusal :=
  .next (match s.clk.refStable with
    | some t => if s.clk.powered && s.clk.t0.isNone then atRef s (t + 9600) startup else s
    | none => s)

/-! ## Releasing the cores (04 R134, R135) -/

/-- The reason of an entry at start-up: a pending install whose staging no longer measures is refused with HASH (04 R138). -/
def bootReasonOf (s : State) (n sum : Nat) (verdict : Bool) : Nat :=
  match dirState s n with
  | 1 => imgReason s n (imgBytes s n) sum verdict
  | 2 => 3
  | _ => 1

/-- An installed entry's image comes to a signature verdict. -/
def takesVerdict (s : State) (n : Nat) : Bool := dirState s n == 1 && imgForm s n (imgBytes s n) == 0

/-- A refusal that holds the part in STARTUP (04 R135, 17 R466). -/
def bootHold (s : State) (n r : Nat) : State :=
  let a := modLane (modLane s .ebb fun y => { y with running := false }) .flood fun y => { y with running := false }
  setStage (tmpEntry (setReason a n r) 9 0xFF r 0 false false n) 3 n r

/-- An extension program joins both lanes, or is left out (04 R129, R135): the state and the budget so far. -/
def loadSlot (verdict : Bool) (t : State × Nat) (n : Nat) : State × Nat :=
  let s := verdictNote t.1 verdict (takesVerdict t.1 n)
  let r := bootReasonOf s n t.2 verdict
  let im := imgBytes s n
  let put (x : Slot) (s : State) : State := modLane (modLane s .ebb fun y => { y with slots := y.slots.set (n - 1) x }) .flood fun y => { y with slots := y.slots.set (n - 1) x }
  if r = 0 then
    (put { Slot.zero with present := true, entry := w32 (fld 0x10 4 im), budget := fld 0x14 4 im } (setMeasure (setReason s n 0) n (some (measureImage s n))),
      t.2 + fld 0x14 4 im)
  else if r = 1 then (setReason s n 1, t.2)
  else (imageRefused s n r, t.2)

/-- Both lanes start cold in the same cycle: Ebb ACTIVE, Flood STANDBY (07 R199, R200). -/
def startLanes (s : State) : State :=
  let go (s : State) (l : LaneId) (st : Nat) : State :=
    releaseLane (modPl (putProg (basePos (loadLane s l) l) l (coldProg s)) l fun p => { p with st := st, lastMark := now s }) l 0
  let a := go (go s .ebb 1) .flood 2
  setStage { a with pair := { a.pair with active := .ebb, ckBase := now s } } 1 0xFF 0

/-- LANE_RELEASE (04 R134, R135; 12 R355): after the tamper check; a refused reference program or Legal image releases no core. Bit n of `agree`: the two computations of the verdict on entry n agree. -/
def execLaneRelease (agree : BitVec 5) (s : State) : Host.Outcome State Fault Refusal :=
  .next (if alive s && s.clk.mode == 1 && s.clk.bootStage == 0 && s.clk.tmpChecked then
      let v := verdictNote s (agree.getLsbD 0) (takesVerdict s 0)
      let r := bootReasonOf v 0 0 (agree.getLsbD 0)
      let q := bootReasonOf v 5 0 true
      if r ≠ 0 then bootHold v 0 r
      else if q ≠ 0 then bootHold v 5 q
      else
        let a := setMeasure (setReason v 0 0) 0 (some (measureImage v 0))
        startLanes ((List.range 4).foldl (fun t k => loadSlot (agree.getLsbD (k + 1)) t (k + 1)) (a, 0)).1
    else s)

/-- The Legal image enters Headland and its world starts at ENTRY (04 R134). -/
def startLegal (s : State) : State :=
  let im := imgBytes s 5
  let m := loadSects im s.hl.imem s.hl.dmem
  let e := w32 (fld 0x10 4 im)
  let a := setMeasure (setReason s 5 0) 5 (some (measureImage s 5))
  let b := { a with hl := { a.hl with imem := m.1, dmem := m.2, restarting := false },
                    legal := { WorldSt.zero 1465 with bank := { Bank.zero with pc := e }, released := true, entry := e } }
  if s.hl.restarting then b else setStage b 2 0xFF 0

/-- LEGAL_WORLD_RELEASE (04 R119, R134): at start-up after the lanes, and in a restart of Headland with the image that was running (R138). -/
def execLegalWorldRelease (agree : Bool) (s : State) : Host.Outcome State Fault Refusal :=
  .next (if alive s && !s.legal.released && (s.hl.restarting || (s.clk.mode == 1 && s.clk.bootStage == 1)) then
      let v := verdictNote s agree (imgForm s 5 (imgBytes s 5) == 0)
      let r := if s.hl.restarting then (if measureImage v 5 = dirMeasure v 5 then imgReason v 5 (imgBytes v 5) 0 agree else 3) else bootReasonOf v 5 0 agree
      if r = 0 then startLegal v else if s.hl.restarting then setReason v 5 r else bootHold v 5 r
    else s)

/-- OPEN_IMAGE_LOADED (04 R134, R135). -/
def execOpenImageLoaded (agree : Bool) (s : State) : Host.Outcome State Fault Refusal :=
  .next (if alive s && s.legal.released && !s.hl.loaded && !s.opn.released then loadOpen (verdictNote s agree (takesVerdict s 6)) true agree else s)

/-! ## The supply falls -/

/-- MRAM after a power failure (04 R108): the stores that no FENCE covers are undone, the newest first, and those that had become persistent stand again; which of them had is a free value (log 8). -/
def storesKept (s : State) : State :=
  let old := s.unfenced.foldr (fun u m => Mem.writeN m u.off u.old) s.mram
  let new := s.unfenced.mapIdx fun i u => if Config.freeBool (s.free + i) then [u] else []
  { s with mram := new.flatten.foldl (fun m u => Mem.writeN m u.off u.new) old, unfenced := [], free := s.free + s.unfenced.length }

/-- Reset is asserted: BLIND, every output at rest, only REF and RTC left (16 Table 16.6). -/
def resetAsserted (old : State) : State :=
  let s := storesKept (bookSlew old)
  modClk { setLflag s 0 true with rly := (rlyStartup s).rly.mapIdx fun i x => { x with yieldDue := (rel s i).yieldDue }, grant := false } fun c =>
    { clkReset c with pfw := c.pfw, refLost := c.refLost }

/-- The power-fail sequence of 16 Table 16.6; a freeze is released first (R446). -/
def powerFail (s : State) (refloss : Bool) : State :=
  let a := if frozen s then slackRelease (setLflag s 4 true) else s
  let b := if a.clk.t0.isSome then { a with bk := { a.bk with ledge := { a.bk.ledge with pdBt := btNow a, pdRtc := a.bk.rtc } } } else a
  let c := modClk (setLflag (if refloss then setLflag b 5 true else b) 2 true) fun c => { c with pfw := some c.ref, refLost := refloss }
  if c.clk.t0.isNone then resetAsserted c
  else resetAsserted (tmpFlush (setLflag (bilSave (plsWarn (dpyWarn (rlyWarn (pairFlush c))))) 3 true))

/-- POWER_FAIL_WARNING (R445). -/
def execPowerFailWarning (s : State) : Host.Outcome State Fault Refusal :=
  .next (if s.clk.powered && s.clk.pfw.isNone then powerFail s false else s)

/-- SUPPLY_LOSS (R445, R447): BACKUP. -/
def execSupplyLoss (s : State) : Host.Outcome State Fault Refusal :=
  .next (if s.clk.powered then
      let a := resetAsserted s
      { a with clk := { Clk.zero with powered := false, mode := 0, vio33 := s.clk.vio33, ref := s.clk.ref, sys := s.clk.sys, slackPin := s.clk.slackPin },
               bk := { a.bk with ledge := { a.bk.ledge with cellRtc := a.bk.rtc } } }
    else s)

/-- SUPPLY_RETURN (R446): VIO is back before the supply fell. -/
def execSupplyReturn (s : State) : Host.Outcome State Fault Refusal :=
  .next (if s.clk.powered && s.clk.pfw.isSome && !s.clk.refLost then beginStartup s else s)

/-- REF_LOSS (R439): monitor 2 alarms, and the power-fail sequence runs with REFLOSS. -/
def execRefLoss (s : State) : Host.Outcome State Fault Refusal :=
  .next (if s.clk.powered && s.clk.pfw.isNone && s.clk.refStable.isSome then
      let a := if tmpRuns s then evalAlarm (setDet (setDet s 2 false true 0) 2 true true 0) 2 3 else s
      powerFail a true
    else s)

/-- REF_RESTORED (R439): REF has run stably for 2 ms. -/
def execRefRestored (s : State) : Host.Outcome State Fault Refusal :=
  .next (if s.clk.powered && s.clk.refLost then beginStartup s else s)

end Sys2Proof.Machine
end

