-- ==== Sys2Proof/Machine/ClkUnit.lean ====
section
/-! DEFINITION. The CLK operations, the PLL-loss fallback, REDUCED entry and the SLACK pin (16 R436 to R442, R449 to R454). -/

namespace Sys2Proof.Machine

/-- CLK.MODE for RUN (R441). -/
def execClkModeRun (c : CoreId) (rs : Reg) (s : State) : Host.Outcome State Fault Refusal := clkModeOp s c rs

/-- CLK.MODE for REDUCED (R441). -/
def execClkModeReduced (c : CoreId) (rs : Reg) (s : State) : Host.Outcome State Fault Refusal := clkModeOp s c rs

/-- CLK.MODE for SERVICE (R441). -/
def execClkModeService (c : CoreId) (rs : Reg) (s : State) : Host.Outcome State Fault Refusal := clkModeOp s c rs

/-- CLK.SLACK (R449): it completes after release, or with ORDER when refused. -/
def execClkSlack (c : CoreId) (rs : Reg) (agree : Bool) (s : State) : Host.Outcome State Fault Refusal :=
  unitP s c rs .clk .more 1 2
    (fun _ _ ws => onIf (resv ws 1 0xFFFF || rw ws 1 == 0 || decide (60000 < (rw ws 1).toNat)) stRANGE)
    fun _ s ws =>
      match slackAsk s 2 (some (rw ws 1).toNat) agree with
      | (t, some o) => donePost t o []
      | (t, none) => later1 t

/-- 16 Table 16.11. -/
def clkStatus (s : State) : Word :=
  let c := s.clk
  w32 (2 ^ 19 * b2n c.refOk + 2 ^ 18 * b2n c.dbg + 2 ^ 17 * b2n c.pfw.isSome + 2 ^ 16 * b2n c.slackPin + 2 ^ 11 * b2n c.fallback.isSome +
    2 ^ 10 * b2n c.lock + 16 * c.prevMode + c.mode)

/-- REF cycles in fallback since power-up. -/
def fbTotal (s : State) : Nat := s.clk.fbRef + (match s.clk.fallback with | some t => s.clk.ref - t | none => 0)

/-- Words 1 to 5 of CLK.RDST (16 Table 16.10). -/
def clkWords (s : State) : List Word :=
  [clkStatus s, w32 (65536 * s.clk.pllLoss + s.clk.grants), w32 (65536 * s.clk.refused + s.clk.modechg), s.clk.redmask,
    w32 (sat 0xFFFFFFFF (fbTotal s / 24000))]

/-- CLK.RDST (R453). -/
def execClkRdst (c : CoreId) (rs : Reg) (s : State) : Host.Outcome State Fault Refusal :=
  unitI s c rs .clk .read 6 (fun _ _ _ => []) fun _ s _ => (s, (clkWords s).mapIdx fun i v => (1 + i, v))

/-- CLK.DBG (R453; 11 R315). -/
def execClkDbg (c : CoreId) (rs : Reg) (s : State) : Host.Outcome State Fault Refusal :=
  unitP s c rs .clk .more 3 2
    (fun _ s ws => onIf (resv ws 1 1 || !(rw ws 1).getLsbD 0) stRANGE ++ onIf (!makerOrRepair s) stORDER)
    fun _ s _ => donePost (debugOpen s) 0 []

/-! ## PLL -/

/-- PLL_LOSS (R437, R438): `cause` 0 to 2 in the order of R436, written as 1 to 3 (log 23). CLK works through a freeze. -/
def execPllLoss (cause : Nat) (s : State) : Host.Outcome State Fault Refusal :=
  .next (if s.clk.powered && s.clk.t0.isSome && s.clk.pfw.isNone && s.clk.fallback.isNone then
      let near := (s.clk.ref :: s.clk.losses).filter fun t => decide (s.clk.ref < t + 1440000000)
      let a := modClk s fun c =>
        { c with fallback := some c.ref, lock := false, pllLoss := sat 65535 (c.pllLoss + 1), losses := near
                 holdoff := if 8 ≤ near.length then some (c.ref + 1440000000) else none }
      let b := sitStop (chnPllLoss a) true
      unitEv (event b .clk 0x64 ([noInst] ++ two (now s) ++ [w32 (cause % 3 + 1)])) .legal .clk
    else s)

/-- PLL_RELOCK (R438): lock has held for 1 ms and no holdoff stands. -/
def execPllRelock (s : State) : Host.Outcome State Fault Refusal :=
  .next (match s.clk.fallback with
    | some t =>
      if alive s && s.clk.holdoff.isNone && s.clk.pfw.isNone then
       atRef s (t + 24000) fun s =>
        let a := modClk s fun c => { c with fallback := none, lock := true, fbRef := c.fbRef + (c.ref - t) }
        let b := reliefRelock (chnRelock a)
        let d := if b.clk.mode = 3 then b else sitGo b
        unitEv (event d .clk 0x65 ([noInst] ++ two (now s) ++ [w32 ((s.clk.ref - t) / 24)])) .legal .clk
      else s
    | none => s)

/-- RELOCK_HOLDOFF_END (R438): 60 s after the eighth loss. -/
def execRelockHoldoffEnd (s : State) : Host.Outcome State Fault Refusal :=
  .next (match s.clk.holdoff with
    | some t => if s.clk.powered then atRef s t fun s => modClk s fun c => { c with holdoff := none } else s
    | none => s)

/-! ## REDUCED and SLACK -/

/-- One waiting CLK.MODE for REDUCED meets the boundary: ORDER when the mode has changed meanwhile. -/
def reduceOne (s : State) : State :=
  match findAt (fun q => q.outcome.isNone && reduceOp q) s.posts 0 with
  | none => s
  | some (_, q) => if s.clk.mode = 2 then settle (enterMode s 3 (bits (rw q.words 1) 10 8) (rw q.words 2)) reduceOp 0 [] else settle s reduceOp stORDER []

def reduceAll : Nat → State → State
  | 0, s => s
  | n + 1, s => reduceAll n (reduceOne s)

/-- REDUCED_ENTRY (R441, R442): at the MEAN batch boundary. -/
def execReducedEntry (s : State) : Host.Outcome State Fault Refusal :=
  .next (match s.clk.reduceTo with
    | some t => if alive s then atTick s t fun s => reduceAll s.posts.length (modClk s fun c => { c with reduceTo := none }) else s
    | none => s)

/-- SLACK_N_FALL (R449): the pin has been low for 1 µs on REF. -/
def execSlackNFall (agree : Bool) (s : State) : Host.Outcome State Fault Refusal :=
  .next (
    let a := modClk s fun c => { c with slackPin := true }
    if alive s && !s.clk.slackPin && s.clk.slackArmed then (slackAsk a 1 none agree).1 else a)

/-- SLACK_N_RISE (R449, R450). -/
def execSlackNRise (s : State) : Host.Outcome State Fault Refusal :=
  .next (
    let a := modClk s fun c => { c with slackPin := false, slackArmed := true }
    match a.clk.freeze with
    | some f => if f.cause = 1 then slackRelease a else a
    | none => a)

/-- SLACK_DURATION_END (R450). -/
def execSlackDurationEnd (s : State) : Host.Outcome State Fault Refusal :=
  .next (match s.clk.freeze with
    | some f => (match f.endRef with | some t => atRef s t slackRelease | none => s)
    | none => s)

end Sys2Proof.Machine
end

