-- ==== Sys2Proof/Machine/System.lean ====
section
/-! DEFINITION. Core state words, events, slots, watchdogs and world switches (04 R100 to R129). -/

namespace Sys2Proof.Machine

/-- Access of a context to a core state word (04 Table 4.1). -/
inductive SwAccess where
  | no
  | ro
  | wr
  deriving DecidableEq, Repr

/-- 04 Table 4.1. -/
def swAccess (x : Ctx) (i : Nat) : SwAccess :=
  match x with
  | .world w =>
    if i = 1 || i = 3 || i = 5 || i = 6 || i = 13 then .wr
    else if i = 10 || i = 11 || i = 12 then (match w with | .legal => .wr | .opn => .no)
    else if i = 14 then .no else .ro
  | _ => if i = 3 || i = 5 || i = 6 || (decide (10 ≤ i) && decide (i ≤ 13)) then .no else .ro

/-- 04 Table 4.3. -/
def coreWord (x : Ctx) : Word :=
  match x with
  | .ref .ebb => 0x000000F0
  | .ref .flood => 0x000001F1
  | .slot .ebb k => w32 (0x000 + 16 * k)
  | .slot .flood k => w32 (0x101 + 16 * k)
  | .world .legal => 0x00000202
  | .world .opn => 0x00000312

/-- 04 Table 4.15. -/
def slotCtl (y : Lane) : Word :=
  maskOf ((y.slots.take 4).map (·.present)) ||| (maskOf ((y.slots.take 4).map (·.disabled)) <<< 4)

/-- 04 Table 4.12. -/
def openCtl (s : State) : Word := w32 (256 * s.hl.restarts + 4 * b2n s.hl.loaded + b2n s.hl.run)

/-- The value of a core state word (04 Tables 4.1, 4.2). -/
def swRead (s : State) (x : Ctx) (i : Nat) : Word :=
  let c := ctlOf s x
  match i with
  | 0 => c.cause
  | 1 => c.epc
  | 2 => c.eaddr
  | 3 => c.evec
  | 4 => w32 (256 * c.eccCorr + 2 * b2n c.inGate + b2n c.active)
  | 5 => c.evpend
  | 6 => c.evmask
  | 7 => w32 c.cycles
  | 8 => c.cycleHi
  | 9 => coreWord x
  | 10 => s.hl.gateBase
  | 11 => w32 s.hl.gateN
  | 12 => openCtl s
  | 13 => w32 (match x with | .world w => (worldSt s w).wdogPeriod | _ => 0)
  | 14 => (match x with | .ref l => slotCtl (lane s l) | .slot l _ => slotCtl (lane s l) | .world _ => 0)
  | _ => w32 (now s)

/-- A read of CYCLE latches CYCLEH (04 Table 4.1). -/
def swTouch (s : State) (x : Ctx) (i : Nat) : State :=
  if i = 7 then modCtl s x fun c => { c with cycleHi := w32 (c.cycles >>> 32) } else s

/-- WDOG is written: the watchdog reloads; 0 keeps the LEGAL period and stops the OPEN watchdog (04 R103). -/
def swWdog (s : State) (w : World) (v : Word) : State :=
  let p := bits v 15 0
  modWorld s w fun y =>
    { y with wdogCount := 0, wdogPeriod := if p = 0 then (match w with | .legal => y.wdogPeriod | .opn => 0) else p }

/-- OPEN_CTL is written: RUN against LOADED, then RESTART (04 R126; log 12). -/
def swOpenCtl (s : State) (v : Word) : State :=
  let a := if s.hl.loaded then { s with hl := { s.hl with run := v.getLsbD 0 } } else s
  if v.getLsbD 1 then restartOpen a false else a

/-- The effect of writing a core state word (04 Table 4.1); reserved bits are dropped. -/
def swWrite (s : State) (x : Ctx) (i : Nat) (v : Word) : State :=
  match i with
  | 1 => modCtl s x fun c => { c with epc := v }
  | 3 => modCtl s x fun c => { c with evec := v }
  | 5 => modCtl s x fun c => { c with evpend := c.evpend &&& ~~~v }
  | 6 => modCtl s x fun c => { c with evmask := v &&& 0x0006FFFF }
  | 10 => { s with hl := { s.hl with gateBase := v &&& 0x0007FFC0 } }
  | 11 => { s with hl := { s.hl with gateN := min 32 (bits v 5 0) } }
  | 12 => swOpenCtl s v
  | 13 => (match x with | .world w => swWdog s w v | _ => s)
  | _ => s

/-- MFS (R102): PRIV where Table 4.1 gives the context no access; an index above 15 names no word: ILLEGAL (log 12). -/
def execMfs (c : CoreId) (rd : Reg) (idx : Imm5) (s : State) : Host.Outcome State Fault Refusal :=
  instrOn s c fun x s =>
    if 16 ≤ idx.val then raise s x xIllegal
    else if swAccess x idx.val = .no then raise s x xPriv
    else retire (swTouch s x idx.val) x rd (swRead s x idx.val)

/-- A write of core state word `i` from rs (R102). -/
def mts (s : State) (c : CoreId) (rs : Reg) (i : Nat) : Host.Outcome State Fault Refusal :=
  instrOn s c fun x s =>
    if 16 ≤ i then raise s x xIllegal
    else if swAccess x i ≠ .wr then raise s x xPriv
    else swWrite (advance s x) x i (getG s x rs)

/-- MTS (R102). -/
def execMts (c : CoreId) (rs : Reg) (idx : Imm5) (s : State) : Host.Outcome State Fault Refusal := mts s c rs idx.val

/-- A write of OPEN_CTL with RESTART (R126). -/
def execOpenRestart (c : CoreId) (rs : Reg) (s : State) : Host.Outcome State Fault Refusal := mts s c rs 12

/-- A write of OPEN_CTL.RUN (R126). -/
def execOpenRun (c : CoreId) (rs : Reg) (s : State) : Host.Outcome State Fault Refusal := mts s c rs 12

/-- A write of WDOG (R103). -/
def execWdogReload (c : CoreId) (rs : Reg) (s : State) : Host.Outcome State Fault Refusal := mts s c rs 13

/-- A write of 1 bits to EVPEND clears them (R122). -/
def execEvpendClear (c : CoreId) (rs : Reg) (s : State) : Host.Outcome State Fault Refusal := mts s c rs 5

/-- An instruction of Headland: ILLEGAL in the lanes (R114). -/
def headInstr (s : State) (c : CoreId) (f : World → State → State) : Host.Outcome State Fault Refusal :=
  instrOn s c fun x s => match x with | .world w => f w s | _ => raise s x xIllegal

/-- ERET (R118): pc = EPC, ACTIVE = 0. -/
def execEret (c : CoreId) (s : State) : Host.Outcome State Fault Refusal :=
  headInstr s c fun w s =>
    modWorld s w fun y => { y with bank := { y.bank with pc := y.ctl.epc }, ctl := { y.ctl with active := false } }

/-- FENCE (R108): it completes when every earlier MRAM store of the world is persistent. A lane has none. -/
def fence (s : State) (x : Ctx) : State :=
  match x with
  | .world w => { s with unfenced := s.unfenced.filter fun u => u.world != w }
  | _ => s

/-- FENCE (R108). -/
def execFence (c : CoreId) (s : State) : Host.Outcome State Fault Refusal := instrOn s c fun x s => advance (fence s x) x

/-- A waiting WFE completes: the pending enabled events go to g1 (R122). -/
def wfeDone (s : State) (w : World) : State :=
  let a := modWorld s w fun y => { y with waiting := false }
  retire a (.world w) 1 (enabledEv (worldSt s w))

/-- WFE (R122): completes at once with the pending enabled events, or waits. -/
def execWfe (c : CoreId) (s : State) : Host.Outcome State Fault Refusal :=
  headInstr s c fun w s =>
    if enabledEv (worldSt s w) ≠ 0 then retire s (.world w) 1 (enabledEv (worldSt s w)) else modWorld s w fun y => { y with waiting := true }

/-- A world waits in WFE with an enabled event pending. -/
def wfeReady (s : State) (w : World) : Bool :=
  alive s && (worldSt s w).released && (worldSt s w).waiting && enabledEv (worldSt s w) != 0

/-- WFE_WAKE (R122): a waiting WFE completes once an enabled event is pending. -/
def execWfeWake (w : World) (s : State) : Host.Outcome State Fault Refusal := .next (if wfeReady s w then wfeDone s w else s)

/-- WORLD_SWITCH (R121): a LEGAL event while OPEN executes; the LEGAL world's WFE completes and OPEN keeps its bank. -/
def execWorldSwitch (s : State) : Host.Outcome State Fault Refusal :=
  .next (if wfeReady s .legal && s.opn.released && s.hl.run && !s.opn.ctl.inGate && !s.opn.waiting then wfeDone s .legal else s)

/-- TRAP (R116): the index as detail. -/
def execTrap (c : CoreId) (idx : Imm5) (s : State) : Host.Outcome State Fault Refusal :=
  instrOn s c fun x s => raise s x { code := 11, detail := idx.val, addr := 0 }

/-- No slot runs during the PLL-loss fallback, nor in a lane in COPYING, JOINING or REBUILDING with a backlog above one pass (07 R215, Table 7.7). -/
def noSlots (s : State) (l : LaneId) : Bool :=
  let st := (pl s l).st
  s.clk.fallback.isSome || ((st == 4 || st == 5 || st == 7) && (lane s l).prog.catchUp)

/-- SLOTS (R128): ILLEGAL in Headland, PRIV in a slot. -/
def execSlots (c : CoreId) (s : State) : Host.Outcome State Fault Refusal :=
  instrOn s c fun x s =>
    match x with
    | .ref l => if noSlots s l then retire s x 1 0 else slotsFrom s l 0 0 0
    | .slot _ _ => raise s x xPriv
    | .world _ => raise s x xIllegal

/-- SLOTEND (R128): ILLEGAL in Headland, PRIV in the reference program. -/
def execSlotend (c : CoreId) (s : State) : Host.Outcome State Fault Refusal :=
  instrOn s c fun x s =>
    match x with
    | .slot l _ => slotDone s l true
    | .ref _ => raise s x xPriv
    | .world _ => raise s x xIllegal

/-- SLOT_TIME (R128): the running slot has used its budget; the run aborts with code 10. -/
def execSlotTime (l : LaneId) (s : State) : Host.Outcome State Fault Refusal :=
  .next (match (lane s l).run with
    | none => s
    | some r =>
      let y := lane s l
      if alive s && y.running then
       afterCycles s (laneRate s) (r.start + (y.slots.getD r.k Slot.zero).budget - y.ctl.cycles) fun s =>
        raise (modLane s l fun z => { z with stall := .none }) (.slot l r.k) { code := 10, detail := r.k, addr := 0 }
      else s)

/-- The watchdog of a world counts, or has counted its period: the OPEN watchdog in the world's own cycles only (R103). -/
def wdogDue (s : State) (w : World) : Bool :=
  let x := worldSt s w
  alive s && x.released && x.wdogPeriod != 0 && (w == .legal || worldOf s == some .opn || decide (1024 * x.wdogPeriod ≤ x.wdogCount))

/-- SYS cycles left of a watchdog's period. -/
def wdogLeft (s : State) (w : World) : Nat := 1024 * (worldSt s w).wdogPeriod - (worldSt s w).wdogCount

/-- LEGAL_WATCHDOG_EXPIRY (R119): Headland restarts with CAUSE WDOG. -/
def execLegalWatchdogExpiry (s : State) : Host.Outcome State Fault Refusal :=
  .next (if wdogDue s .legal then afterCycles s (sysRate s) (wdogLeft s .legal) fun s => restartHeadland s 12 s.legal.bank.pc else s)

/-- OPEN_WATCHDOG_EXPIRY (R119): the OPEN world restarts. -/
def execOpenWatchdogExpiry (s : State) : Host.Outcome State Fault Refusal :=
  .next (if wdogDue s .opn then afterCycles s (sysRate s) (wdogLeft s .opn) fun s => restartOpen s true else s)

end Sys2Proof.Machine
end

