-- ==== Sys2Proof/Machine/Gate.lean ====
section
/-! DEFINITION. The call gate and the two services of the Legal image that the spec gives: installing an image and a lifecycle move (04 R124, R125, R137 to R139; 11 R318). -/

namespace Sys2Proof.Machine

/-! ## The mailbox (Table 4.13) -/

def gateAddr (s : State) (i : Nat) : Nat := s.hl.gateBase.toNat + 4 * i

def gatePut (s : State) (i : Nat) (v : Word) : State := { s with hl := { s.hl with dmem := Mem.writeN s.hl.dmem (gateAddr s i) (le 4 v.toNat) } }

def gateGet (s : State) (i : Nat) : Word := Mem.word s.hl.dmem (gateAddr s i)

/-- ENTRY, CALLSEQ and ARG0 to ARG7 of an accepted call (R124). DESIGN CHOICE (log 30), unsafe: CALLSEQ counts in hardware from power-up, so that a Headland restart, a LEGAL store to the mailbox or a moved GATE_BASE does not set it back. -/
def gateFill (s : State) (k : Nat) : State :=
  let a := { s with hl := { s.hl with callseq := s.hl.callseq + 1 } }
  let b := gatePut (gatePut a 0 (w32 k)) 1 a.hl.callseq
  (List.range 8).foldl (fun t i => gatePut t (2 + i) (s.opn.bank.g.getD (2 + i) 0)) b

def setInGate (s : State) (v : Bool) : State :=
  let f (y : WorldSt) : WorldSt := { y with ctl := { y.ctl with inGate := v } }
  { s with legal := f s.legal, opn := f s.opn }

/-- What the Legal image writes before RETG: STATUS and ARG0. -/
def gateReply (s : State) (st : Nat) (arg0 : Word) : State := gatePut (gatePut s 10 (w32 st)) 2 arg0

/-! ## Entry 8, IMAGE_INSTALL -/

/-- Budgets of the extension programs present beside entry `n`. -/
def otherBudget (s : State) (n : Nat) : Nat :=
  ((List.range 4).map fun k => let x := s.ebb.slots.getD k Slot.zero; if x.present && k + 1 != n then x.budget else 0).foldl (· + ·) 0

/-- REASON for the image of `len` bytes held in staging (R132, R137). -/
def installReason (s : State) (n len : Nat) (agree : Bool) : Nat :=
  if 6 < n then 2
  else if imgMax n < len then 9
  else imgReason s n (Mem.readN s.mram 0x310000 len) (otherBudget s n) agree

/-- The install comes to a signature verdict. -/
def installTakes (s : State) (n len : Nat) : Bool := decide (n ≤ 6) && decide (len ≤ imgMax n) && imgForm s n (Mem.readN s.mram 0x310000 len) == 0

def installDenied (s : State) (n : Nat) : Bool := decide (5 ≤ lcState s) || ((n == 0 || n == 5) && !makerOrRepair s)

/-- Steps 1 and 2 of a commit (R138). -/
def installStage (s : State) (n len : Nat) : State :=
  let a := mramWrite s (dirAddr n + 8) (le 4 len)
  let b := mramWrite a (dirAddr n + 0x30) (sha256 (Mem.readN s.mram 0x310000 len))
  mramWrite b (dirAddr n) (le 4 (dirGen s n * 2 ^ 24 + 2 ^ 23 + dirLength s n))

/-- Clear an event bit of the LEGAL world. -/
def clearLegalEv (s : State) (n : Nat) : State :=
  { s with legal := { s.legal with ctl := { s.legal.ctl with evpend := s.legal.ctl.evpend &&& ~~~(BitVec.ofNat 32 (2 ^ n)) } } }

/-- The Legal image restarts the OPEN world after an install of its image (R139): the call ends with the world that made it (log 30). -/
def installRestart (s : State) : State := clearLegalEv (restartOpen s false) 17

/-- IMAGE_INSTALL (R137): statuses in the order of 00 R13; the OPEN image takes all five steps, and the Legal image then restarts the OPEN world (R139). -/
def imageInstall (s : State) (n len : Nat) (agree : Bool) : State :=
  let r := installReason s n len agree
  if installDenied s n then gateReply s stDENIED (w32 n)
  else if r ≠ 0 then gateReply (legalEvent (verdictNote s agree (installTakes s n len)) 0x22 [w32 n, w32 r]) stRANGE (w32 r)
  else if stagingHeld s then gateReply s stORDER (w32 n)
  else
    let a := installStage s n len
    if n = 6 then installRestart (gateReply (completeCopy a 6 0xFF).1 0 (w32 n)) else gateReply a 0 (w32 n)

/-! ## Entry 9, LIFECYCLE_MOVE -/

/-- The Legal image copies the token and issues KEY.LIFE (11 R318): its outcome and LCFUSE. -/
def gateLife (s : State) (a : Word) (agree : Bool) : State :=
  if bufOk s .opn a 80 then
    let r := lifeMove s (dataRead s (.world .opn) a 80) agree
    gateReply r.1 r.2 (w32 r.1.key.shadow)
  else gateReply s stRANGE (w32 s.key.shadow)

/-- The services that the spec gives the shipped Legal image; another open entry waits for the LEGAL world's own instructions (log 30). -/
def gateServe (s : State) (k : Nat) (agree : Bool) : State :=
  if k = 8 then imageInstall s (gateGet s 2).toNat (gateGet s 3).toNat agree
  else if k = 9 then gateLife s (gateGet s 2) agree
  else s

/-- GATE (R125): the OPEN world stalls at its GATE; GATE raises GATE in the LEGAL world (R114). -/
def execGate (c : CoreId) (idx : Imm5) (agree : Bool) (s : State) : Host.Outcome State Fault Refusal :=
  headInstr s c fun w s =>
    match w with
    | .legal => raise s (.world .legal) (xGate idx.val)
    | .opn =>
      if s.hl.gateN ≤ idx.val then raise s (.world .opn) (xGate idx.val)
      else gateServe (raiseEv (setInGate (gateFill s idx.val) true) .legal 17) idx.val agree

/-- ARG0 to ARG7 go to g2 to g9, STATUS to g1, and the OPEN world is past its GATE. -/
def gateReturn (s : State) : State :=
  let g := (List.range 8).foldl (fun g i => g.set (2 + i) (gateGet s (2 + i))) (s.opn.bank.g.set 1 (w32 (bits (gateGet s 10) 3 0)))
  { s with opn := { s.opn with bank := { g := g, pc := s.opn.bank.pc + 4 } } }

/-- RETG (R125): GATE with detail 0 in the OPEN world or without a call being served. -/
def execRetg (c : CoreId) (s : State) : Host.Outcome State Fault Refusal :=
  headInstr s c fun w s =>
    match w with
    | .opn => raise s (.world .opn) (xGate 0)
    | .legal =>
      if s.legal.ctl.inGate then advance (clearLegalEv (setInGate (gateReturn s) false) 17) (.world .legal)
      else raise s (.world .legal) (xGate 0)

end Sys2Proof.Machine
end

