-- ==== Sys2Proof/Machine/Object.lean ====
section
/-! DEFINITION. The OBJ operations, the object requests of the four masters and the gate's timed events (10 R304 to R313). -/

namespace Sys2Proof.Machine

/-- OBJ.TAKE (R311, R312): the oldest request of the queue, its data copied to BUF. -/
def execObjTake (c : CoreId) (rs : Reg) (s : State) : Host.Outcome State Fault Refusal :=
  unitI s c rs .obj .more 4
    (fun x s ws =>
      let w := worldOfCtx x
      onIf (w = .opn && !(rw ws 1).getLsbD 0) stDENIED ++
        onIf (resv ws 1 0xFF1FF701 || resv ws 2 0x7FFFFFFF) stRANGE ++ bufBad s w (w32 (bits (rw ws 2) 19 0)) 1024)
    fun x s ws =>
      let opn := (rw ws 1).getLsbD 0
      let buf := bits (rw ws 2) 19 0
      let q := if opn then s.obj.openQ else s.obj.legalQ
      match q with
      | [] => (s, [(1, w32 (b2n opn)), (2, w32 buf), (3, 0)])
      | r :: t =>
        let o := { s.obj with taken := s.obj.taken ++ [r], openQ := if opn then t else s.obj.openQ, legalQ := if opn then s.obj.legalQ else t }
        (dataWrite { s with obj := o } x (w32 buf) r.data,
          [(1, w32 (r.handle * 2 ^ 24 + q.length * 65536 + 32768 * b2n r.exec + 4096 * r.role + 256 * r.master + b2n opn)),
            (2, w32 (r.data.length * 2 ^ 20 + buf)), (3, w32 r.oid)])

/-- The request that a handle names among those taken. -/
def takenAt (s : State) (h : Nat) : Option (Nat × ObjReq) := findAt (fun r => r.handle == h) s.obj.taken 0

/-- The answer to a queued request. -/
def reqAnswer (s : State) (r : ObjReq) (st : Nat) (data : Bytes) : State :=
  let opc := if r.exec then 3 else attrKind (nbits r.oid 7 0) + 1
  objReply s r.master r.node { opc := opc, reqid := r.reqid, oid := r.oid, offset := r.offset, len := 0, data := [] } st data

/-- OBJ.REPLY (R311, R312): STATUS and data become the response; STALE once the request was abandoned. -/
def execObjReply (c : CoreId) (rs : Reg) (s : State) : Host.Outcome State Fault Refusal :=
  unitP s c rs .obj .more 1 4
    (fun x s ws =>
      let w := worldOfCtx x
      let n := bits (rw ws 2) 30 20
      let t := takenAt s (bits (rw ws 1) 31 24)
      onIf (w = .opn && (match t with | some (_, r) => !r.opn | none => false)) stDENIED ++
        onIf (resv ws 1 0xFF00000F || resv ws 2 0x7FFFFFFF || rw ws 3 != 0 || decide (9 < bits (rw ws 1) 3 0) || decide (1024 < n)) stRANGE ++
        bufBad s w (w32 (bits (rw ws 2) 19 0)) n ++ onIf t.isNone stSTALE)
    fun x s ws =>
      match takenAt s (bits (rw ws 1) 31 24) with
      | none => donePost s 0 []
      | some (i, r) =>
        let d := dataRead s x (w32 (bits (rw ws 2) 19 0)) (bits (rw ws 2) 30 20)
        donePost (reqAnswer { s with obj := { s.obj with taken := dropAt s.obj.taken i } } r (bits (rw ws 1) 3 0) d) 0 []

/-- An entry of the access table image (10 Table 10.15). -/
def aclEntry (b : Bytes) (i : Nat) : AclEnt :=
  let w (k : Nat) : Nat := fld (16 + 12 * i + 4 * k) 4 b
  { cls := nbits (w 0) 31 24, instLo := nbits (w 0) 23 8, attrLo := nbits (w 0) 7 0, instHi := nbits (w 1) 23 8, attrHi := nbits (w 1) 7 0, rights := w 2 }

/-- No reserved bit, no empty range, no right beyond Table 10.14 (R308). -/
def aclEntryOk (b : Bytes) (i : Nat) : Bool :=
  let e := aclEntry b i
  nbits (fld (20 + 12 * i) 4 b) 31 24 == 0 && decide (e.rights < 2 ^ 18) && decide (e.instLo ≤ e.instHi) && decide (e.attrLo ≤ e.attrHi) &&
    (List.range 6).all fun role => (List.range 3).all fun k =>
      !e.rights.testBit (3 * role + k) ||
        ((List.range 256).all fun a => decide (a < e.attrLo) || decide (e.attrHi < a) || attrKind a != k || ceiling role e.cls a)

/-- R308: an image that loads. -/
def aclOk (b : Bytes) (n : Nat) : Bool :=
  decide (1 ≤ n) && decide (n ≤ 2048) && (slice 9 7 b).all (· == 0) && ((slice 4 5 b).all fun k => decide (k.toNat < 64) || k == 0xFF) &&
    (List.range n).all (aclEntryOk b) && fld (16 + 12 * n) 4 b == (crc32c (b.take (16 + 12 * n))).toNat

/-- OBJ.ACL (R308). -/
def execObjAcl (c : CoreId) (rs : Reg) (s : State) : Host.Outcome State Fault Refusal :=
  unitP s c rs .obj .more 2 3
    (fun x s ws =>
      let a := w32 (bits (rw ws 1) 19 0)
      let n := unle (dataRead s x a 4)
      onIf (isOpen x) stDENIED ++
        onIf (resv ws 1 0xFFFFF || !bufOk s .legal a 4 || decide (2048 < n) || !bufOk s .legal a (20 + 12 * n) ||
          !aclOk (dataRead s x a (20 + 12 * n)) n) stRANGE ++
        onIf (s.clk.mode != 4) stORDER)
    fun x s ws =>
      let a := w32 (bits (rw ws 1) 19 0)
      let n := unle (dataRead s x a 4)
      let b := dataRead s x a (20 + 12 * n)
      let g := s.obj.aclGen + 1
      let o := { s.obj with acl := (List.range n).map (aclEntry b), keySlots := (slice 4 5 b).map (·.toNat), aclImage := b, aclGen := g }
      donePost (event { s with obj := o } .obj 0x43 ([noInst, w32 g] ++ hashWords (sha256 b))) 0 [(2, w32 g)]

/-- Words 1 to 5 of OBJ.RDST (10 Table 10.16). -/
def objStatus (s : State) : List Word :=
  let r (i : Nat) : Nat := (s.obj.ports.getD i Assoc.zero).role
  [w32 (256 * s.obj.openQ.length + s.obj.legalQ.length), w32 (65536 * s.obj.site.length + 256 * r 2 + 16 * r 1 + r 0), w32 s.obj.authFail,
    w32 s.obj.abandoned, w32 s.obj.aclGen]

/-- OBJ.RDST (R312). -/
def execObjRdst (c : CoreId) (rs : Reg) (s : State) : Host.Outcome State Fault Refusal :=
  unitI s c rs .obj .read 6 (fun _ _ ws => onIf (resvs ws [(1, 0x1F1F), (2, 0x1F0777)]) stRANGE) fun _ s _ => (s, (objStatus s).mapIdx fun i v => (1 + i, v))

/-! ## Requests -/

def natBytes (l : List Nat) : Bytes := l.map (BitVec.ofNat 8)

/-- The bits that a request's fields hold. -/
def mkObj (opc reqid oid offset len : Nat) (data : List Nat) : ObjMsg :=
  { opc := opc, reqid := reqid % 2 ^ 16, oid := oid % 2 ^ 32, offset := offset % 2 ^ 32, len := len % 2 ^ 16, data := natBytes data }

/-- READ (R310). -/
def execRead (m : ObjMaster) (node reqid oid offset len : Nat) (s : State) : Host.Outcome State Fault Refusal :=
  .next (objRequest s (masterNo m) node (mkObj 1 reqid oid offset len []) true)

/-- WRITE (R310). -/
def execWrite (m : ObjMaster) (node reqid oid : Nat) (data : List Nat) (s : State) : Host.Outcome State Fault Refusal :=
  .next (objRequest s (masterNo m) node (mkObj 2 reqid oid 0 data.length data) true)

/-- EXEC (R310). -/
def execExec (m : ObjMaster) (node reqid oid : Nat) (data : List Nat) (s : State) : Host.Outcome State Fault Refusal :=
  .next (objRequest s (masterNo m) node (mkObj 3 reqid oid 0 data.length data) true)

/-- AUTH_BEGIN (R304). -/
def execAuthBegin (m : ObjMaster) (node reqid : Nat) (data : List Nat) (s : State) : Host.Outcome State Fault Refusal :=
  .next (objRequest s (masterNo m) node (mkObj 4 reqid 0 0 data.length data) true)

/-- AUTH_PROVE (R304, R305). -/
def execAuthProve (m : ObjMaster) (node reqid : Nat) (data : List Nat) (agree : Bool) (s : State) : Host.Outcome State Fault Refusal :=
  .next (objRequest s (masterNo m) node (mkObj 5 reqid 0 0 data.length data) agree)

/-- LOGOUT (R305). -/
def execLogout (m : ObjMaster) (node reqid : Nat) (s : State) : Host.Outcome State Fault Refusal :=
  .next (objRequest s (masterNo m) node (mkObj 6 reqid 0 0 0 []) true)

/-! ## Timed events -/

/-- MODTICK at which a request is 2 s old. -/
def overdueAt (r : ObjReq) : Nat := r.born + msTick 2000

/-- R311: a request without a reply 2 s after queueing is answered BUSY and abandoned. -/
def abandonReq (s : State) (r : ObjReq) (o : Obj) : State :=
  reqAnswer { s with obj := { o with abandoned := sat 0xFFFFFFFF (o.abandoned + 1) } } r stBUSY []

/-- REQUEST_TIMEOUT (R311): the oldest request of a world, taken or queued. -/
def execRequestTimeout (w : World) (s : State) : Host.Outcome State Fault Refusal :=
  .next (if !alive s then s
    else match findAt (fun r : ObjReq => r.opn == (w == .opn)) s.obj.taken 0 with
      | some (i, r) => atTick s (overdueAt r) fun s => abandonReq s r { s.obj with taken := dropAt s.obj.taken i }
      | none =>
        match (if w = .opn then s.obj.openQ else s.obj.legalQ) with
        | r :: t =>
          atTick s (overdueAt r) fun s =>
            abandonReq s r { s.obj with openQ := if w = .opn then t else s.obj.openQ, legalQ := if w = .opn then s.obj.legalQ else t }
        | [] => s)

/-- ASSOCIATION_IDLE_TIMEOUT (R305): 300 s without a request. -/
def execAssociationIdleTimeout (m : ObjMaster) (node : Nat) (s : State) : Host.Outcome State Fault Refusal :=
  let k := masterNo m
  .next (if alive s && (k != 2 || (siteAssoc s node).isSome) then
      atTick s ((assocOf s k node).last + msTick 300000) fun s => endAssoc s k node
    else s)

/-! ## The site link's object frames -/

/-- A response reaches the world that asked (14 R406). -/
def siteResponse (s : State) (r : Rx) : State :=
  match findAt (fun (q : Nat × Nat × World) => q.1 == r.src && q.2.1 == fld 2 2 r.data) s.sit.reqs 0 with
  | none => sitAck (sitTake s r) r
  | some (i, (_, _, w)) =>
    let q := match w with | .legal => s.sit.objL | .opn => s.sit.objO
    if 16 ≤ q.length then sitDrop s
    else
      let t := { s.sit with reqs := dropAt s.sit.reqs i, objL := if w = .legal then q ++ [rxMsg r] else s.sit.objL,
                            objO := if w = .opn then q ++ [rxMsg r] else s.sit.objO }
      unitEv (toneReport (sitAck (sitTake { s with sit := t } r) r) r) w .sit

/-- SITE_OBJECT_FRAME (14 R406): a request goes to the gate as master SITE, a response to its world. -/
def execSiteObjectFrame (p : Coupling) (snr : Nat) (frame : List Nat) (agree : Bool) (s : State) : Host.Outcome State Fault Refusal :=
  onFrame s p snr frame 6 (fun _ _ _ => false) fun s r =>
    if sitDup s r then sitAck s r
    else if fld 0 1 r.data < 0x80 then objRequest (toneReport (sitAck (sitTake s r) r) r) 2 r.src (parseObj r.data) agree
    else siteResponse s r

end Sys2Proof.Machine
end

