-- ==== Sys2Proof/Machine/Link.lean ====
section
/-! DEFINITION. The link of the host ports and the optical port: frames, sequence, credit, events, streams, messages and read-out (17 R455 to R470; 16 R451). -/

namespace Sys2Proof.Machine

def port (s : State) (p : Nat) : HPort := s.hst.getD p HPort.zero

def portNo (p : PortId) : Nat := match p with | .hosta => 0 | .hostb => 1 | .optical => 2

/-- The master of a port. -/
def portMaster (p : Nat) : Nat := if p = 2 then 3 else p

/-! ## Frames -/

def freeSlots (q : HPort) : Nat := 8 - q.inbox.length

/-- The bytes of a link frame that the part sends (17 Table 17.1); ASEQ is 0xFFFF while nothing has been accepted (log 25). -/
def linkFrame (q : HPort) (kind tseq : Nat) (retx : Bool) (payload : Bytes) : Bytes :=
  let b : Bytes := [0xA5, BitVec.ofNat 8 kind] ++ le 2 tseq ++ le 2 (q.rxSeq.getD 0xFFFF) ++ le 2 payload.length ++
    [BitVec.ofNat 8 (freeSlots q), BitVec.ofNat 8 (b2n q.nak + 2 * b2n retx)] ++ le 2 0 ++ payload
  b ++ le 4 (crc32c b).toNat

/-- Payload length that a KIND from the host has, and whether the port takes it (17 Table 17.2, R469). -/
def kindLen (p kind len : Nat) : Bool :=
  match kind with
  | 0 => len == 0
  | 1 => decide (16 ≤ len)
  | 2 => p != 2 && decide (5 ≤ len) && decide (len ≤ 1028)
  | 5 => p != 2 && len == 8
  | 7 => p == 0 && len == 12
  | 9 => p == 0 && len == 0
  | 10 => len == 0
  | _ => false

/-- The length that a frame's own LEN field gives it. -/
def frameLen (b : Bytes) : Nat := 16 + fld 6 2 b

/-- SYNC, LEN, CRC and KIND are right (R458). -/
def frameOk (p : Nat) (b : Bytes) : Bool :=
  let n := fld 6 2 b
  decide (16 ≤ b.length) && fld 0 1 b == 0xA5 && decide (n ≤ 1040) && decide (frameLen b ≤ b.length) && kindLen p (fld 1 1 b) n &&
    fld (12 + n) 4 b == (crc32c (b.take (12 + n))).toNat

/-- The port's link runs: from t0 on, not after a warning; in a freeze HOSTA alone (R455, R467, Table 17.12). -/
def linkUp (s : State) (p : Nat) : Bool := s.clk.powered && s.clk.t0.isSome && s.clk.pfw.isNone && (!frozen s || p == 0)

/-- A frame that R458 discards. -/
def badFrame (s : State) (p : Nat) : State := modPort s p fun q => { q with crcErr := sat 65535 (q.crcErr + 1), nak := true }

/-! ## HST.SEND's frames -/

/-- The SEND that a frame belongs to. -/
def sendOf (f : OutFrame) (q : Posted) : Bool := q.unit == .hst && q.op == 0 && f.world == some q.world && f.addr == q.addr

/-- A frame of the same SEND waits or is unacknowledged on some port. -/
def sendWaits (s : State) (f : OutFrame) : Bool :=
  s.hst.any fun p => (p.events ++ p.msgs ++ p.unacked).any fun g => g.world == f.world && g.addr == f.addr

/-- Give the SEND of a frame its outcome, keeping its TSEQs. -/
def sendSettle (s : State) (f : OutFrame) (out : Nat) : State :=
  match findAt (fun q => q.outcome.isNone && sendOf f q) s.posts 0 with
  | some (i, _) => { s with posts := s.posts.modify i fun q => { q with outcome := some out } }
  | none => s

/-- A frame is acknowledged: its SEND completes once no port still holds one (R478). -/
def sendAcked (s : State) (f : OutFrame) : State := if f.world.isNone || sendWaits s f then s else sendSettle s f 0

/-- The TSEQ that a port gave the SEND's frame (17 Table 17.10). -/
def sendTseq (s : State) (p : Nat) (f : OutFrame) (t : Nat) : State :=
  match findAt (fun q => q.outcome.isNone && sendOf f q) s.posts 0 with
  | some (i, q) =>
    let old := match q.results.find? fun r => r.1 == 3 with | some r => r.2.toNat | none => 0
    let v := if p = 0 then old / 65536 * 65536 + t % 65536 else old % 65536 + t % 65536 * 65536
    { s with posts := s.posts.modify i fun q => { q with results := [(3, w32 v)] } }
  | none => s

/-! ## Acknowledgement -/

/-- The host has acknowledged a frame up to ASEQ (R459). -/
def ackedBy (aseq : Nat) (f : OutFrame) : Bool := f.tseq == aseq || later 16 aseq f.tseq

/-- What every good frame tells: ASEQ, CREDIT and NAK. -/
def linkNote (s : State) (p : Nat) (b : Bytes) : State :=
  let q := port s p
  let a := fld 4 2 b
  let gone := q.unacked.filter (ackedBy a)
  let rest := q.unacked.filter fun f => !ackedBy a f
  let nak := (fld 9 1 b).testBit 0
  let t := modPort s p fun q =>
    { q with
      synced := true, unacked := rest, hostCredit := fld 8 1 b, idleTx := if gone.isEmpty then q.idleTx else 0
      rep := if rest.isEmpty then none else if nak then some 0 else q.rep.map fun i => i - gone.length }
  gone.foldl sendAcked t

/-! ## Read-out (16 R451) -/

/-- Bits of a chain. -/
def chainLen (c : Nat) : Nat :=
  [512, 360448, 16384, 16384, 2048, 2048, 65536, 16384, 32768, 16384, 8192, 4194304, 4194304, 4194304, 4194304].getD c 0

/-- A chain may be read in a lifecycle state (16 Table 16.8). -/
def chainState (s : State) (c : Nat) : Bool :=
  match c with
  | 5 | 11 | 12 | 13 => makerOrRepair s
  | 14 => makerOrRepair s || lcState s == 2
  | _ => true

/-- Bit `i` of a chain: memories bit by bit, the others without a stated layout. -/
def chainBit (s : State) (f : Freeze) (c i : Nat) : Bool :=
  let m (d : Mem) (o : Nat) : Bool := (Mem.read d (o + i / 8)).getLsbD (i % 8)
  match c with
  | 11 => m s.ebb.dmem 0
  | 12 => m s.flood.dmem 0
  | 13 => m s.hl.dmem 0
  | 14 => m s.hl.dmem 0x80000
  | _ => Config.chainBit f.rtc c i

/-- `n` bits of a chain from bit `o`, least significant first. -/
def chainBytes (s : State) (f : Freeze) (c o n : Nat) : Bytes :=
  (List.range ((n + 7) / 8)).map fun k =>
    BitVec.ofNat 8 (((List.range 8).map fun j => if 8 * k + j < n then b2n (chainBit s f c (o + 8 * k + j)) * 2 ^ j else 0).foldl (· + ·) 0)

/-- The status of a READOUT (R451). -/
def readoutSt (s : State) (c o n : Nat) : Nat :=
  pick (onIf ((c == 8 && !s.fuse.variant.sit) || (c == 9 && !s.fuse.variant.dpy)) stABSENT ++ onIf (!chainState s c) stDENIED ++
    onIf (decide (14 < c) || n == 0 || decide (8192 < n) || decide (chainLen c < o + n)) stRANGE)

/-- READOUT in a freeze is answered with RDATA; outside one with status ORDER (log 24). -/
def readout (s : State) (p : Nat) (b : Bytes) : State :=
  let c := fld 12 1 b
  let o := fld 16 4 b
  let n := fld 20 4 b
  let put (s : State) (st : Nat) (d : Bytes) : State :=
    modPort s p fun q => { q with boots := q.boots ++ [{ kind := 8, tseq := 0, payload := [BitVec.ofNat 8 st] ++ le 3 0 ++ d, world := none, addr := 0 }] }
  match s.clk.freeze with
  | none => put s stORDER []
  | some f =>
    let st := readoutSt s c o n
    if st ≠ 0 then put s st []
    else put (modClk s fun k => { k with freeze := some { f with chains := f.chains ||| 2 ^ c } }) 0 (chainBytes s f c o n)

/-! ## Receiving -/

/-- A host's RESET (R462): sequence state, queues, slots and association of the port; its SENDs end with STALE. The RESET is frame 0 of the new numbering (log 25). -/
def portReset (s : State) (p : Nat) : State :=
  let q := port s p
  let a := (q.events ++ q.msgs ++ q.unacked).foldl (fun t f => if f.world.isSome then sendSettle t f stSTALE else t) s
  modPort (endAssoc a (portMaster p) 0) p fun q =>
    { HPort.zero with
      rxSeq := some 0, hostCredit := q.hostCredit, synced := true, resetOut := true, crcErr := q.crcErr, retx := q.retx, overrun := q.overrun,
      strDrop := q.strDrop, evLost := q.evLost, trunc := q.trunc, sent := q.sent }

/-- STREAM (R464): only points whose POINT attribute 0x01 the association may read. -/
def subscribe (s : State) (p : Nat) (b : Bytes) : State :=
  let a := assocOf s (portMaster p) 0
  let m := fld 12 4 b
  let bits := ((List.range 32).map fun mp => b2n (m.testBit mp && allowed s a 3 mp 1) * 2 ^ mp).foldl (· + ·) 0
  modPort s p fun q => { q with sub := w32 bits, subExt := (fld 16 4 b).testBit 0 }

/-- The Legal image's answer to a LEGAL message (R465): it issues KEY.LIFE for a move token, and refuses anything else with RANGE (log 30). -/
def legalMessage (s : State) (p : Nat) (data : Bytes) (agree : Bool) : State :=
  let r := if data.length = 80 then lifeMove s data agree else (s, stRANGE)
  let ans := [1#8, 0, 0, 0, BitVec.ofNat 8 r.2, 0, 0, 0] ++ le 4 r.1.key.shadow
  modPort r.1 p fun q => { q with msgs := q.msgs ++ [{ kind := 2, tseq := 0, payload := ans, world := none, addr := 0 }] }

/-- MESSAGE (R465): it waits for its world in an inbound slot; a LEGAL world that is up answers it. -/
def messageIn (s : State) (p tseq : Nat) (b : Bytes) (agree : Bool) : State :=
  let ch := fld 12 1 b
  let data := (b.drop 16).take (fld 6 2 b - 4)
  if 1 < ch then s
  else if ch = 1 && s.legal.released then unitEv (legalMessage s p data agree) .legal .hst
  else
    let t := modPort s p fun q => { q with inbox := q.inbox ++ [{ chan := ch, tseq := tseq, data := data }] }
    unitEv t (if ch = 1 then .legal else .opn) .hst

/-- The part acts on a sequenced frame that it has accepted. -/
def linkAct (s : State) (p : Nat) (b : Bytes) (agree : Bool) : State :=
  match fld 1 1 b with
  | 1 => objRequest s (portMaster p) 0 (parseObj ((b.drop 12).take (fld 6 2 b))) agree
  | 2 => messageIn s p (fld 2 2 b) b agree
  | 5 => subscribe s p b
  | 7 => readout s p b
  | 9 => slackRelease s
  | _ => s

/-- During a freeze the read-out engine takes READOUT and RELEASE only; at STAGE 3 the part takes no frame but RESET (R466, R467). -/
def linkTakes (s : State) (kind : Nat) : Bool := if frozen s then kind == 7 || kind == 9 else s.clk.bootStage != 3

/-- A sequenced frame (R459, R460): accepted in order, or discarded. -/
def linkSeq (s : State) (p : Nat) (b : Bytes) (agree : Bool) : State :=
  let q := port s p
  let t := fld 2 2 b
  let next := match q.rxSeq with | some x => (x + 1) % 65536 | none => 0
  if q.lastCredit = 0 || freeSlots q = 0 then modPort s p fun q => { q with overrun := sat 65535 (q.overrun + 1) }
  else if t = next then linkAct (modPort s p fun q => { q with rxSeq := some t, nak := false }) p b agree
  else if (match q.rxSeq with | some x => later 16 t x | none => true) then modPort s p fun q => { q with nak := true }
  else s

/-- A frame of the host arrives whole (R458 to R467). -/
def linkRx (s : State) (p : Nat) (b : Bytes) (agree : Bool) : State :=
  if !linkUp s p then s
  else if !frameOk p b then badFrame s p
  else
    let a := linkNote s p b
    let k := fld 1 1 b
    if k = 0 then a
    else if k = 10 then (if frozen s then a else portReset a p)
    else if linkTakes s k then linkSeq a p b agree
    else a

/-- A row for one KIND takes frames of that KIND. -/
def onKind (s : State) (p : PortId) (kind : Nat) (frame : List Nat) (agree : Bool) : Host.Outcome State Fault Refusal :=
  let b := natBytes frame
  .next (if frameOk (portNo p) b && fld 1 1 b == kind then linkRx s (portNo p) b agree else s)

/-! ## Sending -/

/-- Unacknowledged frames that the link allows (R459, R470). -/
def window (p : Nat) (q : HPort) : Nat := min (if p = 2 then 1 else 8) q.hostCredit

/-- Numbered as sent. -/
def numbered (q : HPort) (f : OutFrame) : OutFrame := { f with tseq := q.txSeq }

def plainFrame (kind : Nat) (payload : Bytes) : OutFrame := { kind := kind, tseq := 0, payload := payload, world := none, addr := 0 }

/-- The next frame of the queues in the order of R461, and the port without it; in a freeze only the read-out engine's. -/
def nextQueued (frz : Bool) (q : HPort) : Option (OutFrame × HPort) :=
  if frz then
    match findAt (fun (f : OutFrame) => f.kind == 8) q.boots 0 with
    | some (i, f) => some (f, { q with boots := dropAt q.boots i })
    | none => none
  else match q.events, q.boots, q.objs, q.msgs, q.frames with
    | f :: t, _, _, _, _ => some (f, { q with events := t })
    | [], f :: t, _, _, _ => some (f, { q with boots := t })
    | [], [], m :: t, _, _ => some (plainFrame 1 m, { q with objs := t })
    | [], [], [], f :: t, _ => some (f, { q with msgs := t })
    | [], [], [], [], m :: t => some (plainFrame 4 m, { q with frames := t })
    | [], [], [], [], [] => none

/-- A new sequenced frame: numbered, and held until it is acknowledged. -/
def sendNew (q : HPort) (f : OutFrame) : HPort := { q with txSeq := (q.txSeq + 1) % 65536, unacked := q.unacked ++ [numbered q f] }

/-- The part's next frame, and the port once it is delivered, with the new sequenced frame if there is one (R459 to R462). -/
def linkTx (frz : Bool) (p : Nat) (q : HPort) : Bytes × HPort × Option OutFrame :=
  let idle : Bytes × HPort × Option OutFrame := (linkFrame q 0 0 false [], q, none)
  if q.resetOut then
    let f := plainFrame 10 []
    (linkFrame q 10 q.txSeq false [], { sendNew q f with resetOut := false }, some (numbered q f))
  else match q.rep with
    | some i =>
      match q.unacked[i]? with
      | some f =>
        (linkFrame q f.kind f.tseq true f.payload,
          { q with rep := if i + 1 < q.unacked.length then some (i + 1) else none, retx := sat 65535 (q.retx + 1) }, none)
      | none => idle
    | none =>
      if window p q ≤ q.unacked.length then idle
      else match nextQueued frz q with
        | some (f, r) => (linkFrame q f.kind q.txSeq false f.payload, sendNew r f, some (numbered q f))
        | none => idle

/-- STAGE 3 answers every transaction with a BOOT frame (R466). -/
def stage3Boot (s : State) (p : Nat) : State :=
  if s.clk.bootStage = 3 && p != 2 && (port s p).boots.isEmpty then
    modPort s p fun q => { q with boots := [plainFrame 6 ([3#8, BitVec.ofNat 8 s.clk.bootEntry, BitVec.ofNat 8 s.clk.bootReason, BitVec.ofNat 8 (lcState s)] ++ uidBytes s)] }
  else s

/-- The part's half of an exchange of `n` bytes: a frame cut short counts as not delivered (R456). -/
def linkSend (s0 : State) (p n : Nat) : State :=
  let s := stage3Boot s0 p
  let r := linkTx (frozen s) p (port s p)
  if r.1.length ≤ n then
    let a := modPort s p fun _ => { r.2.1 with lastCredit := freeSlots r.2.1, sent := r.1 }
    match r.2.2 with
    | some f => sendTseq a p f f.tseq
    | none => a
  else modPort s p fun q => { q with sent := r.1.take n }

/-- After four transactions without an acknowledgement of the oldest frame the part repeats (R459). -/
def linkStale (old s : State) (p : Nat) : State :=
  let was := (port old p).unacked.head?.map (·.tseq)
  let is := (port s p).unacked.head?.map (·.tseq)
  modPort s p fun q =>
    if was.isSome && was == is then (if 3 ≤ q.idleTx then { q with idleTx := 0, rep := some 0 } else { q with idleTx := q.idleTx + 1 })
    else { q with idleTx := 0 }

/-- The host's half: a frame whose own length the transaction does not reach is cut short (R456). -/
def linkHost (s : State) (p : Nat) (b : Bytes) (agree : Bool) : State :=
  if b.isEmpty then s
  else if fld 0 1 b == 0xA5 && (decide (b.length < 16) || (decide (fld 6 2 b ≤ 1040) && decide (b.length < frameLen b))) then
    modPort s p fun q => { q with trunc := sat 65535 (q.trunc + 1) }
  else linkRx s p b agree

/-- An SPI transaction of `n` bytes (R456). -/
def transaction (s : State) (p n : Nat) (b : Bytes) (agree : Bool) : State :=
  if linkUp s p then linkStale s (linkHost (linkSend s p n) p (b.take n) agree) p else s

/-- Characters at the optical port (R469, R470): a whole frame is handled and answered. -/
def optical (s : State) (n : Nat) (b : Bytes) (agree : Bool) : State :=
  if !linkUp s 2 then s
  else
    let c := (port s 2).part ++ b
    if (decide (c.length < 16) || (decide (fld 6 2 c ≤ 1040) && decide (c.length < frameLen c))) && fld 0 1 (c ++ [0xA5]) == 0xA5 then
      modPort s 2 fun q => { q with part := c }
    else
      let t := modPort s 2 fun q => { q with part := [] }
      if frameOk 2 c then linkStale t (linkSend (linkRx t 2 c agree) 2 n) 2 else badFrame t 2

end Sys2Proof.Machine
end

