-- ==== Sys2Proof/Machine/HstUnit.lean ====
section
/-! DEFINITION. The HST operations, the host's frames and transactions, and the IEEE 1149.1 port (17 R455 to R470, R477 to R480). -/

namespace Sys2Proof.Machine

/-! ## Operations -/

def hstChan (ws : List Word) : Nat := bits (rw ws 1) 9 8
def hstLen (ws : List Word) : Nat := bits (rw ws 1) 26 16

/-- HL-OPEN may use CHAN 0 only (R478). -/
def hstDeny (x : Ctx) (ws : List Word) : List Nat := onIf (isOpen x && hstChan ws != 0) stDENIED

/-- Ports that a SEND names. -/
def sendPorts (ws : List Word) : List Nat := match bits (rw ws 1) 1 0 with | 0 => [0] | 1 => [1] | 2 => [0, 1] | _ => []

/-- HST.SEND (R478): a message or event to a port or both. -/
def execHstSend (c : CoreId) (rs : Reg) (s : State) : Host.Outcome State Fault Refusal :=
  unitP s c rs .hst .more 0 5
    (fun x s ws =>
      let n := hstLen ws
      let ev := hstChan ws == 2
      let w := worldOfCtx x
      hstDeny x ws ++
        onIf (resv ws 1 0x07FF0303 || rw ws 4 != 0 || bits (rw ws 1) 1 0 == 3 || hstChan ws == 3 || (if ev then n != 4 else n == 0 || decide (1024 < n))) stRANGE ++
        bufBad s w (rw ws 2) n ++ onIf (ev && decide (fld 0 1 (dataRead s x (rw ws 2) 1) < 0x80)) stRANGE ++
        onIf (!ev && (sendPorts ws).any fun p => decide (8 ≤ ((port s p).msgs.filter fun f => f.world == some w).length)) stFULL)
    fun x s ws =>
      let w := worldOfCtx x
      let d := dataRead s x (rw ws 2) (hstLen ws)
      let a := lastAddr s
      let put (t : State) (p : Nat) : State :=
        if hstChan ws = 2 then
          modPort t p fun q => pushEvent q { kind := 3, tseq := 0, payload := d ++ le 4 0 ++ le 8 (now s) ++ le 8 (btNow s), world := some w, addr := a }
        else
          modPort t p fun q =>
            { q with msgs := q.msgs ++ [{ kind := 2, tseq := 0, payload := [BitVec.ofNat 8 (hstChan ws), 0, 0, 0] ++ d, world := some w, addr := a }] }
      let t := (sendPorts ws).foldl put s
      if sendWaits t { kind := 0, tseq := 0, payload := [], world := some w, addr := a } then later1 t else donePost t 0 []

/-- HST.RECV (R465, R478): the oldest message of the channel; length 0 if none. -/
def execHstRecv (c : CoreId) (rs : Reg) (s : State) : Host.Outcome State Fault Refusal :=
  unitI s c rs .hst .more 5
    (fun x s ws =>
      hstDeny x ws ++ onIf (resv ws 1 0x07FF0301 || resv ws 3 0xFFFF || rw ws 4 != 0 || decide (1 < hstChan ws)) stRANGE ++
        bufBad s (worldOfCtx x) (rw ws 2) 1024)
    fun x s ws =>
      let p := bits (rw ws 1) 0 0
      let hd := 256 * hstChan ws + p
      match findAt (fun (m : InMsg) => m.chan == hstChan ws) (port s p).inbox 0 with
      | none => (s, [(1, w32 hd), (3, 0)])
      | some (i, m) =>
        (dataWrite (modPort s p fun q => { q with inbox := dropAt q.inbox i }) x (rw ws 2) m.data,
          [(1, w32 (65536 * m.data.length + hd)), (3, w32 m.tseq)])

/-- The port has a sequenced frame to send or to repeat: IRQ_N is low (R461). -/
def irqLow (s : State) (p : Nat) : Bool :=
  let q := port s p
  linkUp s p && (q.resetOut || q.rep.isSome || (nextQueued (frozen s) q).isSome)

/-- 17 Table 17.11. -/
def portStatus (s : State) (p : Nat) : Word :=
  let q := port s p
  w32 (4096 * freeSlots q + 256 * q.unacked.length + 32 * (s.obj.ports.getD p Assoc.zero).role + 16 * b2n (frozen s && p == 0) +
    8 * b2n (s.clk.mode == 1) + 4 * b2n (q.sub != 0) + 2 * b2n (irqLow s p) + b2n q.synced)

/-- HST.RDST (R478). -/
def execHstRdst (c : CoreId) (rs : Reg) (s : State) : Host.Outcome State Fault Refusal :=
  unitI s c rs .hst .read 6 (fun _ _ ws => onIf (resv ws 1 1) stRANGE) fun _ s ws =>
    let p := bits (rw ws 1) 0 0
    let q := port s p
    (s, [(2, portStatus s p), (3, w32 (65536 * q.crcErr + q.retx)), (4, w32 (65536 * q.overrun + q.strDrop)), (5, w32 (65536 * q.evLost + q.trunc))])

/-! ## Frames -/

/-- IDLE (R457, R459). -/
def execIdle (p : PortId) (frame : List Nat) (s : State) : Host.Outcome State Fault Refusal := onKind s p 0 frame true

/-- MESSAGE (R465). -/
def execMessage (p : PortId) (frame : List Nat) (agree : Bool) (s : State) : Host.Outcome State Fault Refusal := onKind s p 2 frame agree

/-- STREAM (R464). -/
def execStream (p : PortId) (frame : List Nat) (s : State) : Host.Outcome State Fault Refusal := onKind s p 5 frame true

/-- READOUT (R467; 16 R451). -/
def execReadout (p : PortId) (frame : List Nat) (s : State) : Host.Outcome State Fault Refusal := onKind s p 7 frame true

/-- RELEASE (R467; 16 R450). -/
def execRelease (p : PortId) (frame : List Nat) (s : State) : Host.Outcome State Fault Refusal := onKind s p 9 frame true

/-- RESET (R462). -/
def execReset (p : PortId) (frame : List Nat) (s : State) : Host.Outcome State Fault Refusal := onKind s p 10 frame true

/-- CRCERR (R458). -/
def execCrcerr (p : PortId) (frame : List Nat) (s : State) : Host.Outcome State Fault Refusal :=
  .next (if linkUp s (portNo p) && !frameOk (portNo p) (natBytes frame) then badFrame s (portNo p) else s)

/-- HOST_TRANSACTION (R456): `clocks` bytes in each direction; at the optical port, characters and the answer. -/
def execHostTransaction (p : PortId) (clocks : Nat) (rx : List Nat) (agree : Bool) (s : State) : Host.Outcome State Fault Refusal :=
  .next (if p = .optical then optical s clocks (natBytes rx) agree else transaction s (portNo p) clocks (natBytes rx) agree)

/-- OPTICAL_CHAR_TIMEOUT (R469): the pause discards the frame. -/
def execOpticalCharTimeout (s : State) : Host.Outcome State Fault Refusal := .next (modPort s 2 fun q => { q with part := [] })

/-! ## IEEE 1149.1 (R477) -/

/-- The instruction register takes a code; a closed port treats every code but IDCODE as BYPASS. -/
def tapLoad (s : State) (code : Byte) : State :=
  if s.clk.powered then modClk s fun c => { c with tap := if c.dbg || code == 0xFE then code else 0xFF } else s

/-- EXTEST: the RLY and PLS cells are observe-only, so no output moves. -/
def execExtest (s : State) : Host.Outcome State Fault Refusal := .next (tapLoad s 0x00)

/-- SAMPLE/PRELOAD. -/
def execSamplePreload (s : State) : Host.Outcome State Fault Refusal := .next (tapLoad s 0x01)

/-- CLAMP. -/
def execClamp (s : State) : Host.Outcome State Fault Refusal := .next (tapLoad s 0x02)

/-- HIGHZ. -/
def execHighz (s : State) : Host.Outcome State Fault Refusal := .next (tapLoad s 0x03)

/-- DBGACC (R477; 16 R449, R451): with the port open, a FREEZE request. -/
def execDbgacc (agree : Bool) (s : State) : Host.Outcome State Fault Refusal :=
  .next (if s.clk.dbg && alive s then (slackAsk (tapLoad s 0x20) 1 none agree).1 else tapLoad s 0x20)

/-- IDCODE. -/
def execIdcode (s : State) : Host.Outcome State Fault Refusal := .next (tapLoad s 0xFE)

/-- BYPASS. -/
def execBypass (s : State) : Host.Outcome State Fault Refusal := .next (tapLoad s 0xFF)

/-- The identity that IDCODE shifts out (R477). -/
def idcode (s : State) : Word := w32 (s.fuse.stepMajor.toNat % 16 * 2 ^ 28 + 0x0712855D)

end Sys2Proof.Machine
end

