-- ==== Sys2Proof/Machine/LaneCalc.lean ====
section
/-! DEFINITION. The reference program's inputs: stretches of streams, calibration, temperature bands and grid values (06 R169 to R177). -/

namespace Sys2Proof.Machine

/-! ## Exact arithmetic -/

def dot (a b : List Int) : Int := (List.zipWith (· * ·) a b).foldl (· + ·) 0
def sumSq (a : List Int) : Nat := (dot a a).toNat
def addL (a b : List Int) : List Int := List.zipWith (· + ·) a b
def subL (a b : List Int) : List Int := List.zipWith (· - ·) a b
def scaleL (k : Int) (a : List Int) : List Int := a.map (k * ·)
def negSum (n : Nat) (l : List (List Int)) : List Int := l.foldl subL (List.replicate n 0)

/-! ## The calibration block (Tables 6.1, 6.3, 6.4, 6.7) -/

/-- The block as it stands in MRAM. -/
def calCopy (s : State) : CalBlock :=
  { gen := calGen s, eff := calEff s,
    mem := (s.mram.filter fun c => decide (0x30000 ≤ c.1) && decide (c.1 < 0x36640)).map fun c => (c.1 - 0x30000, c.2) }

def calWord (b : CalBlock) (o : Nat) : Word := Mem.word b.mem o
def chRec (b : CalBlock) (n i : Nat) : Word := calWord b (0x40 + 16 * n + 4 * i)
def bandWord (b : CalBlock) (n k : Nat) : Word := calWord b (0x840 + 4 * (42 * n + k))
def cabWord (b : CalBlock) (mp i : Nat) : Word := calWord b (0x5C40 + 32 * mp + 4 * i)
def mpWord (b : CalBlock) (mp i : Nat) : Word := calWord b (0x6040 + 48 * mp + 4 * i)

def chfs (b : CalBlock) (n : Nat) : Nat := (chRec b n 3).toNat
def ampOf (b : CalBlock) (n : Nat) : Nat := bits (chRec b n 2) 7 0
def tsrcOf (b : CalBlock) (n : Nat) : Nat := bits (chRec b n 2) 15 8

/-- PHCAL + PCORR, in 1/256 MOD cycle (R170). -/
def corrOf (b : CalBlock) (n k : Nat) : Int := sext 16 (bits (chRec b n 2) 31 16) + sext 16 (bits (bandWord b n k) 15 0)

/-- R174. -/
def calibrate (b : CalBlock) (n k : Nat) (x : Int) : Int :=
  let t := x * (chRec b n 0).toInt / 2 ^ 30
  let g := sext 16 (bits (bandWord b n k) 31 16)
  (satSmp ((2 * t * (10000000 + g) + 10000000) / 20000000 - (chRec b n 1).toInt)).1

/-- The roles' channels: V0-V2, VLOAD, I0-I2, IN; 0xFF not used. -/
def rolesOf (b : CalBlock) (mp : Nat) : List Nat :=
  (List.range 4).map (fun i => bits (mpWord b mp 2) (8 * i + 7) (8 * i)) ++ (List.range 4).map fun i => bits (mpWord b mp 3) (8 * i + 7) (8 * i)

def isCh (n : Nat) : Bool := decide (n < 128)

def kindOfMp (b : CalBlock) (mp : Nat) : Nat := bits (mpWord b mp 1) 9 8

/-- The lowest point that contains a channel, and its role there. -/
def pointOf (b : CalBlock) (n : Nat) : Option (Nat × Nat) :=
  (List.range 32).findSome? fun mp =>
    if kindOfMp b mp = 0 then none else (findAt (fun c => c == n) (rolesOf b mp) 0).map fun x => (mp, x.1)

/-! ## Temperatures and bands (R175, R176, R187, R188) -/

/-- The value that AUX handed over with a batch: 0 the die, 1 to 16 XA0 to XA15. -/
def tempBatch (s : State) (batch i : Nat) : Int :=
  match s.aux.temps.find? fun t => t.1 == batch with
  | some t => t.2.getD i (-32768)
  | none => -32768

def tempBad (t : Int) : Bool := decide (t < -5000) || decide (15000 < t)

/-- A channel's temperature with a batch, and whether its source is faulty. -/
def chTemp (s : State) (b : CalBlock) (n batch : Nat) : Int × Bool :=
  let src := tsrcOf b n
  if src = 0 then (tempBatch s batch 0, tempBad (tempBatch s batch 0))
  else
    let t := tempBatch s batch src
    if 16 < src || tempBad t then (tempBatch s batch 0, true) else (t, false)

/-- The band that contains a temperature, and the band after `old` (R175). -/
def bandIn (t : Int) : Nat := (max 0 (min 41 ((t + 4000) / 400))).toNat

def bandNext (old : Nat) (t : Int) : Nat :=
  if 42 ≤ old then bandIn t
  else if t < (4 * (old : Int) - 42) * 100 ∨ (4 * (old : Int) - 34) * 100 ≤ t then bandIn t else old

/-- Bands of a point at a boundary in a batch. -/
def bandsAt (s : State) (b : CalBlock) (mp batch : Nat) (old : List Nat) : List Nat :=
  (rolesOf b mp).mapIdx fun i n => if isCh n then bandNext (old.getD i 255) (chTemp s b n batch).1 else 255

/-- The cable model, if its CRC matches and it describes a conductor (R186). -/
def cableOk (b : CalBlock) (mp : Nat) : Bool :=
  let n := bits (cabWord b mp 0) 15 8
  decide (1 ≤ n) && decide (n ≤ 4) && cabWord b mp 7 == crc32c (wordsBytes ((List.range 7).map (cabWord b mp)))

/-- T of R187 and whether R188 applies. -/
def cableTemp (s : State) (b : CalBlock) (mp batch : Nat) : Int × Bool :=
  let src := bits (cabWord b mp 0) 7 0
  let t := tempBatch s batch (src + 1)
  if 15 < src || tempBad t then (sext 16 (bits (cabWord b mp 1) 31 16), true) else (t, false)

/-- Resistance of conductor `c`, in 10⁻⁸ µΩ (R187). -/
def cableRes (b : CalBlock) (mp c : Nat) (t : Int) : Int :=
  if c < bits (cabWord b mp 0) 15 8 then (cabWord b mp (2 + c)).toNat * (100000000 + (bits (cabWord b mp 1) 15 0 : Nat) * (t - 2000)) else 0

/-! ## Streams -/

/-- A retained epoch item starts a stretch. -/
def runOf (e : Bytes) (n0 : Nat) : SRun := { tf := fld 4 7 e, preset := fld 0 4 e / 2 ^ 22 % 4, n0 := n0, xs := [], ended := false }

/-- The samples of a block, with FALLBACK as tag bit 4. -/
def blockXs (b : Bytes) : List (Int × Nat) :=
  let fb := 16 * (fld 4 4 b / 2 ^ 19 % 2)
  (List.range 16).map fun i => (sext 32 (fld (16 + 4 * i) 4 b), fld 8 8 b / 2 ^ (4 * i) % 16 + fb)

/-- The program takes a stream item; `ep` is the retained epoch for a block whose epoch item is gone. -/
def takeItem (ep : Option Bytes) (rs : List SRun) (i : SItem) : List SRun :=
  match i.kind with
  | 1 => runOf i.bytes 0 :: rs.take 2
  | 0 =>
    let fresh : List SRun := match ep with | some e => { runOf e (16 * i.bseq) with xs := blockXs i.bytes } :: rs.take 2 | none => rs
    match rs with
    | r :: t => if !r.ended && r.n0 + r.xs.length == 16 * i.bseq then { r with xs := r.xs ++ blockXs i.bytes } :: t else fresh
    | [] => fresh
  | 2 =>
    let n := fld 8 4 i.bytes % 32
    match rs with
    | r :: t => { r with ended := true, xs := if n = 0 then r.xs else r.xs.take (r.xs.length + n - 16) } :: t
    | [] => []
  | _ => rs

/-- τ′ of the stretch's sample 0 in 1/256 MOD cycle (R170). -/
def tau0 (r : SRun) (corr : Int) : Int := 256 * r.tf - 128 * spanOf r.preset - corr

/-- m and μ of a grid instant (R171). -/
def gridM (r : SRun) (corr : Int) (g : Nat) : Int := (256 * g - tau0 r corr) / (256 * dOf r.preset : Nat)
def gridMu (r : SRun) (corr : Int) (g : Nat) : Nat := ((256 * g - tau0 r corr) % (256 * dOf r.preset : Nat)).toNat * 2 ^ 24 / (256 * dOf r.preset)

/-- The stretch holds every sample that a grid instant needs, or begins after them. -/
def covers (r : SRun) (corr : Int) (g : Nat) : Bool :=
  let need := gridM r corr g + 12
  decide (need < 0) || decide (need < ((r.n0 + r.xs.length : Nat) : Int))

/-- The 24 inputs of a grid instant. -/
def gridIn (r : SRun) (corr : Int) (g : Nat) : Option (List (Int × Nat)) :=
  let lo := gridM r corr g - 11 - r.n0
  if lo < 0 ∨ r.xs.length < lo.toNat + 24 then none else some ((r.xs.drop lo.toNat).take 24)

/-- The interpolator (R171): phase p towards p + 1 with weight μ[13:0]. -/
def interp (mu : Nat) (xs : List Int) : Int :=
  let p := mu / 2 ^ 14
  let w := mu % 2 ^ 14
  Config.gridRound ((xs.mapIdx fun j x => (Config.interpTap p j * (2 ^ 14 - w : Nat) + Config.interpTap (p + 1) j * w) * x).foldl (· + ·) 0)

/-- The calibrated grid value of a channel in a band, with the OR of its inputs' tags; none without all 24 inputs. -/
def gridVal (b : CalBlock) (rs : List SRun) (n k g : Nat) : Option (Int × Nat) :=
  rs.findSome? fun r =>
    let c := corrOf b n k
    (gridIn r c g).map fun xs =>
      (interp (gridMu r c g) (xs.map fun x => calibrate b n k x.1), xs.foldl (fun t x => t ||| x.2) 0)

/-! ## Rogowski inputs (R177) -/

/-- SENSOR = ROGO. -/
def isRogo (s : State) (n : Nat) : Bool := sensorOf s n == 3

/-- f_nom of NOMF. -/
def fNom (hz60 : Bool) : Nat := if hz60 then 60 else 50

/-- K = tan(π f_nom T_g) in units of 2⁻⁶⁴, with T_g = 128 µs. -/
def rogoK (hz60 : Bool) : Int :=
  let den := 1000000
  let num : Int := 64 * fNom hz60
  turnSin num den * unit / turnCos num den

/-- Integrate codes with the mean m_x, in units of 2⁻³² of a code: every w, the last w and the last x′. -/
def rogoRun (hz60 : Bool) (mx w0 x0 : Int) (cs : List Int) : List Int × Int × Int :=
  let k := rogoK hz60
  cs.foldl (fun (a : List Int × Int × Int) c =>
    let x := c * 2 ^ 32 - mx
    let w := a.2.1 - a.2.1 / 2 ^ 24 + k * (x + a.2.2) / unit
    (a.1 ++ [w], w, x)) ([], w0, x0)

/-- Integrated codes: each w less the mean m_w. -/
def rogoOut (mw : Int) (ws : List Int) : List Int := ws.map fun w => rnd (w - mw) (2 ^ 32)

/-- What makes the phasor of integrated values that of the current, in units of 2⁻⁶⁴: 1 / D with D = j (f / f_nom) K (1 + z) / (1 − (1 − 2⁻²⁴) z), where a grid period at the frequency f is `num`/`den` of a turn and z = exp(−j2π num/den). -/
def rogoFix (hz60 : Bool) (num den : Nat) : Cx :=
  let z := turnBack num den
  let q : Int := 64 * fNom hz60
  let top := cxAdd (2 ^ 24 * unit, 0) (cxScale (-(2 ^ 24 - 1)) z)
  let bot := cxMul (0, 1) (cxAdd (unit, 0) z)
  let r := cxScale (turnCos q 1000000 * (2 * den * fNom hz60 : Nat) * unit) (cxMul top (cxConj bot))
  cxDiv r (cxSq bot * turnSin q 1000000 * 2 ^ 24 * (15625 * num : Nat))

end Sys2Proof.Machine
end

