-- ==== Sys2Proof/Machine/LaneCycle.lean ====
section
/-! DEFINITION. Metering cycles and result frames of the reference program (06 R178 to R191). -/

namespace Sys2Proof.Machine

/-! ## What a pass works with -/

/-- Inputs of a pass: the state, its block, the block before it with the first batch after it, the stretches of every channel. -/
structure Pass where
  s : State
  b : CalBlock
  old : Option CalBlock
  useFrom : Nat
  runs : List (List SRun)

def pRuns (x : Pass) (n : Nat) : List SRun := x.runs.getD n []

/-- The preset of a channel's newest stretch; MEAN without one. -/
def runPreset (x : Pass) (n : Nat) : Nat := match pRuns x n with | r :: _ => r.preset | [] => 1

/-- The block that calibrates a channel's value at an instant: that of the pass which works on the instant's batch (R173, R181). -/
def blkAt (x : Pass) (n g : Nat) : CalBlock :=
  match x.old with
  | some o => if g / 8192 + (if runPreset x n = 2 then 14 else 0) < x.useFrom then o else x.b
  | none => x.b

def mpW (x : Pass) (mp i : Nat) : Word := mpWord x.b mp i
def isAc (x : Pass) (mp : Nat) : Bool := kindOfMp x.b mp == 1
def isThree (x : Pass) (mp : Nat) : Bool := (mpW x mp 1).getLsbD 16
def hz60 (x : Pass) (mp : Nat) : Bool := (mpW x mp 1).getLsbD 13
def hasIn (x : Pass) (mp : Nat) : Bool := (mpW x mp 1).getLsbD 12
def refRole (x : Pass) (mp : Nat) : Nat := if isAc x mp then bits (mpW x mp 1) 15 14 else 0
def roleCh (x : Pass) (mp i : Nat) : Nat := (rolesOf x.b mp).getD i 0xFF

/-- Voltage and current roles by phase: the elements of Table 6.5. -/
def phasesOf (x : Pass) (mp : Nat) : List Nat :=
  if isAc x mp && !isThree x mp then List.range (bits (mpW x mp 1) 11 10) else if isAc x mp then [0, 1] else [0]

/-- VNOM in mV. -/
def vnomOf (x : Pass) (mp : Nat) : Nat := 100 * bits (mpW x mp 4) 15 0

/-- The grid period of a point: MEAN, or NEAP where a DC point's channels run at NEAP (R169, R181). -/
def gridOf (x : Pass) (mp : Nat) : Nat :=
  if isAc x mp then 512 else if runPreset x (roleCh x mp 0) = 2 then 2048 else 512

/-- First instant of the grid at or after `t`. -/
def ceilG (d t : Nat) : Nat := (t + d - 1) / d * d

/-- A role's raw grid value; an unused role has none to miss. -/
def roleVal (x : Pass) (mp : Nat) (bands : List Nat) (i g : Nat) : Option (Int × Nat) :=
  let n := roleCh x mp i
  if isCh n then gridVal (blkAt x n g) (pRuns x n) n (bands.getD i 0) g else some (0, 0)

/-- Every channel of the point has all 24 inputs at a grid instant. -/
def rowOk (x : Pass) (mp : Nat) (bands : List Nat) (g : Nat) : Bool := (List.range 8).all fun i => (roleVal x mp bands i g).isSome

/-! ## A cycle's quantities (R182 to R188) -/

/-- The grid instants of a cycle. -/
def cycGs (x : Pass) (c : Cycle) : List Nat := (List.range ((c.E - c.S) / gridOf x c.mp)).map fun j => c.S + gridOf x c.mp * j

/-- A role's raw values and tags over the cycle. -/
def cycRaw (x : Pass) (y : LPoint) (c : Cycle) (i : Nat) : List (Int × Nat) :=
  (cycGs x c).map fun g => (roleVal x c.mp y.bands i g).getD (0, 0)

/-- A role's w over the cycle, in units of 2⁻³² of a code, with the last w and x′ (R177). -/
def cycRogo (x : Pass) (y : LPoint) (c : Cycle) (i : Nat) : List Int × Int × Int :=
  rogoRun (hz60 x c.mp) (y.mx.getD i 0) (y.rw.getD i 0) (y.rx.getD i 0) ((cycRaw x y c i).map (·.1))

/-- A role's codes, ROGO channels integrated. -/
def cycCol (x : Pass) (y : LPoint) (c : Cycle) (i : Nat) : List Int :=
  if isRogo x.s (roleCh x c.mp i) then rogoOut (y.mw.getD i 0) (cycRogo x y c i).1 else (cycRaw x y c i).map (·.1)

/-- A role's code at the grid instant before the cycle. -/
def prevVal (x : Pass) (y : LPoint) (c : Cycle) (i : Nat) : Int :=
  if isRogo x.s (roleCh x c.mp i) then (rogoOut (y.mw.getD i 0) [y.rw.getD i 0]).headD 0
  else ((roleVal x c.mp y.bands i (c.S - gridOf x c.mp)).getD (0, 0)).1

/-- CHFS of a channel at an instant. -/
def fsAt (x : Pass) (n g : Nat) : Int := chfs (blkAt x n g) n

/-- Values in mV or mA, times 2³⁰. -/
def cycPhys (x : Pass) (y : LPoint) (c : Cycle) (i : Nat) : List Int :=
  List.zipWith (fun g v => fsAt x (roleCh x c.mp i) g * v) (cycGs x c) (cycCol x y c i)

/-- Bounds in 1/256 MOD cycle of a cycle's phasors on a grid of period `d`: its crossings, or its own grid instants (R182). -/
def phSpan (c : Cycle) (d : Nat) : Nat × Nat :=
  match c.cross with
  | some p => p
  | none => (256 * ceilG d c.S, 256 * ceilG d c.E)

/-- The angle of an instant in 1/256 MOD cycle at the cycle's frequency, or at the nominal one from the cycle's start. -/
def phAngle (x : Pass) (c : Cycle) (t : Int) : Int × Nat :=
  match c.cross with
  | some p => (t - p.1, p.2 - p.1)
  | none => ((t - 256 * c.S) * fNom (hz60 x c.mp), 1024000000)

/-- The single-bin DFT of a cycle, in units of 2⁻⁶⁴ of value × 1/256 MOD cycle: each value holds for the grid period that it begins, the end values for the fraction of it within the bounds (log 32). -/
def phSum (x : Pass) (c : Cycle) (d : Nat) (v : Nat → Int) : Cx :=
  let b := phSpan c d
  let g0 := b.1 / (256 * d) * d
  dftSum (phAngle x c 0).2 ((List.range ((b.2 - 256 * g0 + (256 * d - 1)) / (256 * d))).map fun j =>
    let g := g0 + d * j
    (v g, (min b.2 (256 * (g + d)) : Nat) - (max b.1 (256 * g) : Nat), (phAngle x c (256 * g)).1))

/-- A role's phasor sum over the cycle, of values in mV or mA times 2³⁰; that of a ROGO channel divided by the integrator's response (R177). -/
def rolePh (x : Pass) (y : LPoint) (c : Cycle) (i : Nat) : Cx :=
  let d := gridOf x c.mp
  let n := roleCh x c.mp i
  let vs := cycPhys x y c i
  let z := phSum x c d fun g => if g < c.S then fsAt x n g * prevVal x y c i else vs.getD ((g - c.S) / d) 0
  if isRogo x.s n then cxDiv (cxMul z (rogoFix (hz60 x c.mp) (phAngle x c (256 * d)).1.toNat (phAngle x c 0).2)) unit else z

/-- Im(V1 I1*) of one element, of phasor sums. -/
def reactOf (x : Pass) (y : LPoint) (c : Cycle) (k : Nat) : Int := (cxMul (rolePh x y c k) (cxConj (rolePh x y c (4 + k)))).2

/-- 2⁻⁴⁰ µWh from mV · mA · 2⁶⁰ · MOD cycles: the denominator. -/
def eDen : Nat := 2 ^ 20 * 4000000 * 3600

/-- ES or ESC over a cycle from its voltages and currents, each scaled up by `k` for the voltages (Table 6.5). -/
def apparent (three : Bool) (d k : Nat) (vs is : List (List Int)) (iN : List Int) : Int :=
  let den := (eDen * k) ^ 2
  let v (i : Nat) := vs.getD i []
  if three then
    rootRnd ((sumSq (v 0) + sumSq (v 1) + sumSq (subL (v 0) (v 1))) * ((is.map sumSq).foldl (· + ·) 0 + sumSq iN) * d ^ 2) (27 * den)
  else if vs.length = 3 then
    rootRnd ((3 * (vs.map sumSq).foldl (· + ·) 0 + sumSq (subL (v 0) (v 1)) + sumSq (subL (v 1) (v 2)) + sumSq (subL (v 2) (v 0))) *
      ((is.map sumSq).foldl (· + ·) 0 + sumSq iN) * d ^ 2) (54 * den)
  else (List.zipWith (fun a b => rootRnd (sumSq a * sumSq b * d ^ 2) den) vs is).foldl (· + ·) 0

/-- Connector-referred voltages, scaled up by 10¹⁴ (R187). -/
def cableVs (x : Pass) (mp : Nat) (t : Int) (vs is : List (List Int)) (iN : List Int) : List (List Int) :=
  let r (c : Nat) := cableRes x.b mp c t
  let v (i : Nat) := scaleL 100000000000000 (vs.getD i [])
  let a (i : Nat) := is.getD i []
  if !isAc x mp then [subL (v 0) (scaleL (r 0 + r 1) (a 0))]
  else if isThree x mp then [addL (subL (v 0) (scaleL (r 0) (a 0))) (scaleL (r 1) iN), addL (subL (v 1) (scaleL (r 2) (a 1))) (scaleL (r 1) iN)]
  else (List.range vs.length).map fun k => addL (subL (v k) (scaleL (r k) (a k))) (scaleL (r 3) iN)

/-- The five energies of a cycle in 2⁻⁴⁰ µWh (R182, R183, R187): EP, EQ, ES, EPC, ESC. -/
def energies (x : Pass) (y : LPoint) (c : Cycle) (iN : List Int) (t : Int) : List Int :=
  let d := gridOf x c.mp
  let vs := (phasesOf x c.mp).map fun k => cycPhys x y c k
  let is := (phasesOf x c.mp).map fun k => cycPhys x y c (4 + k)
  let sum (us : List (List Int)) : Int := (List.zipWith dot us is).foldl (· + ·) 0
  let ep := rnd (sum vs * d) eDen
  let eq := if isAc x c.mp then rnd (2 * ((phasesOf x c.mp).map (reactOf x y c)).foldl (· + ·) 0 * (c.E - c.S : Nat)) (eDen * (2 ^ 64 * ((phSpan c d).2 - (phSpan c d).1)) ^ 2) else 0
  let es := if isAc x c.mp then apparent (isThree x c.mp) d 1 vs is iN else 0
  if cableOk x.b c.mp then
    let us := cableVs x c.mp t vs is iN
    [ep, eq, es, rnd (sum us * d) (eDen * 100000000000000), if isAc x c.mp then apparent (isThree x c.mp) d 100000000000000 us is iN else 0]
  else [ep, eq, es, ep, es]

/-! ## The frame (R189, R190) -/

/-- An rms in units of `u` mV or mA, truncated: its value and whether it is above the field. -/
def rmsField (u : Nat) (a : List Int) : Nat × Bool :=
  let q := isqrt (sumSq a / (a.length * (u * 2 ^ 30) ^ 2))
  (min 65535 q, decide (65535 < q))

/-- The rms reaches `m` mV or mA. -/
def rmsGe (a : List Int) (m : Nat) : Bool := decide (a.length * (m * 2 ^ 30) ^ 2 ≤ sumSq a)

/-- The reference voltage is not below 10 % of VNOM (R179). -/
def refOk (x : Pass) (y : LPoint) (c : Cycle) : Bool :=
  let a := cycPhys x y c (refRole x c.mp)
  decide (a.length * (vnomOf x c.mp * 2 ^ 30) ^ 2 ≤ 100 * sumSq a)

/-- VLOAD_ON (R190). -/
def vloadNext (x : Pass) (y : LPoint) (c : Cycle) : Bool :=
  if !isCh (roleCh x c.mp 3) then false
  else
    let a := cycPhys x y c 3
    let at' (p : Nat) : Bool := decide (a.length * (p * vnomOf x c.mp * 2 ^ 30) ^ 2 ≤ 10000 * sumSq a)
    let on := bits (mpW x c.mp 5) 7 0
    let off := bits (mpW x c.mp 5) 15 8
    if y.cold then at' off else if at' on then true else if at' off then y.vloadOn else false

/-- A source was faulty in a batch of the cycle (R176). -/
def tsrcFault (x : Pass) (c : Cycle) : Bool :=
  (rolesOf x.b c.mp).any fun n => isCh n && (List.range ((c.E - 1) / 8192 + 1 - c.S / 8192)).any fun j => (chTemp x.s x.b n (c.S / 8192 + j)).2

/-- Tags of the cycle, FALLBACK as bit 4. -/
def cycTags (x : Pass) (y : LPoint) (c : Cycle) : Nat :=
  (List.range 8).foldl (fun t i => (cycRaw x y c i).foldl (fun t v => t ||| v.2) t) 0

/-- QUAD (R185). -/
def quadOf (ep eq : Int) : Nat := if 0 ≤ ep then (if 0 ≤ eq then 0 else 3) else if 0 ≤ eq then 1 else 2

/-- R184: every current channel of the point below ISTART. -/
def noLoad (x : Pass) (y : LPoint) (c : Cycle) : Bool :=
  (List.range 4).all fun i => !isCh (roleCh x c.mp (4 + i)) || !rmsGe (cycPhys x y c (4 + i)) (bits (mpW x c.mp 4) 31 16)

/-- The point after a cycle, and the cycle's result frame. -/
def closeCycle (x : Pass) (y : LPoint) (c : Cycle) : LPoint × Bytes :=
  let mp := c.mp
  let n := (c.E - c.S) / gridOf x mp
  let iN := if hasIn x mp then cycPhys x y c 7 else negSum n ((phasesOf x mp).map fun k => cycPhys x y c (4 + k))
  let tc := cableTemp x.s x.b mp (c.S / 8192)
  let e := energies x y c iN tc.1
  let nl := noLoad x y c
  let acc := if nl then y.acc else List.zipWith (· + ·) y.acc e
  let fields := List.zipWith (fun (a b : Int) => unsext 32 (a / 2 ^ 32 - b / 2 ^ 32)) acc y.acc
  let von := vloadNext x y c
  let vs := (List.range 3).map fun k => if isCh (roleCh x mp k) then rmsField 20 (cycPhys x y c k) else (0, false)
  let is := (List.range 3).map fun k => if isCh (roleCh x mp (4 + k)) then rmsField 10 (cycPhys x y c (4 + k)) else (0, false)
  let nf := if isAc x mp then rmsField 10 iN else (0, false)
  let vl := if isCh (roleCh x mp 3) then rmsField 20 (cycPhys x y c 3) else (0, false)
  let rms := vs ++ is ++ [nf, vl]
  let na := !cableOk x.b mp || tc.2
  let flags := c.flags ||| cycTags x y c ||| (if nl then 2 ^ 6 else 2 ^ 13 * quadOf (e.getD 0 0) (e.getD 1 0)) |||
    2 ^ 7 * b2n (!y.lastBands.isEmpty && y.bands != y.lastBands) |||
    2 ^ 8 * b2n y.first ||| 2 ^ 10 * b2n von ||| 2 ^ 11 * b2n na ||| 2 ^ 12 * b2n (tsrcFault x c) ||| 2 ^ 15 * b2n (rms.any (·.2))
  let body := le 4 y.seq ++ [BitVec.ofNat 8 (mp + 32 * b2n (!isAc x mp)), BitVec.ofNat 8 (y.bands.getD (refRole x mp) 0)] ++ le 2 flags ++ le 4 c.E ++
    le 4 (c.E - c.S) ++ fields.flatMap (le 4) ++ le 2 (if isAc x mp then c.freq else 0) ++ rms.flatMap (fun r => le 2 r.1) ++
    le 2 (if cableOk x.b mp then unsext 16 tc.1 else 0x8000) ++ le 4 0
  let f := frameOf body
  let bands := bandsAt x.s x.b mp (c.E / 8192) y.bands
  let mean (l : List Int) : Int := rnd (l.foldl (· + ·) 0) n
  let rogo (i : Nat) : Int × Int × Int × Int :=
    if isRogo x.s (roleCh x mp i) && n != 0 then
      let q := cycRogo x y c i
      (mean ((cycRaw x y c i).map fun v => v.1 * 2 ^ 32), mean q.1, q.2.1, q.2.2)
    else (y.mx.getD i 0, y.mw.getD i 0, y.rw.getD i 0, y.rx.getD i 0)
  let rg := (List.range 8).map rogo
  ({ y with
      seq := (y.seq + 1) % 2 ^ 32, acc := acc, bands := bands, lastBands := y.bands, first := false, vloadOn := von, cold := false,
      mx := rg.map (·.1), mw := rg.map (·.2.1), rw := rg.map (·.2.2.1), rx := rg.map (·.2.2.2), latest := f }, f)

/-! ## Tracking (R178, R179) -/

/-- The 65 coefficients h[k] of the tracking filter. -/
def trackHalf : List Int :=
  [0, -16420, -55256, -97374, -119445, -94698, 6116, 213617, 558556, 1070513, 1776557, 2699944, 3858894, 5265501, 6924816, 8834164] ++
  [10982703, 13351268, 15912510, 18631327, 21465592, 24367142, 27283017, 30156893, 32930672, 35546175, 37946874, 40079605] ++
  [41896204, 43355008, 44422157, 45072668]

def trackTaps : List Int := trackHalf ++ [45291224] ++ trackHalf.reverse

/-- The filtered value: the exact sum shifted right by 30, rounded half up, saturated. -/
def trackFilter (xs : List Int) : Int := (satSmp (rshift (dot trackTaps xs) 30)).1

/-- Below −10 % of √2 × VNOM: f · CHFS / 2³⁰ mV. -/
def armLevel (x : Pass) (mp : Nat) (f : Int) : Bool :=
  let v := f * (chfs x.b (roleCh x mp (refRole x mp)) : Nat)
  decide (v < 0) && decide (2 * (vnomOf x mp * 2 ^ 30) ^ 2 < 100 * v.natAbs ^ 2)

def nomLen (x : Pass) (mp : Nat) : Nat := if hz60 x mp then 66667 else 80000

/-- A cycle's end: the point past the cycle, and the frame with its cycle. -/
structure Ended where
  y : LPoint
  out : List (Cycle × Bytes)

/-- Close [S, E) and begin the next cycle at E. -/
def endCycle (x : Pass) (y : LPoint) (c : Cycle) (open' : Option Nat) : Ended :=
  let r := closeCycle x y c
  { y := { r.1 with start := some c.E, openX := open', closeAt := none }, out := [(c, r.2)] }

/-- The cycle in progress ends untracked at the first grid instant at or after its start plus P_nom. -/
def setClose (x : Pass) (mp s : Nat) (y : LPoint) : LPoint := { y with closeAt := some (ceilG 512 (s + nomLen x mp)) }

/-- An untracked cycle (R179). -/
def lostCycle (mp s e g : Nat) : Cycle := { mp := mp, S := s, E := e, freq := 0, cross := none, flags := 2 ^ 5, seen := g }

/-- End the cycle once its untracked end has come. -/
def tryClose (x : Pass) (mp g : Nat) (y : LPoint) : Ended :=
  match y.start, y.closeAt with
  | some s, some e => if e ≤ g then endCycle x y (lostCycle mp s e g) none else { y := y, out := [] }
  | _, _ => { y := y, out := [] }

/-- The cycle that began at `s` meets a crossing at `cx` (1/256 MOD cycle), detected at instant `g`: it ends there, or it is untracked and ends after P_nom, and a crossing after that end meets the cycle that follows (R178, R179). -/
def crossGo (x : Pass) (mp g cx : Nat) : Nat → Nat → LPoint → Ended
  | 0, _, y => { y := y, out := [] }
  | k + 1, s, y =>
    let e := ceilG 512 ((cx + 255) / 256)
    match y.closeAt with
    | some u =>
      if e ≤ u then { y := y, out := [] }
      else
        let r := endCycle x y (lostCycle mp s u g) none
        let q := crossGo x mp g cx k u r.y
        { y := q.y, out := r.out ++ q.out }
    | none =>
      if e ≤ s then { y := y, out := [] }
      else if (s + 88889) * 256 < cx then crossGo x mp g cx k s (setClose x mp s y)
      else match y.openX with
        | none => endCycle x y (lostCycle mp s e g) (some cx)
        | some c0 =>
          let iv := cx - c0
          let c : Cycle := { mp := mp, S := s, E := e, freq := 4000000 * 256 * 1000 / iv, cross := some (c0, cx), flags := 0, seen := g }
          if 4000000 * 256 ≤ iv * 65 && decide (iv * 45 ≤ 4000000 * 256) && refOk x y c then endCycle x y c (some cx)
          else crossGo x mp g cx k s (setClose x mp s y)

/-- The crossing that the filtered values `a` before and `f` at instant `g` detect, corrected for the filter's delay. -/
def crossAt (g : Nat) (a f : Int) : Nat := ((g - 33 * 512 : Nat) * 256 + rnd (512 * 256 * -a) (f - a).toNat).toNat

/-- A point between cycles. -/
def noCycle (y : LPoint) : LPoint := { y with start := none, openX := none, closeAt := none, trk := [], filt := none, armed := false }

/-- One grid instant of an AC point all of whose inputs exist. -/
def acRow (x : Pass) (mp g : Nat) (y0 : LPoint) : Ended :=
  let y := match y0.start with
    | some _ => y0
    | none => { noCycle y0 with start := some g }
  let trk := ((roleVal x mp y.bands (refRole x mp) g).getD (0, 0)).1 :: y.trk.take 64
  if trk.length < 65 then tryClose x mp g { y with trk := trk }
  else
    let f := trackFilter trk
    let hit := y.armed && decide (0 ≤ f)
    let z := { y with trk := trk, filt := some f, armed := (y.armed && !hit) || armLevel x mp f }
    let s := z.start.getD g
    let r := match hit, y.filt with
      | true, some a => if a < 0 then crossGo x mp g (crossAt g a f) 4 s z else { y := z, out := [] }
      | _, _ => { y := z, out := [] }
    let late := r.out.isEmpty && r.y.closeAt.isNone && decide (s + 88889 + 32 * 512 ≤ g)
    let q := tryClose x mp g (if late then setClose x mp s r.y else r.y)
    { y := q.y, out := r.out ++ q.out }

/-- One grid instant of a DC point all of whose inputs exist (R179). -/
def dcRow (x : Pass) (mp d g : Nat) (y : LPoint) : Ended :=
  match y.start with
  | none => { y := { y with start := some g }, out := [] }
  | some s =>
    if g / 80000 > (g - d) / 80000 && decide (s < g) then endCycle x y { mp := mp, S := s, E := g, freq := 0, cross := none, flags := 0, seen := g } none
    else { y := y, out := [] }

/-- One grid instant of a point: without all inputs, the cycle in progress closes with CHAIN_GAP at the last instant that had them (Table 6.12; log 32). -/
def gridRow (x : Pass) (mp d g : Nat) (y : LPoint) : Ended :=
  if rowOk x mp y.bands g then (if isAc x mp then acRow x mp g y else dcRow x mp d g y)
  else match y.start with
    | none => { y := y, out := [] }
    | some s =>
      if s + d < g then
        let c : Cycle := { mp := mp, S := s, E := g - d, freq := 0, cross := none, flags := 2 ^ 9, seen := g }
        let r := closeCycle x y c
        { y := noCycle r.1, out := [(c, r.2)] }
      else { y := noCycle y, out := [] }

/-- The grid instants of a pass for a point, in order; a point between cycles takes its bands with the batch. -/
def pointPass (x : Pass) (mp : Nat) (gs : List Nat) (y : LPoint) : Ended :=
  gs.foldl (fun r g =>
    let y0 := if r.y.start.isNone then { r.y with bands := bandsAt x.s x.b mp (g / 8192) r.y.bands } else r.y
    let q := gridRow x mp (gridOf x mp) g y0
    { y := q.y, out := r.out ++ q.out }) { y := y, out := [] }

end Sys2Proof.Machine
end

