-- ==== Sys2Proof/Machine/LaneWin.lean ====
section
/-! DEFINITION. Harmonic, interharmonic and supraharmonic analysis (06 R192 to R195). -/

namespace Sys2Proof.Machine

/-! ## Frames (Table 6.10) -/

/-- An analysis frame: its SEQ from window, channel and part. -/
def anaFrame (idx n part amp kind aflags wstart wlen cycles : Nat) (vals : Bytes) : Bytes :=
  frameOf (le 4 (idx % 2 ^ 19 * 2 ^ 13 + n * 2 ^ 6 + part) ++ [BitVec.ofNat 8 (amp + 32 * kind), 0] ++ le 2 aflags ++ le 4 wstart ++
    le 4 (wlen % 2 ^ 24 + cycles * 2 ^ 24) ++ fit 44 vals)

/-- Frame `i` of `k` falls due in the pass of this batch: evenly over the next window (R195). -/
def spread (k0 len : Nat) (fs : List Bytes) : List (Nat × Bytes) := fs.mapIdx fun i f => (k0 + 1 + i * (len / 8192) / fs.length, f)

/-! ## Harmonics (R192, R193) -/

/-- The band that calibrates a channel outside a point's own cycles: that of the lowest-numbered point that contains it, or its own (R175). -/
def exBand (x : Pass) (p : Prog) (n : Nat) : Nat :=
  match pointOf x.b n with
  | some (mp, i) => (p.pts.getD mp LPoint.zero).bands.getD i 255
  | none => p.chBand.getD n 255

/-- Calibrated samples of a channel whose represented instants lie in [lo, hi), with those instants, in 1/256 MOD cycle. -/
def winSamples (x : Pass) (n k : Nat) (lo hi : Int) : List (Int × Int) :=
  (pRuns x n).reverse.flatMap fun r =>
    let d : Int := 256 * dOf r.preset
    let at' (i : Nat) : Int := tau0 r (corrOf x.b n k) + d * (r.n0 + i : Nat)
    (r.xs.mapIdx fun i v =>
      let b := blkAt x n (at' i / 256).toNat
      (tau0 r (corrOf b n k) + d * (r.n0 + i : Nat), calibrate b n k v.1)).filter fun v => decide (lo ≤ v.1) && decide (v.1 < hi)

/-- The channel's values at the instants of its own grid in a cycle; none where inputs are missing (R169). -/
def chCol (x : Pass) (p : Prog) (n : Nat) (c : Cycle) : List (Option (Int × Nat)) :=
  let d := dOf (runPreset x n)
  (List.range ((ceilG d c.E - ceilG d c.S) / d)).map fun j =>
    let g := ceilG d c.S + d * j
    gridVal (blkAt x n g) (pRuns x n) n (exBand x p n) g

/-- A lane that catches up suspends its windows (07 R215, R220). -/
def laneLags (x : Pass) (l : LaneId) (p : Prog) : Bool :=
  let st := (pl x.s l).st
  (st == 4 || st == 5 || st == 7) && p.catchUp

/-- Instants of [a, b) lie in a REDUCED span (Table 6.12). -/
def inReduced (x : Pass) (a b : Nat) : Bool :=
  x.s.clk.reducedSpans.any fun r => decide (r.1 < b) && (match r.2 with | some e => decide (a < e) | none => true)

/-- The channel's values at `m` instants evenly spaced over the window from `lo` for `len` MOD cycles, with the interpolator of R171 on samples a period `d` apart (R192). -/
def resample (d : Nat) (xs : List (Int × Int)) (lo len m : Nat) : List Int :=
  (List.range m).map fun i =>
    let t : Int := 256 * (lo * m + len * i : Nat)
    let k := (xs.takeWhile fun v => decide (v.1 * m ≤ t)).length
    let tau := (xs.getD (k - 1) (0, 0)).1
    interp ((t - tau * m).toNat * 2 ^ 24 / (256 * d * m) % 2 ^ 24) (((xs.drop (k - 12)).take 24).map (·.2))

/-- The squared magnitude of bin `k` of a DFT of the values, in units of 2⁻¹²⁸. -/
def binSq (vs : List Int) (k : Nat) : Nat := cxSq (dftSum vs.length (vs.mapIdx fun i v => (v, 1, ((k * i : Nat) : Int))))

/-- The squared magnitude of a filter's response, in units of 2⁻¹²⁸, where a tap is `num`/`den` of a turn. -/
def respSq (taps : List Int) (num den : Nat) : Nat := cxSq (dftSum den (taps.mapIdx fun i h => (h, 1, ((num * i : Nat) : Int))))

/-- A bin's power divided by that of the MEAN bank, S4 and S5, relative to DC (R193; log 32). -/
def undroop (c : Ch) (k len pow : Nat) : Nat :=
  let h4 := symTaps (bankTaps c.bank 3 24)
  let h5 := symTaps (bankTaps c.bank 27 17)
  let dc (h : List Int) : Nat := ((2 ^ 64 * h.foldl (· + ·) 0) ^ 2).toNat
  pow * (dc h4 * dc h5) / (respSq h4 (256 * k) len * respSq h5 (512 * k) len)

/-- A ROGO channel's bin, which is proportional to its frequency, referred to f_nom (R177). -/
def unrogo (hz60 : Bool) (k len pow : Nat) : Nat := pow * (len * fNom hz60) ^ 2 / (k * 4000000) ^ 2

/-- Bins of the harmonic subgroup of order `h` (KIND 2), or of the interharmonic centred subgroup above it (KIND 3), with `n` cycles in the window. -/
def groupBins (kind n h : Nat) : List Nat := if kind = 2 then [n * h - 1, n * h, n * h + 1] else (List.range (n - 3)).map fun j => n * h + 2 + j

/-- The subgroups of orders 1 to 63, in units of 2⁻²² × CHFS. -/
def subgroups (x : Pass) (n amp kind : Nat) (w : AWin) (s0 e : Nat) : List Nat :=
  let pre := runPreset x n
  let m := if pre = 0 then 4096 else 2048
  let vs := resample (dOf pre) w.xs s0 (e - s0) m
  let c := chan x.s n
  (List.range 63).map fun i =>
    let bin (k : Nat) : Nat :=
      let a := if pre = 1 && hz60 x amp && decide (54 ≤ i) then undroop c k (e - s0) (binSq vs k) else binSq vs k
      if isRogo x.s n then unrogo (hz60 x amp) k (e - s0) a else a
    min (2 ^ 24 - 1) (rootRnd (2 * ((groupBins kind w.cycles (i + 1)).map bin).sum) ((m * 2 ^ 72) ^ 2)).toNat

/-- Frames of a complete window: parts 0 to 4 of KIND 2, then of KIND 3. -/
def winFrames (x : Pass) (n amp : Nat) (w : AWin) (s0 e : Nat) : List Bytes :=
  let droop (p : Nat) : Nat := b2n (runPreset x n == 1 && hz60 x amp && decide (3 ≤ p))
  [2, 3].flatMap fun kind =>
    let vs := subgroups x n amp kind w s0 e
    (List.range 5).map fun p =>
      anaFrame w.idx n p amp kind (w.flags % 16 + 16 * droop p) s0 (e - s0) w.cycles ((List.range 14).flatMap fun i => le 3 (vs.getD (14 * p + i) 0))

/-- A cycle of a channel's AMP point: the window takes it, or is discarded; 10 or 12 cycles complete it. -/
def winCycle (x : Pass) (l : LaneId) (p : Prog) (n : Nat) (c : Cycle) (w : AWin) : AWin × Nat :=
  let col := chCol x p n c
  let tags := col.foldl (fun t v => match v with | some y => t ||| y.2 | none => t) 0
  let bad := laneLags x l p || inReduced x c.S c.E || c.cross.isNone || tags.testBit 4 || ampOf (blkAt x n c.S) n != c.mp || col.any (·.isNone)
  if bad then (winReset w, 0)
  else
    let first := w.start.isNone
    let s0 := w.start.getD c.S
    let cyc := w.cycles + 1
    let last := cyc == (if hz60 x c.mp then 12 else 10)
    let m : Int := 256 * 13 * dOf (runPreset x n)
    let xs := w.xs ++ winSamples x n (exBand x p n) (256 * c.S - (if first then m else 0)) (256 * c.E + (if last then m else 0))
    let w1 := { w with start := some s0, cycles := cyc, flags := w.flags ||| tags, xs := xs }
    if last then
      ({ w with idx := w.idx + 1, start := none, cycles := 0, flags := 0, xs := [], due := spread p.batch (c.E - s0) (winFrames x n c.mp w1 s0 c.E) }, w.due.length)
    else (w1, 0)

/-- The channel is enabled and timed by an AC metering point. -/
def analysed (x : Pass) (n mp : Nat) : Bool := chEnabled (chan x.s n) && ampOf x.b n == mp && decide (mp < 32) && isAc x mp

/-- A channel's fundamental phasor over a cycle, rms, in calibrated codes (R182, Table 6.11); that of a ROGO channel referred to f_nom (log 32). -/
def chPhasor (x : Pass) (p : Prog) (n : Nat) (c : Cycle) : Int × Int :=
  let d := dOf (runPreset x n)
  let z := phSum x c d fun g => ((gridVal (blkAt x n g) (pRuns x n) n (exBand x p n) g).getD (0, 0)).1
  let f := fNom (hz60 x c.mp)
  let y : Cx := if isRogo x.s n then (match c.cross with | some q => cxDiv (cxScale (f * (q.2 - q.1 : Nat)) (cxMul (0, -1) z)) 1024000000 | none => cxMul (0, -1) z) else z
  let b := phSpan c d
  let rms (v : Int) : Int :=
    let r := rootRnd (2 * v.natAbs ^ 2) (((b.2 - b.1) * 2 ^ 64) ^ 2)
    if v < 0 then -r else r
  ((satSmp (rms y.1)).1, (satSmp (rms y.2)).1)

/-- A closed cycle times the channels whose AMP names its point: NEAP channels when their values cover it, the others at once. -/
def cycleTimes (x : Pass) (l : LaneId) (neap : Bool) (p : Prog) (c : Cycle) : Prog :=
  (List.range 128).foldl (fun p n =>
    if !analysed x n c.mp || (runPreset x n == 2) != neap then p
    else
      let r := winCycle x l p n c (p.wins.getD n AWin.zero)
      { p with wins := p.wins.set n r.1, ph := p.ph.set n (chPhasor x p n c), drops := p.drops + r.2 }) p

/-- A closed cycle is timed now for MEAN and SPRING channels and 14 batches later for NEAP channels (R181). -/
def cycleDone (x : Pass) (l : LaneId) (p : Prog) (c : Cycle) : Prog :=
  let q := cycleTimes x l false p c
  { q with late := q.late ++ [(p.batch + 14, c)] }

/-- The NEAP channels of the cycles whose time has come. -/
def lateCycles (x : Pass) (l : LaneId) (p : Prog) : Prog :=
  let now' := p.late.filter fun e => decide (e.1 ≤ p.batch)
  now'.foldl (fun q e => cycleTimes x l true q e.2) { p with late := p.late.filter fun e => decide (p.batch < e.1) }

/-! ## Supraharmonics (R194) -/

/-- The window of a SURGE sample: the represented instant lies 258.5 MOD cycles before its tick (Table 3.2). -/
def surgeWin (tf i : Nat) : Nat := (2 * (tf + 8 * i) - 517) / 1600000

/-- The squared bin magnitude of a segment at 2100 + 200 b Hz, in units of 2⁻¹²⁸. -/
def surgeBin (seg : List Int) (b : Nat) : Nat := cxSq (dftSum 5000 (seg.mapIdx fun i v => (v, 1, (((21 + 2 * b) * i : Nat) : Int))))

/-- The level of a band from its sum over 40 segments of 2500 samples: rms, relative to a peak value of 2³⁰ (Table 6.10). -/
def bandLevel (sum : Nat) : Nat := levelCode (4 * sum) (40 * 2500 ^ 2 * 2 ^ 60 * 2 ^ 128)

/-- Parts 0 to 33 of a complete window. -/
def surgeFrames (n : Nat) (w : SWin) (win : Nat) : List Bytes :=
  (List.range 34).map fun p =>
    anaFrame w.idx n p 0 4 (w.flags % 16) (win * 800000) 800000 0 ((List.range 22).flatMap fun i =>
      if 740 ≤ 22 * p + i then le 2 0 else le 2 (bandLevel (w.sums.getD (22 * p + i) 0)))

/-- One SURGE sample enters its window; 40 segments of 2500 complete it. -/
def surgeSample (n k0 : Nat) (off : Bool) (tf i : Nat) (v : Int × Nat) (r : SWin × Nat) : SWin × Nat :=
  let w := r.1
  let q := surgeWin tf i
  let start := decide (517 ≤ 2 * (tf + 8 * i)) && (i = 0 || surgeWin tf (i - 1) != q) && decide ((2 * (tf + 8 * i) - 517) % 1600000 < 16)
  if off then (swReset w, r.2)
  else
    let w1 : SWin := if start then { swReset w with win := some q, seg := [], segs := 0, sums := List.replicate 740 0, flags := 0 } else w
    match w1.win with
    | none => (w1, r.2)
    | some win =>
      let seg := w1.seg ++ [v.1]
      let w2 := { w1 with seg := seg, flags := w1.flags ||| v.2 }
      if seg.length < 2500 then (w2, r.2)
      else
        let w3 := { w2 with seg := [], segs := w2.segs + 1, sums := w2.sums.mapIdx fun b v => v + surgeBin seg b }
        if w3.segs < 40 then (w3, r.2)
        else
          ({ w3 with idx := w3.idx + 1, win := none, segs := 0, sums := [], flags := 0, due := spread k0 800000 (surgeFrames n w3 win) }, r.2 + w3.due.length)

/-- A SURGE sample is calibrated like any other of its channel (R174), by the block at the instant that it represents. -/
def surgeCal (x : Pass) (p : Prog) (n t : Nat) (v : Int × Nat) : Int × Nat := (calibrate (blkAt x n (t - 258)) n (exBand x p n) v.1, v.2)

/-- The tick of sample 0 of the stream that a window reads: noted, or that of the retained epoch. -/
def surgeTf (w : SWin) (ep : Option Bytes) : Option Nat := match w.tf with | some t => some t | none => ep.map fun e => fld 4 7 e

/-- One item of a SURGE stream: a skipped block (R90) or the path's end discards the window in progress. -/
def surgeItem (x : Pass) (l : LaneId) (p : Prog) (n : Nat) (ep : Option Bytes) (r : SWin × Nat) (i : SItem) : SWin × Nat :=
  let w := r.1
  match i.kind with
  | 1 => ({ swReset w with tf := some (fld 4 7 i.bytes), next := 0 }, r.2)
  | 0 =>
    match surgeTf w ep with
    | none => r
    | some t =>
      let w1 := { (if w.next = i.bseq && w.tf.isSome then w else swReset w) with tf := some t, next := i.bseq + 1 }
      let t0 := t + 128 * i.bseq
      let off := laneLags x l p || inReduced x (t0 - 259) (t0 + 128)
      (((blockXs i.bytes).mapIdx fun j v => (j, v)).foldl (fun a e => surgeSample n p.batch off t (16 * i.bseq + e.1) (surgeCal x p n (t0 + 8 * e.1) e.2) a) (w1, r.2))
  | 2 => ({ swReset w with tf := none }, r.2)
  | _ => r

/-- Tick of the last sample of the item that follows: of a block, or of the block before another item; 0 before any. -/
def surgeTick (w : SWin) (ep : Option Bytes) (i : SItem) : Nat :=
  match surgeTf w ep with
  | some t => if i.kind = 0 then t + 128 * i.bseq + 120 else t + 128 * w.next
  | none => 0

/-- SURGE items of a pass: those whose last sample's tick does not lie beyond the ticks that the pass's MEAN values need (log 32), so that a pass takes the same items in either lane (R165). -/
def surgeGo (x : Pass) (l : LaneId) (p : Prog) (n : Nat) (ep : Option Bytes) : List SItem → SWin × Nat → Nat → (SWin × Nat) × Nat
  | [], r, k => (r, k)
  | i :: t, r, k =>
    if 8192 * p.batch + 29886 < surgeTick r.1 ep i then (r, k)
    else surgeGo x l p n ep t (surgeItem x l p n ep r i) (k + 1)

/-- A pass takes its items of a channel's SURGE path. -/
def surgePass (x : Pass) (l : LaneId) (a : State × Prog) (n : Nat) : State × Prog :=
  let p := a.2
  let st := (chan x.s n).sus
  let lo := max (strPos st l) st.base
  let r := surgeGo x l p n (epochAt st lo) (st.items.drop (lo - st.base)) (p.swins.getD n SWin.zero, 0) 0
  if r.2 = 0 then a
  else
    (modCh a.1 n fun c => { c with sus := setPos c.sus l (lo + r.2) },
     { p with swins := p.swins.set n r.1.1, drops := p.drops + r.1.2 })

/-! ## Offering the frames (R195) -/

/-- Offer the frames that are due: each until the extension buffer is full; the rest next time. -/
def offerDue (l : LaneId) (k : Nat) : Nat → State → List (Nat × Bytes) → State × List (Nat × Bytes)
  | 0, s, ds => (s, ds)
  | m + 1, s, ds =>
    match ds with
    | [] => (s, [])
    | (at', f) :: t =>
      if k < at' then (s, ds)
      else if 16 ≤ (pl s l).xbuf.length then ({ s with pair := { s.pair with xdrop := sat 65535 (s.pair.xdrop + 1) } }, ds)
      else offerDue l k m (modPl s l fun q => { q with xbuf := q.xbuf ++ [f] }) t

/-- All channels' frames in ascending order, harmonic windows first. -/
def offerAll (l : LaneId) (s : State) (p : Prog) : State × Prog :=
  (List.range 128).foldl (fun (r : State × Prog) n =>
    let w := r.2.wins.getD n AWin.zero
    let v := r.2.swins.getD n SWin.zero
    let a := offerDue l p.batch w.due.length r.1 w.due
    let b := offerDue l p.batch v.due.length a.1 v.due
    (b.1, { r.2 with wins := r.2.wins.set n { w with due := a.2 }, swins := r.2.swins.set n { v with due := b.2 } })) (s, p)

end Sys2Proof.Machine
end

