-- ==== Sys2Proof/Machine/LanePass.lean ====
section
/-! DEFINITION. LANE_PASS: a pass of the reference program over a MEAN and a NEAP batch, and the exchange area (06 R173, R181, R196; 07 R215). -/

namespace Sys2Proof.Machine

/-! ## Calibration (R173, R499) -/

/-- A definition in the block, as bytes. -/
def mpBytes (b : CalBlock) (mp : Nat) : Bytes := Mem.readN b.mem (0x6040 + 48 * mp) 48

/-- A point whose sequence restarts: 0 and FIRST; its energies and its load-side state go on (R183, R190, R499). -/
def restartPoint (y : LPoint) : LPoint := { LPoint.zero with acc := y.acc, vloadOn := y.vloadOn, cold := false }

/-- The pending copy comes into use: FIRST on every point, a changed or newly accepted definition restarts its point, a changed AMP ends its window. -/
def useBlock (counts : List Nat) (p : Prog) (u q : CalBlock) : Prog :=
  { p with
    use := some q
    pend := none
    old := some u
    useFrom := p.batch
    defSeen := counts
    pts := p.pts.mapIdx fun mp y =>
      if mpBytes u mp = mpBytes q mp ∧ p.defSeen.getD mp 0 = counts.getD mp 0 then { y with first := true } else restartPoint y
    wins := p.wins.mapIdx fun n w => if ampOf u n = ampOf q n then w else winReset w }

/-- At every pass the program compares GEN, copies a changed block as pending, and applies it from EFFBATCH on. -/
def progCal (s : State) (p : Prog) : Prog :=
  match p.use with
  | none => { p with use := some (calCopy s), pend := none, defSeen := s.defCount }
  | some u =>
    let pend := if calGen s = (p.pend.getD u).gen then p.pend else some (calCopy s)
    match pend with
    | some q => if later 32 q.eff (p.batch % 2 ^ 32) then { p with pend := pend } else useBlock s.defCount p u q
    | none => p

/-! ## Inputs (R181) -/

/-- Grid instants of a pass at MEAN, at NEAP, 14 batches behind, and at SPRING (R169). -/
def meanGs (k : Nat) : List Nat := (List.range 16).map fun i => 512 * (16 * k + i)
def neapGs (k : Nat) : List Nat := if k < 14 then [] else (List.range 4).map fun i => 2048 * (4 * (k - 14) + i)
def springGs (k : Nat) : List Nat := (List.range 32).map fun i => 256 * (32 * k + i)
def passGs (preset k : Nat) : List Nat := if preset = 2 then neapGs k else if preset = 0 then springGs k else meanGs k

/-- Grid instants of which a pass lays a channel's values out: a SPRING channel's at the MEAN instants (R196). -/
def exGs (preset k : Nat) : List Nat := if preset = 2 then neapGs k else meanGs k

/-- The largest PHCAL + PCORR of a channel, whatever its band: so that what a pass waits for does not depend on the band (log 32). -/
def corrMax (b : CalBlock) (n : Nat) : Int := (List.range 42).foldl (fun m k => max m (corrOf b n k)) (corrOf b n 0)

/-- The newest stretch goes on and holds what the pass uses. -/
def covered (corr : Int) (k : Nat) (rs : List SRun) : Bool :=
  match rs with
  | r :: _ => !r.ended && (match (passGs r.preset k).getLast? with | some g => covers r corr g | none => true)
  | [] => false

/-- Pop items until the stretch covers the pass: the stretches, and how many items were taken; `ep` is the epoch item of the stream at hand. -/
def popRuns (ok : List SRun → Bool) : Option Bytes → List SItem → List SRun → Nat → List SRun × Nat
  | _, [], rs, k => (rs, k)
  | ep, i :: t, rs, k => if ok rs then (rs, k) else popRuns ok (if i.kind = 1 then some i.bytes else ep) t (takeItem ep rs i) (k + 1)

/-- A channel's stretches for a pass and the items taken. -/
def feedCh (s : State) (l : LaneId) (p : Prog) (b : CalBlock) (n : Nat) : List SRun × Nat :=
  let st := (chan s n).str
  popRuns (covered (corrMax b n) p.batch) (epochAt st (strPos st l)) (st.items.drop (strPos st l - st.base)) (p.runs.getD n []) 0

/-- The stretch that a chain will emit, before its epoch item is written. -/
def virtualRun (c : Ch) : SRun :=
  { tf := c.chain.t1 + dOf c.chain.preset * c.chain.n0, preset := c.chain.preset, n0 := 0, xs := [], ended := false }

/-- A running chain's inputs of the pass are readable; an ended one counts as complete at its end item. -/
def chReady (s : State) (p : Prog) (b : CalBlock) (n : Nat) (rs : List SRun) : Bool :=
  let c := chan s n
  c.chain.st == 0 || c.chain.wait || covered (corrMax b n) p.batch (if c.chain.started then rs else [virtualRun c])

/-- Every channel's stretches, taken items and readiness. -/
def feedAll (s : State) (l : LaneId) (p : Prog) (b : CalBlock) : List (List SRun × Nat) := (List.range 128).map (feedCh s l p b)

/-- Every input of the pass is readable, with the AUX values of the batch. -/
def passReady (s : State) (l : LaneId) (p : Prog) (b : CalBlock) : Bool :=
  decide (p.batch < s.aux.batch) && ((feedAll s l p b).mapIdx fun n r => chReady s p b n r.1).all id

/-- A ring has gone past the lane's position (03 R89). -/
def anyLost (s : State) (l : LaneId) : Bool := s.chs.any fun c => strLost c.str l

/-- Samples that no later cycle, filter or window of a pass can need are forgotten: 25 batches are kept. -/
def trimRuns (k : Nat) (rs : List SRun) : List SRun :=
  match rs with
  | r :: t =>
    match (passGs r.preset k).head? with
    | some g => let lo := (gridM r 0 g - (204800 / dOf r.preset + 64 : Nat) - r.n0).toNat; { r with n0 := r.n0 + min lo r.xs.length, xs := r.xs.drop lo } :: t
    | none => rs
  | [] => []

/-! ## Result frames (R181) -/

/-- By end instant, then by point. -/
def insFrame (f : Cycle × Bytes) : List (Cycle × Bytes) → List (Cycle × Bytes)
  | [] => [f]
  | g :: t => if f.1.E < g.1.E || (f.1.E == g.1.E && decide (f.1.mp < g.1.mp)) then f :: g :: t else g :: insFrame f t

/-- Every defined point over the pass: the program and the frames of the cycles that ended, in order. -/
def passPoints (x : Pass) (l : LaneId) (p : Prog) : Prog × List (Cycle × Bytes) :=
  (List.range 32).foldl (fun (a : Prog × List (Cycle × Bytes)) mp =>
    if kindOfMp x.b mp = 0 then a
    else
      let r := pointPass x mp (if gridOf x mp = 2048 then neapGs p.batch else meanGs p.batch) (a.1.pts.getD mp LPoint.zero)
      let q := r.out.foldl (fun q c => cycleDone x l q c.1) a.1
      ({ q with pts := q.pts.set mp r.y }, r.out.foldl (fun fs f => insFrame f fs) a.2)) (p, [])

/-! ## The exchange area (R196, Table 6.11) -/

/-- A channel's grid values of the batch, ROGO channels integrated from the start of the cycle in progress. -/
def exVals (x : Pass) (p : Prog) (n : Nat) : List (Option (Int × Nat)) :=
  let gs := exGs (runPreset x n) p.batch
  let v (g : Nat) := gridVal (blkAt x n g) (pRuns x n) n (exBand x p n) g
  if !isRogo x.s n then gs.map v
  else match pointOf x.b n with
    | none => gs.map v
    | some (mp, i) =>
      let y := p.pts.getD mp LPoint.zero
      let d := gridOf x mp
      gs.map fun g =>
        match v g, y.start with
        | some w, some s =>
          if s ≤ g then
            let cs := (List.range ((g - s) / d + 1)).map fun j => ((v (s + d * j)).getD (0, 0)).1
            some ((rogoOut (y.mw.getD i 0) [(rogoRun (hz60 x mp) (y.mx.getD i 0) (y.rw.getD i 0) (y.rx.getD i 0) cs).2.1]).headD 0, w.2)
          else some w
        | w, _ => w

/-- A channel's status word in the area; the count of 16 does not fit its field, which holds it modulo 16 (log 32). -/
def exWord (x : Pass) (n : Nat) (vs : List (Option (Int × Nat))) : Nat :=
  if (chan x.s n).chain.st = 0 then 0
  else
    let cnt := (vs.filter (·.isSome)).length
    vs.foldl (fun t v => match v with | some y => t ||| y.2 | none => t) 0 % 16 + 16 * runPreset x n + 64 * b2n (cnt != 0) + 256 * (cnt % 16)

/-- The 16 KiB of the area. -/
def exBytes (x : Pass) (p : Prog) (frames : Nat) : Bytes :=
  let vals := (List.range 128).map (exVals x p)
  let z (n : Nat) : Bytes := List.replicate n 0
  fit 64 (le 4 p.batch ++ le 8 (8192 * p.batch % 2 ^ 56) ++ le 4 frames ++ le 4 x.b.gen) ++
    ((vals.mapIdx fun n vs => le 4 (exWord x n vs)).flatten ++ z 448) ++
    ((p.pts.mapIdx fun mp y => if kindOfMp x.b mp = 0 then z 64 else fit 64 y.latest).flatten ++
      (p.ph.mapIdx fun n v => if ampOf x.b n < 32 then le 4 (i32 v.1).toNat ++ le 4 (i32 v.2).toNat else z 8).flatten) ++
    (vals.flatMap fun vs => fit 64 (vs.flatMap fun v => le 4 (i32 (v.getD (0, 0)).1).toNat)) ++
    fit 4096 ((List.range 17).flatMap fun i => le 2 (unsext 16 (tempBatch x.s p.batch i)))

/-- Put the area into the lane's data memory at 0x5C000. -/
def putArea (m : Mem) (bs : Bytes) : Mem :=
  (m.filter fun c => decide (c.1 < 0x5C000)) ++ (((bs.take 16384).mapIdx fun i b => (0x5C000 + i, b)).filter fun c => c.2 != 0) ++
    m.filter fun c => decide (0x60000 ≤ c.1)

/-! ## The pass -/

/-- Move the lane's positions past what the pass took. -/
def movePos (s : State) (l : LaneId) (taken : List Nat) : State :=
  { s with chs := s.chs.mapIdx fun n c => { c with str := setPos c.str l (strPos c.str l + taken.getD n 0) } }

/-- The program with the inputs of the pass and the bands of channels in no point. -/
def passProg (s : State) (p : Prog) (b : CalBlock) (runs : List (List SRun)) : Prog :=
  { p with
    runs := runs
    chBand := p.chBand.mapIdx fun n k => if (pointOf b n).isSome then k else bandNext k (chTemp s b n p.batch).1 }

/-- MODTICK at which the input that a channel's value at an instant needs last became readable: the end of the block that holds sample m + 12, or of the stretch (07 R221). -/
def inputTick (x : Pass) (n g : Nat) : Nat :=
  match pRuns x n with
  | r :: _ =>
    let j := (gridM r (corrMax x.b n) g + 12).toNat
    r.tf + dOf r.preset * min (16 * (j / 16) + 15) (if r.ended then r.n0 + r.xs.length - 1 else 16 * (j / 16) + 15)
  | [] => 0

/-- The last input of a cycle of a point. -/
def cycleInput (x : Pass) (c : Cycle) : Nat := (((rolesOf x.b c.mp).filter isCh).map fun n => inputTick x n c.seen).foldl max 0

/-- The end of a pass: the next batch, and whether its inputs are readable already (07 R215). -/
def passEnd (s : State) (l : LaneId) (p : Prog) (b : CalBlock) : State :=
  let q := { p with batch := p.batch + 1, runs := p.runs.map (trimRuns p.batch) }
  let more := passReady s l q b
  let t := modLane s l fun y => { y with prog := { q with catchUp := more } }
  if more then t else caughtUp t l

/-- A pass whose inputs are readable; nothing while the PAIR input buffer has no room for its frames (05 R150). -/
def passRun (s0 s : State) (l : LaneId) (p : Prog) (b : CalBlock) : State :=
  let fed := feedAll s l p b
  let x : Pass := { s := s, b := b, old := p.old, useFrom := p.useFrom, runs := fed.map (·.1) }
  let r := passPoints x l (passProg s p b (fed.map (·.1)))
  let only := (pl s l).st == 7
  if 128 < (pl s l).inbuf.length + r.2.length then s0
  else
    let a := modPl (movePos s l (fed.map (·.2))) l fun q => 
      { q with inbuf := q.inbuf ++ r.2.map (·.2), inputAt := (r.2.map (fun f => (f.2.take 5, cycleInput x f.1)) ++ q.inputAt).take 128 }
    let u := (List.range 128).foldl (surgePass x l) (a, lateCycles x l r.1)
    let p1 := u.2
    if only then passEnd u.1 l p1 b
    else
      let c := modLane u.1 l fun y => { y with dmem := putArea y.dmem (exBytes x p1 r.2.length) }
      let d := offerAll l c p1
      passEnd d.1 l d.2 b

/-- The lane runs its reference program. -/
def laneRuns (s : State) (l : LaneId) : Bool :=
  let y := lane s l
  alive s && y.running && y.stall == .none && y.run.isNone

/-- LANE_PASS (R181): a lane processes its next batch once all inputs are readable; SLOTS and FRM.CKPT are the lane's own instructions. -/
def execLanePass (l : LaneId) (s : State) : Host.Outcome State Fault Refusal :=
  .next (if !laneRuns s l then s
    else if anyLost s l then raise s (.ref l) (xStream 1)
    else
      let a := auxRoll s
      let p := progCal a (lane a l).prog
      match p.use with
      | none => s
      | some b => if passReady a l p b then passRun s a l p b else s)

end Sys2Proof.Machine
end

