-- ==== Sys2Proof/Machine/Posted.lean ====
section
/-! DEFINITION. The completion of posted operations (05 R156 to R158). -/

namespace Sys2Proof.Machine

/-- What a KEY operation computes when it runs at the head of its queue (11 R330); none while an attestation waits for a frame start. -/
def keyRun (s : State) (q : Posted) : Option (State × Nat × List (Nat × Word)) :=
  match q.op with
  | 0 => some (runSign s q)
  | 1 => some (runSign s q)
  | 2 => some (runSign s q)
  | 3 => some (runGcm s q)
  | 4 => some (runDerive s q)
  | 5 => some (runWrap s q)
  | 6 => some (runUnwrap s q)
  | 11 => runAttest s q
  | _ => some (s, 0, [])

/-- The head KEY operation of a world without an outcome runs. -/
def keyHead (s : State) (w : World) : State :=
  match findAt (fun q => q.unit == .key && q.world == w) s.posts 0 with
  | none => s
  | some (i, q) =>
    if q.outcome.isSome then s
    else match keyRun s q with
      | none => { s with dpy := { s.dpy with attWait := true } }
      | some (t, o, res) => { t with posts := t.posts.modify i fun p => { p with outcome := some o, results := res } }

/-- POSTED_OPERATION_COMPLETE (R156): the oldest operation of the unit and world whose outcome is known. -/
def execPostedOperationComplete (u : UnitId) (w : World) (s : State) : Host.Outcome State Fault Refusal :=
  .next (if alive s then finishPost (if u = .key then keyHead s w else s) u w else s)

end Sys2Proof.Machine
end

