-- ==== Sys2Proof/Machine/Scalar.lean ====
section
/-! DEFINITION. The scalar instructions of the Chromus cores (04 R112, R113, Table 4.8). -/

namespace Sys2Proof.Machine

/-- ADD (R112): modulo 2³². -/
def execAdd (c : CoreId) (rd rs1 rs2 : Reg) (s : State) : Host.Outcome State Fault Refusal :=
  alu s c rd fun g => g rs1 + g rs2

/-- SUB (R112): modulo 2³². -/
def execSub (c : CoreId) (rd rs1 rs2 : Reg) (s : State) : Host.Outcome State Fault Refusal :=
  alu s c rd fun g => g rs1 - g rs2

/-- AND (R112). -/
def execAnd (c : CoreId) (rd rs1 rs2 : Reg) (s : State) : Host.Outcome State Fault Refusal :=
  alu s c rd fun g => g rs1 &&& g rs2

/-- OR (R112). -/
def execOr (c : CoreId) (rd rs1 rs2 : Reg) (s : State) : Host.Outcome State Fault Refusal :=
  alu s c rd fun g => g rs1 ||| g rs2

/-- XOR (R112). -/
def execXor (c : CoreId) (rd rs1 rs2 : Reg) (s : State) : Host.Outcome State Fault Refusal :=
  alu s c rd fun g => g rs1 ^^^ g rs2

/-- SLL (R112): by rs2[4:0]. -/
def execSll (c : CoreId) (rd rs1 rs2 : Reg) (s : State) : Host.Outcome State Fault Refusal :=
  alu s c rd fun g => g rs1 <<< shAmt (g rs2)

/-- SRL (R112): by rs2[4:0]. -/
def execSrl (c : CoreId) (rd rs1 rs2 : Reg) (s : State) : Host.Outcome State Fault Refusal :=
  alu s c rd fun g => g rs1 >>> shAmt (g rs2)

/-- SRA (R112): by rs2[4:0]. -/
def execSra (c : CoreId) (rd rs1 rs2 : Reg) (s : State) : Host.Outcome State Fault Refusal :=
  alu s c rd fun g => (g rs1).sshiftRight (shAmt (g rs2))

/-- SLT (R112), signed. -/
def execSlt (c : CoreId) (rd rs1 rs2 : Reg) (s : State) : Host.Outcome State Fault Refusal :=
  alu s c rd fun g => setIf (decide ((g rs1).toInt < (g rs2).toInt))

/-- SLTU (R112), unsigned. -/
def execSltu (c : CoreId) (rd rs1 rs2 : Reg) (s : State) : Host.Outcome State Fault Refusal :=
  alu s c rd fun g => setIf (decide ((g rs1).toNat < (g rs2).toNat))

/-- ADDS (R112), saturating. -/
def execAdds (c : CoreId) (rd rs1 rs2 : Reg) (s : State) : Host.Outcome State Fault Refusal :=
  alu s c rd fun g => addSat (g rs1) (g rs2)

/-- SUBS (R112), saturating. -/
def execSubs (c : CoreId) (rd rs1 rs2 : Reg) (s : State) : Host.Outcome State Fault Refusal :=
  alu s c rd fun g => subSat (g rs1) (g rs2)

/-- MIN (R112), signed. -/
def execMin (c : CoreId) (rd rs1 rs2 : Reg) (s : State) : Host.Outcome State Fault Refusal :=
  alu s c rd fun g => minS (g rs1) (g rs2)

/-- MAX (R112), signed. -/
def execMax (c : CoreId) (rd rs1 rs2 : Reg) (s : State) : Host.Outcome State Fault Refusal :=
  alu s c rd fun g => maxS (g rs1) (g rs2)

/-- MINU (R112), unsigned. -/
def execMinu (c : CoreId) (rd rs1 rs2 : Reg) (s : State) : Host.Outcome State Fault Refusal :=
  alu s c rd fun g => minU (g rs1) (g rs2)

/-- MAXU (R112), unsigned. -/
def execMaxu (c : CoreId) (rd rs1 rs2 : Reg) (s : State) : Host.Outcome State Fault Refusal :=
  alu s c rd fun g => maxU (g rs1) (g rs2)

/-- MUL (R112): low word of the product. -/
def execMul (c : CoreId) (rd rs1 rs2 : Reg) (s : State) : Host.Outcome State Fault Refusal :=
  alu s c rd fun g => g rs1 * g rs2

/-- MULH (R112): high word of the signed product. -/
def execMulh (c : CoreId) (rd rs1 rs2 : Reg) (s : State) : Host.Outcome State Fault Refusal :=
  alu s c rd fun g => mulHigh (g rs1) (g rs2)

/-- MULHU (R112): high word of the unsigned product. -/
def execMulhu (c : CoreId) (rd rs1 rs2 : Reg) (s : State) : Host.Outcome State Fault Refusal :=
  alu s c rd fun g => mulHighU (g rs1) (g rs2)

/-- DIV (R112, R113). -/
def execDiv (c : CoreId) (rd rs1 rs2 : Reg) (s : State) : Host.Outcome State Fault Refusal :=
  alu s c rd fun g => quotS (g rs1) (g rs2)

/-- DIVU (R112, R113). -/
def execDivu (c : CoreId) (rd rs1 rs2 : Reg) (s : State) : Host.Outcome State Fault Refusal :=
  alu s c rd fun g => quotU (g rs1) (g rs2)

/-- REM (R112, R113). -/
def execRem (c : CoreId) (rd rs1 rs2 : Reg) (s : State) : Host.Outcome State Fault Refusal :=
  alu s c rd fun g => remS (g rs1) (g rs2)

/-- REMU (R112, R113). -/
def execRemu (c : CoreId) (rd rs1 rs2 : Reg) (s : State) : Host.Outcome State Fault Refusal :=
  alu s c rd fun g => remU (g rs1) (g rs2)

/-- CLZ (R112): 32 for 0. -/
def execClz (c : CoreId) (rd rs1 : Reg) (s : State) : Host.Outcome State Fault Refusal :=
  alu s c rd fun g => leadZeros (g rs1)

/-- ADDI (R112): sign-extended immediate. -/
def execAddi (c : CoreId) (rd rs1 : Reg) (imm : Imm16) (s : State) : Host.Outcome State Fault Refusal :=
  alu s c rd fun g => g rs1 + sext16 imm

/-- ANDI (R112): zero-extended immediate. -/
def execAndi (c : CoreId) (rd rs1 : Reg) (imm : Imm16) (s : State) : Host.Outcome State Fault Refusal :=
  alu s c rd fun g => g rs1 &&& zext16 imm

/-- ORI (R112): zero-extended immediate. -/
def execOri (c : CoreId) (rd rs1 : Reg) (imm : Imm16) (s : State) : Host.Outcome State Fault Refusal :=
  alu s c rd fun g => g rs1 ||| zext16 imm

/-- XORI (R112): zero-extended immediate. -/
def execXori (c : CoreId) (rd rs1 : Reg) (imm : Imm16) (s : State) : Host.Outcome State Fault Refusal :=
  alu s c rd fun g => g rs1 ^^^ zext16 imm

/-- SLTI (R112): signed, sign-extended immediate. -/
def execSlti (c : CoreId) (rd rs1 : Reg) (imm : Imm16) (s : State) : Host.Outcome State Fault Refusal :=
  alu s c rd fun g => setIf (decide ((g rs1).toInt < (sext16 imm).toInt))

/-- SLTIU (R112): unsigned, sign-extended immediate. -/
def execSltiu (c : CoreId) (rd rs1 : Reg) (imm : Imm16) (s : State) : Host.Outcome State Fault Refusal :=
  alu s c rd fun g => setIf (decide ((g rs1).toNat < (sext16 imm).toNat))

/-- SLLI (R112). -/
def execSlli (c : CoreId) (rd rs1 : Reg) (sh : Imm5) (s : State) : Host.Outcome State Fault Refusal :=
  alu s c rd fun g => g rs1 <<< sh.val

/-- SRLI (R112). -/
def execSrli (c : CoreId) (rd rs1 : Reg) (sh : Imm5) (s : State) : Host.Outcome State Fault Refusal :=
  alu s c rd fun g => g rs1 >>> sh.val

/-- SRAI (R112). -/
def execSrai (c : CoreId) (rd rs1 : Reg) (sh : Imm5) (s : State) : Host.Outcome State Fault Refusal :=
  alu s c rd fun g => (g rs1).sshiftRight sh.val

/-- LUI (R112): imm16 << 16. -/
def execLui (c : CoreId) (rd : Reg) (imm : Imm16) (s : State) : Host.Outcome State Fault Refusal :=
  alu s c rd fun _ => zext16 imm <<< 16

/-- LB (R112): sign-extended byte. -/
def execLb (c : CoreId) (rd rs1 : Reg) (imm : Imm16) (s : State) : Host.Outcome State Fault Refusal :=
  load s c rd rs1 imm 1 fun n => i32 (sext 8 n)

/-- LBU (R112): zero-extended byte. -/
def execLbu (c : CoreId) (rd rs1 : Reg) (imm : Imm16) (s : State) : Host.Outcome State Fault Refusal :=
  load s c rd rs1 imm 1 w32

/-- LH (R112, R113): sign-extended halfword. -/
def execLh (c : CoreId) (rd rs1 : Reg) (imm : Imm16) (s : State) : Host.Outcome State Fault Refusal :=
  load s c rd rs1 imm 2 fun n => i32 (sext 16 n)

/-- LHU (R112, R113): zero-extended halfword. -/
def execLhu (c : CoreId) (rd rs1 : Reg) (imm : Imm16) (s : State) : Host.Outcome State Fault Refusal :=
  load s c rd rs1 imm 2 w32

/-- LW (R112, R113). -/
def execLw (c : CoreId) (rd rs1 : Reg) (imm : Imm16) (s : State) : Host.Outcome State Fault Refusal :=
  load s c rd rs1 imm 4 w32

/-- SB (R112, R113). -/
def execSb (c : CoreId) (rs2 rs1 : Reg) (imm : Imm16) (s : State) : Host.Outcome State Fault Refusal :=
  store s c rs2 rs1 imm 1

/-- SH (R112, R113). -/
def execSh (c : CoreId) (rs2 rs1 : Reg) (imm : Imm16) (s : State) : Host.Outcome State Fault Refusal :=
  store s c rs2 rs1 imm 2

/-- SW (R112, R113). -/
def execSw (c : CoreId) (rs2 rs1 : Reg) (imm : Imm16) (s : State) : Host.Outcome State Fault Refusal :=
  store s c rs2 rs1 imm 4

/-- BEQ (R112): branch if rs1 = rs2. -/
def execBeq (c : CoreId) (rs1 rs2 : Reg) (off : Imm16) (s : State) : Host.Outcome State Fault Refusal :=
  branch s c rs1 rs2 off fun a b => a == b

/-- BNE (R112): branch if rs1 ≠ rs2. -/
def execBne (c : CoreId) (rs1 rs2 : Reg) (off : Imm16) (s : State) : Host.Outcome State Fault Refusal :=
  branch s c rs1 rs2 off fun a b => a != b

/-- BLT (R112): branch if rs1 < rs2, signed. -/
def execBlt (c : CoreId) (rs1 rs2 : Reg) (off : Imm16) (s : State) : Host.Outcome State Fault Refusal :=
  branch s c rs1 rs2 off fun a b => decide (a.toInt < b.toInt)

/-- BGE (R112): branch if rs1 ≥ rs2, signed. -/
def execBge (c : CoreId) (rs1 rs2 : Reg) (off : Imm16) (s : State) : Host.Outcome State Fault Refusal :=
  branch s c rs1 rs2 off fun a b => decide (b.toInt ≤ a.toInt)

/-- BLTU (R112): branch if rs1 < rs2, unsigned. -/
def execBltu (c : CoreId) (rs1 rs2 : Reg) (off : Imm16) (s : State) : Host.Outcome State Fault Refusal :=
  branch s c rs1 rs2 off fun a b => decide (a.toNat < b.toNat)

/-- BGEU (R112): branch if rs1 ≥ rs2, unsigned. -/
def execBgeu (c : CoreId) (rs1 rs2 : Reg) (off : Imm16) (s : State) : Host.Outcome State Fault Refusal :=
  branch s c rs1 rs2 off fun a b => decide (b.toNat ≤ a.toNat)

/-- JAL (R112): rd = pc + 4; pc = pc + 4 × off21. -/
def execJal (c : CoreId) (rd : Reg) (off : Imm21) (s : State) : Host.Outcome State Fault Refusal :=
  instrOn s c fun x s =>
    let pc := (bankOf s x).pc
    setPc (setG s x rd (pc + 4)) x (pc + 4 * BitVec.signExtend 32 off)

/-- JALR (R112, R113): the old rs1 gives the target; a target that is not a multiple of 4 raises ALIGN, with the target in EADDR (DESIGN CHOICE, log 12, unsafe: Table 4.1 calls EADDR a data address and R116 names no other). -/
def execJalr (c : CoreId) (rd rs1 : Reg) (imm : Imm16) (s : State) : Host.Outcome State Fault Refusal :=
  instrOn s c fun x s =>
    let t := getG s x rs1 + sext16 imm
    if t.toNat % 4 ≠ 0 then raise s x (xAlign t) else setPc (setG s x rd ((bankOf s x).pc + 4)) x t

end Sys2Proof.Machine
end

