-- ==== Sys2Proof/Machine/Vector.lean ====
section
/-! DEFINITION. The vector and accumulator instructions of the lanes (05 R141 to R146, Table 5.2). -/

namespace Sys2Proof.Machine

/-- Element by element over two vector registers. -/
def lanewise (f : Word → Word → Word) (a b : List Word) : List Word := (List.range 8).map fun i => f (a.getD i 0) (b.getD i 0)

/-- Element by element over one vector register. -/
def elementwise {α : Type} (f : Word → α) (a : List Word) : List α := (List.range 8).map fun i => f (a.getD i 0)

/-- Accumulator elements from the accumulator and the products of two vectors. -/
def accumulate (f : Int → Int → Int) (a : List Acc) (p q : List Word) : List Acc :=
  (List.range 8).map fun i => acc72 (f (a.getD i 0).toInt ((p.getD i 0).toInt * (q.getD i 0).toInt))

/-- VADD (R143): modulo 2³². -/
def execVadd (c : CoreId) (vd vs1 vs2 : VReg) (s : State) : Host.Outcome State Fault Refusal :=
  vop s c vd fun x s => lanewise (fun a b => a + b) (getV s x vs1) (getV s x vs2)

/-- VSUB (R143): modulo 2³². -/
def execVsub (c : CoreId) (vd vs1 vs2 : VReg) (s : State) : Host.Outcome State Fault Refusal :=
  vop s c vd fun x s => lanewise (fun a b => a - b) (getV s x vs1) (getV s x vs2)

/-- VADDS (R143). -/
def execVadds (c : CoreId) (vd vs1 vs2 : VReg) (s : State) : Host.Outcome State Fault Refusal :=
  vop s c vd fun x s => lanewise addSat (getV s x vs1) (getV s x vs2)

/-- VSUBS (R143). -/
def execVsubs (c : CoreId) (vd vs1 vs2 : VReg) (s : State) : Host.Outcome State Fault Refusal :=
  vop s c vd fun x s => lanewise subSat (getV s x vs1) (getV s x vs2)

/-- VMUL (R143): low 32 bits of the product. -/
def execVmul (c : CoreId) (vd vs1 vs2 : VReg) (s : State) : Host.Outcome State Fault Refusal :=
  vop s c vd fun x s => lanewise (fun a b => a * b) (getV s x vs1) (getV s x vs2)

/-- VMULQ (R143): Q1.31 product rounded half up, saturated. -/
def execVmulq (c : CoreId) (vd vs1 vs2 : VReg) (s : State) : Host.Outcome State Fault Refusal :=
  vop s c vd fun x s => lanewise mulQ (getV s x vs1) (getV s x vs2)

/-- VMIN (R143), signed. -/
def execVmin (c : CoreId) (vd vs1 vs2 : VReg) (s : State) : Host.Outcome State Fault Refusal :=
  vop s c vd fun x s => lanewise minS (getV s x vs1) (getV s x vs2)

/-- VMAX (R143), signed. -/
def execVmax (c : CoreId) (vd vs1 vs2 : VReg) (s : State) : Host.Outcome State Fault Refusal :=
  vop s c vd fun x s => lanewise maxS (getV s x vs1) (getV s x vs2)

/-- VAND (R143). -/
def execVand (c : CoreId) (vd vs1 vs2 : VReg) (s : State) : Host.Outcome State Fault Refusal :=
  vop s c vd fun x s => lanewise (fun a b => a &&& b) (getV s x vs1) (getV s x vs2)

/-- VOR (R143). -/
def execVor (c : CoreId) (vd vs1 vs2 : VReg) (s : State) : Host.Outcome State Fault Refusal :=
  vop s c vd fun x s => lanewise (fun a b => a ||| b) (getV s x vs1) (getV s x vs2)

/-- VXOR (R143). -/
def execVxor (c : CoreId) (vd vs1 vs2 : VReg) (s : State) : Host.Outcome State Fault Refusal :=
  vop s c vd fun x s => lanewise (fun a b => a ^^^ b) (getV s x vs1) (getV s x vs2)

/-- VSRA (R143): arithmetic right shift by imm5. -/
def execVsra (c : CoreId) (vd vs1 : VReg) (imm : Imm5) (s : State) : Host.Outcome State Fault Refusal :=
  vop s c vd fun x s => elementwise (fun a => a.sshiftRight imm.val) (getV s x vs1)

/-- VSLL (R143): left shift by imm5, modulo 2³². -/
def execVsll (c : CoreId) (vd vs1 : VReg) (imm : Imm5) (s : State) : Host.Outcome State Fault Refusal :=
  vop s c vd fun x s => elementwise (fun a => a <<< imm.val) (getV s x vs1)

/-- VABS (R143): saturating absolute value. -/
def execVabs (c : CoreId) (vd vs1 : VReg) (s : State) : Host.Outcome State Fault Refusal :=
  vop s c vd fun x s => elementwise absSat (getV s x vs1)

/-- VCLT (R143): bit i of g is 1 when vs1[i] < vs2[i], signed; bits [31:8] are 0. -/
def execVclt (c : CoreId) (g : Reg) (vs1 vs2 : VReg) (s : State) : Host.Outcome State Fault Refusal :=
  laneInstr s c false fun x s =>
    retire s x g (maskOf ((List.range 8).map fun i => decide (((getV s x vs1).getD i 0).toInt < ((getV s x vs2).getD i 0).toInt)))

/-- VSEL (R143): vs1[i] where bit i of g is 1, otherwise vs2[i]. -/
def execVsel (c : CoreId) (vd vs1 vs2 : VReg) (g : Reg) (s : State) : Host.Outcome State Fault Refusal :=
  vop s c vd fun x s =>
    (List.range 8).map fun i => if (getG s x g).getLsbD i then (getV s x vs1).getD i 0 else (getV s x vs2).getD i 0

/-- VMAC (R143, R144): a[i] + vs1[i] × vs2[i] modulo 2⁷². -/
def execVmac (c : CoreId) (a : AReg) (vs1 vs2 : VReg) (s : State) : Host.Outcome State Fault Refusal :=
  aop s c a fun x s => accumulate (fun p q => p + q) (getA s x a) (getV s x vs1) (getV s x vs2)

/-- VMSB (R143, R144): a[i] − vs1[i] × vs2[i] modulo 2⁷². -/
def execVmsb (c : CoreId) (a : AReg) (vs1 vs2 : VReg) (s : State) : Host.Outcome State Fault Refusal :=
  aop s c a fun x s => accumulate (fun p q => p - q) (getA s x a) (getV s x vs1) (getV s x vs2)

/-- VMACS (R143, R144): a[i] + vs1[i] × g modulo 2⁷². -/
def execVmacs (c : CoreId) (a : AReg) (vs1 : VReg) (g : Reg) (s : State) : Host.Outcome State Fault Refusal :=
  aop s c a fun x s => accumulate (fun p q => p + q) (getA s x a) (getV s x vs1) (List.replicate 8 (getG s x g))

/-- The sum of the eight products of two vectors. -/
def dotSum (p q : List Word) : Int := (List.range 8).foldl (fun n i => n + (p.getD i 0).toInt * (q.getD i 0).toInt) 0

/-- VDOT (R143, R144): the dot product enters a[0]; a[1] to a[7] are unchanged. -/
def execVdot (c : CoreId) (a : AReg) (vs1 vs2 : VReg) (s : State) : Host.Outcome State Fault Refusal :=
  aop s c a fun x s =>
    (getA s x a).set 0 (acc72 (((getA s x a).getD 0 0).toInt + dotSum (getV s x vs1) (getV s x vs2)))

/-- ACLR (R143). -/
def execAclr (c : CoreId) (a : AReg) (s : State) : Host.Outcome State Fault Refusal :=
  aop s c a fun _ _ => List.replicate 8 0

/-- ALD (R143): sext72(vs1[i]) × 2^imm5. -/
def execAld (c : CoreId) (a : AReg) (vs1 : VReg) (imm : Imm5) (s : State) : Host.Outcome State Fault Refusal :=
  aop s c a fun x s => elementwise (fun v => acc72 (v.toInt * 2 ^ imm.val)) (getV s x vs1)

/-- VACR (R143, R144): sat32 of the rounded accumulator into vd; the mask of saturated elements into g. -/
def execVacr (c : CoreId) (vd : VReg) (a : AReg) (g : Reg) (imm : Imm5) (s : State) : Host.Outcome State Fault Refusal :=
  laneInstr s c false fun x s =>
    let r := (List.range 8).map fun i => accRound ((getA s x a).getD i 0) imm.val
    retire (setV s x vd (r.map sat32)) x g (maskOf (r.map fun n => clamp32 n != n))

/-- VBC (R143): broadcast. -/
def execVbc (c : CoreId) (vd : VReg) (g : Reg) (s : State) : Host.Outcome State Fault Refusal :=
  vop s c vd fun x s => List.replicate 8 (getG s x g)

/-- An element number above 7 is a value the instruction does not have: ILLEGAL (R111, R143; log 12). -/
def elem (s : State) (c : CoreId) (imm : Imm5) (f : Ctx → State → State) : Host.Outcome State Fault Refusal :=
  laneInstr s c false fun x s => if 8 ≤ imm.val then raise s x xIllegal else f x s

/-- VEXT (R143): one element to g. -/
def execVext (c : CoreId) (g : Reg) (vs1 : VReg) (imm : Imm5) (s : State) : Host.Outcome State Fault Refusal :=
  elem s c imm fun x s => retire s x g ((getV s x vs1).getD imm.val 0)

/-- VINS (R143): g into one element; the others are unchanged. -/
def execVins (c : CoreId) (vd : VReg) (g : Reg) (imm : Imm5) (s : State) : Host.Outcome State Fault Refusal :=
  elem s c imm fun x s => advance (setV s x vd ((getV s x vd).set imm.val (getG s x g))) x

/-- VROT (R143): vd[i] = vs1[(i + imm5) mod 8]. -/
def execVrot (c : CoreId) (vd vs1 : VReg) (imm : Imm5) (s : State) : Host.Outcome State Fault Refusal :=
  elem s c imm fun x s => advance (setV s x vd ((List.range 8).map fun i => (getV s x vs1).getD ((i + imm.val) % 8) 0)) x

/-- VMOV (R143). -/
def execVmov (c : CoreId) (vd vs1 : VReg) (s : State) : Host.Outcome State Fault Refusal :=
  vop s c vd fun x s => getV s x vs1

/-- A vector as 32 bytes: element 0 at the lowest address, each little-endian (R145). -/
def vecBytes (v : List Word) : Bytes := v.flatMap fun w => le 4 w.toNat

/-- VLD (R145): 32 bytes at a multiple of 4; the rights hold for all of them. -/
def execVld (c : CoreId) (v : VReg) (rs1 : Reg) (imm : Imm16) (s : State) : Host.Outcome State Fault Refusal :=
  laneInstr s c false fun x s =>
    let a := getG s x rs1 + sext16 imm
    if a.toNat % 4 ≠ 0 then raise s x (xAlign a)
    else match accessExc s x a 32 false with
      | some e => raise s x e
      | none =>
        match loadEcc s x a 32 with
        | some e => raise s x e
        | none =>
          let b := dataRead s x a 32
          advance (setV (dataTouch s x a 32) x v ((List.range 8).map fun i => w32 (fld (4 * i) 4 b))) x

/-- VST (R145). -/
def execVst (c : CoreId) (v : VReg) (rs1 : Reg) (imm : Imm16) (s : State) : Host.Outcome State Fault Refusal :=
  laneInstr s c false fun x s =>
    let a := getG s x rs1 + sext16 imm
    if a.toNat % 4 ≠ 0 then raise s x (xAlign a)
    else match accessExc s x a 32 true with
      | some e => raise s x e
      | none => advance (dataWrite s x a (vecBytes (getV s x v))) x

end Sys2Proof.Machine
end

