-- ==== Sys2Proof/Machine/Dispatch.lean ====
section
/-! DEFINITION. The dispatch: one arm per constructor of `Instr`, each one direct call of that command's meaning. -/

namespace Sys2Proof.Machine

def exec (i : Instr) (s : State) : Host.Outcome State Fault Refusal :=
  match i with
  | .add c rd rs1 rs2 => Sys2Proof.Machine.execAdd c rd rs1 rs2 s
  | .sub c rd rs1 rs2 => Sys2Proof.Machine.execSub c rd rs1 rs2 s
  | .and c rd rs1 rs2 => Sys2Proof.Machine.execAnd c rd rs1 rs2 s
  | .or c rd rs1 rs2 => Sys2Proof.Machine.execOr c rd rs1 rs2 s
  | .xor c rd rs1 rs2 => Sys2Proof.Machine.execXor c rd rs1 rs2 s
  | .sll c rd rs1 rs2 => Sys2Proof.Machine.execSll c rd rs1 rs2 s
  | .srl c rd rs1 rs2 => Sys2Proof.Machine.execSrl c rd rs1 rs2 s
  | .sra c rd rs1 rs2 => Sys2Proof.Machine.execSra c rd rs1 rs2 s
  | .slt c rd rs1 rs2 => Sys2Proof.Machine.execSlt c rd rs1 rs2 s
  | .sltu c rd rs1 rs2 => Sys2Proof.Machine.execSltu c rd rs1 rs2 s
  | .adds c rd rs1 rs2 => Sys2Proof.Machine.execAdds c rd rs1 rs2 s
  | .subs c rd rs1 rs2 => Sys2Proof.Machine.execSubs c rd rs1 rs2 s
  | .min c rd rs1 rs2 => Sys2Proof.Machine.execMin c rd rs1 rs2 s
  | .max c rd rs1 rs2 => Sys2Proof.Machine.execMax c rd rs1 rs2 s
  | .minu c rd rs1 rs2 => Sys2Proof.Machine.execMinu c rd rs1 rs2 s
  | .maxu c rd rs1 rs2 => Sys2Proof.Machine.execMaxu c rd rs1 rs2 s
  | .mul c rd rs1 rs2 => Sys2Proof.Machine.execMul c rd rs1 rs2 s
  | .mulh c rd rs1 rs2 => Sys2Proof.Machine.execMulh c rd rs1 rs2 s
  | .mulhu c rd rs1 rs2 => Sys2Proof.Machine.execMulhu c rd rs1 rs2 s
  | .div c rd rs1 rs2 => Sys2Proof.Machine.execDiv c rd rs1 rs2 s
  | .divu c rd rs1 rs2 => Sys2Proof.Machine.execDivu c rd rs1 rs2 s
  | .rem c rd rs1 rs2 => Sys2Proof.Machine.execRem c rd rs1 rs2 s
  | .remu c rd rs1 rs2 => Sys2Proof.Machine.execRemu c rd rs1 rs2 s
  | .clz c rd rs1 => Sys2Proof.Machine.execClz c rd rs1 s
  | .addi c rd rs1 imm => Sys2Proof.Machine.execAddi c rd rs1 imm s
  | .andi c rd rs1 imm => Sys2Proof.Machine.execAndi c rd rs1 imm s
  | .ori c rd rs1 imm => Sys2Proof.Machine.execOri c rd rs1 imm s
  | .xori c rd rs1 imm => Sys2Proof.Machine.execXori c rd rs1 imm s
  | .slti c rd rs1 imm => Sys2Proof.Machine.execSlti c rd rs1 imm s
  | .sltiu c rd rs1 imm => Sys2Proof.Machine.execSltiu c rd rs1 imm s
  | .slli c rd rs1 sh => Sys2Proof.Machine.execSlli c rd rs1 sh s
  | .srli c rd rs1 sh => Sys2Proof.Machine.execSrli c rd rs1 sh s
  | .srai c rd rs1 sh => Sys2Proof.Machine.execSrai c rd rs1 sh s
  | .lui c rd imm => Sys2Proof.Machine.execLui c rd imm s
  | .lb c rd rs1 imm => Sys2Proof.Machine.execLb c rd rs1 imm s
  | .lbu c rd rs1 imm => Sys2Proof.Machine.execLbu c rd rs1 imm s
  | .lh c rd rs1 imm => Sys2Proof.Machine.execLh c rd rs1 imm s
  | .lhu c rd rs1 imm => Sys2Proof.Machine.execLhu c rd rs1 imm s
  | .lw c rd rs1 imm => Sys2Proof.Machine.execLw c rd rs1 imm s
  | .sb c rs2 rs1 imm => Sys2Proof.Machine.execSb c rs2 rs1 imm s
  | .sh c rs2 rs1 imm => Sys2Proof.Machine.execSh c rs2 rs1 imm s
  | .sw c rs2 rs1 imm => Sys2Proof.Machine.execSw c rs2 rs1 imm s
  | .beq c rs1 rs2 off => Sys2Proof.Machine.execBeq c rs1 rs2 off s
  | .bne c rs1 rs2 off => Sys2Proof.Machine.execBne c rs1 rs2 off s
  | .blt c rs1 rs2 off => Sys2Proof.Machine.execBlt c rs1 rs2 off s
  | .bge c rs1 rs2 off => Sys2Proof.Machine.execBge c rs1 rs2 off s
  | .bltu c rs1 rs2 off => Sys2Proof.Machine.execBltu c rs1 rs2 off s
  | .bgeu c rs1 rs2 off => Sys2Proof.Machine.execBgeu c rs1 rs2 off s
  | .jal c rd off => Sys2Proof.Machine.execJal c rd off s
  | .jalr c rd rs1 imm => Sys2Proof.Machine.execJalr c rd rs1 imm s
  | .mfs c rd idx => Sys2Proof.Machine.execMfs c rd idx s
  | .mts c rs idx => Sys2Proof.Machine.execMts c rs idx s
  | .openRestart c rs => Sys2Proof.Machine.execOpenRestart c rs s
  | .openRun c rs => Sys2Proof.Machine.execOpenRun c rs s
  | .wdogReload c rs => Sys2Proof.Machine.execWdogReload c rs s
  | .evpendClear c rs => Sys2Proof.Machine.execEvpendClear c rs s
  | .eret c => Sys2Proof.Machine.execEret c s
  | .fence c => Sys2Proof.Machine.execFence c s
  | .wfe c => Sys2Proof.Machine.execWfe c s
  | .wfeWake w => Sys2Proof.Machine.execWfeWake w s
  | .trap c idx => Sys2Proof.Machine.execTrap c idx s
  | .gate c idx agree => Sys2Proof.Machine.execGate c idx agree s
  | .retg c => Sys2Proof.Machine.execRetg c s
  | .slots c => Sys2Proof.Machine.execSlots c s
  | .slotend c => Sys2Proof.Machine.execSlotend c s
  | .slotTime l => Sys2Proof.Machine.execSlotTime l s
  | .legalWatchdogExpiry => Sys2Proof.Machine.execLegalWatchdogExpiry s
  | .openWatchdogExpiry => Sys2Proof.Machine.execOpenWatchdogExpiry s
  | .worldSwitch => Sys2Proof.Machine.execWorldSwitch s
  | .vadd c vd vs1 vs2 => Sys2Proof.Machine.execVadd c vd vs1 vs2 s
  | .vsub c vd vs1 vs2 => Sys2Proof.Machine.execVsub c vd vs1 vs2 s
  | .vadds c vd vs1 vs2 => Sys2Proof.Machine.execVadds c vd vs1 vs2 s
  | .vsubs c vd vs1 vs2 => Sys2Proof.Machine.execVsubs c vd vs1 vs2 s
  | .vmul c vd vs1 vs2 => Sys2Proof.Machine.execVmul c vd vs1 vs2 s
  | .vmulq c vd vs1 vs2 => Sys2Proof.Machine.execVmulq c vd vs1 vs2 s
  | .vmin c vd vs1 vs2 => Sys2Proof.Machine.execVmin c vd vs1 vs2 s
  | .vmax c vd vs1 vs2 => Sys2Proof.Machine.execVmax c vd vs1 vs2 s
  | .vand c vd vs1 vs2 => Sys2Proof.Machine.execVand c vd vs1 vs2 s
  | .vor c vd vs1 vs2 => Sys2Proof.Machine.execVor c vd vs1 vs2 s
  | .vxor c vd vs1 vs2 => Sys2Proof.Machine.execVxor c vd vs1 vs2 s
  | .vsra c vd vs1 imm => Sys2Proof.Machine.execVsra c vd vs1 imm s
  | .vsll c vd vs1 imm => Sys2Proof.Machine.execVsll c vd vs1 imm s
  | .vabs c vd vs1 => Sys2Proof.Machine.execVabs c vd vs1 s
  | .vclt c g vs1 vs2 => Sys2Proof.Machine.execVclt c g vs1 vs2 s
  | .vsel c vd vs1 vs2 g => Sys2Proof.Machine.execVsel c vd vs1 vs2 g s
  | .vmac c a vs1 vs2 => Sys2Proof.Machine.execVmac c a vs1 vs2 s
  | .vmsb c a vs1 vs2 => Sys2Proof.Machine.execVmsb c a vs1 vs2 s
  | .vmacs c a vs1 g => Sys2Proof.Machine.execVmacs c a vs1 g s
  | .vdot c a vs1 vs2 => Sys2Proof.Machine.execVdot c a vs1 vs2 s
  | .aclr c a => Sys2Proof.Machine.execAclr c a s
  | .ald c a vs1 imm => Sys2Proof.Machine.execAld c a vs1 imm s
  | .vacr c vd a g imm => Sys2Proof.Machine.execVacr c vd a g imm s
  | .vbc c vd g => Sys2Proof.Machine.execVbc c vd g s
  | .vext c g vs1 imm => Sys2Proof.Machine.execVext c g vs1 imm s
  | .vins c vd g imm => Sys2Proof.Machine.execVins c vd g imm s
  | .vrot c vd vs1 imm => Sys2Proof.Machine.execVrot c vd vs1 imm s
  | .vmov c vd vs1 => Sys2Proof.Machine.execVmov c vd vs1 s
  | .vld c v rs1 imm => Sys2Proof.Machine.execVld c v rs1 imm s
  | .vst c v rs1 imm => Sys2Proof.Machine.execVst c v rs1 imm s
  | .strPeek c rd rs1 => Sys2Proof.Machine.execStrPeek c rd rs1 s
  | .strPop c rd rs1 rs2 => Sys2Proof.Machine.execStrPop c rd rs1 rs2 s
  | .strRead c rd rs1 rs2 => Sys2Proof.Machine.execStrRead c rd rs1 rs2 s
  | .strSeek c rd rs1 rs2 => Sys2Proof.Machine.execStrSeek c rd rs1 rs2 s
  | .strTell c rd rs1 => Sys2Proof.Machine.execStrTell c rd rs1 s
  | .strWait c rs1 rs2 => Sys2Proof.Machine.execStrWait c rs1 rs2 s
  | .strWaitWake l => Sys2Proof.Machine.execStrWaitWake l s
  | .strEpoch c rd rs1 rs2 => Sys2Proof.Machine.execStrEpoch c rd rs1 rs2 s
  | .frmEmit c rd rs1 => Sys2Proof.Machine.execFrmEmit c rd rs1 s
  | .frmEmitUnstall l => Sys2Proof.Machine.execFrmEmitUnstall l s
  | .frmXemit c rd rs1 => Sys2Proof.Machine.execFrmXemit c rd rs1 s
  | .frmCkpt c => Sys2Proof.Machine.execFrmCkpt c s
  | .capRead c rs => Sys2Proof.Machine.execCapRead c rs s
  | .chnCfgin c rs => Sys2Proof.Machine.execChnCfgin c rs s
  | .chnCfgch c rs => Sys2Proof.Machine.execChnCfgch c rs s
  | .chnRdst c rs => Sys2Proof.Machine.execChnRdst c rs s
  | .chnLdcoef c rs => Sys2Proof.Machine.execChnLdcoef c rs s
  | .chnStop c rs => Sys2Proof.Machine.execChnStop c rs s
  | .chnStart c rs => Sys2Proof.Machine.execChnStart c rs s
  | .chnReliefQuery c rs => Sys2Proof.Machine.execChnReliefQuery c rs s
  | .chnReliefPause c rs => Sys2Proof.Machine.execChnReliefPause c rs s
  | .chnReliefResume c rs => Sys2Proof.Machine.execChnReliefResume c rs s
  | .chnClro c rs => Sys2Proof.Machine.execChnClro c rs s
  | .auxSeq c rs => Sys2Proof.Machine.execAuxSeq c rs s
  | .auxInj c rs => Sys2Proof.Machine.execAuxInj c rs s
  | .auxAcc c rs => Sys2Proof.Machine.execAuxAcc c rs s
  | .auxTrk c rs => Sys2Proof.Machine.execAuxTrk c rs s
  | .auxWin c rs => Sys2Proof.Machine.execAuxWin c rs s
  | .auxCal c rs => Sys2Proof.Machine.execAuxCal c rs s
  | .auxRdst c rs => Sys2Proof.Machine.execAuxRdst c rs s
  | .pairRdst c rs => Sys2Proof.Machine.execPairRdst c rs s
  | .pairCnt c rs => Sys2Proof.Machine.execPairCnt c rs s
  | .pairClr c rs => Sys2Proof.Machine.execPairClr c rs s
  | .pairLane c rs => Sys2Proof.Machine.execPairLane c rs s
  | .bilMpcfg c rs => Sys2Proof.Machine.execBilMpcfg c rs s
  | .bilRdreg c rs => Sys2Proof.Machine.execBilRdreg c rs s
  | .bilSessOpen c rs => Sys2Proof.Machine.execBilSessOpen c rs s
  | .bilSessClose c rs => Sys2Proof.Machine.execBilSessClose c rs s
  | .bilTarw c rs => Sys2Proof.Machine.execBilTarw c rs s
  | .bilTswap c rs => Sys2Proof.Machine.execBilTswap c rs s
  | .bilCreditAdd c rs => Sys2Proof.Machine.execBilCreditAdd c rs s
  | .bilCreditSet c rs => Sys2Proof.Machine.execBilCreditSet c rs s
  | .bilCreditRead c rs => Sys2Proof.Machine.execBilCreditRead c rs s
  | .bilDemcfg c rs => Sys2Proof.Machine.execBilDemcfg c rs s
  | .bilRdst c rs => Sys2Proof.Machine.execBilRdst c rs s
  | .rlyCfg c rs => Sys2Proof.Machine.execRlyCfg c rs s
  | .rlyCfgClrflt c rs => Sys2Proof.Machine.execRlyCfgClrflt c rs s
  | .rlyClose c rs agree => Sys2Proof.Machine.execRlyClose c rs agree s
  | .rlyOpen c rs => Sys2Proof.Machine.execRlyOpen c rs s
  | .rlyGrant c rs => Sys2Proof.Machine.execRlyGrant c rs s
  | .rlyRdst c rs => Sys2Proof.Machine.execRlyRdst c rs s
  | .ldgAppend c rs => Sys2Proof.Machine.execLdgAppend c rs s
  | .ldgRead c rs => Sys2Proof.Machine.execLdgRead c rs s
  | .ldgFlash c rs => Sys2Proof.Machine.execLdgFlash c rs s
  | .ldgRdst c rs => Sys2Proof.Machine.execLdgRdst c rs s
  | .objTake c rs => Sys2Proof.Machine.execObjTake c rs s
  | .objReply c rs => Sys2Proof.Machine.execObjReply c rs s
  | .objAcl c rs => Sys2Proof.Machine.execObjAcl c rs s
  | .objRdst c rs => Sys2Proof.Machine.execObjRdst c rs s
  | .keySign c rs => Sys2Proof.Machine.execKeySign c rs s
  | .keyVerify c rs => Sys2Proof.Machine.execKeyVerify c rs s
  | .keyMac c rs => Sys2Proof.Machine.execKeyMac c rs s
  | .keyGcmEncrypt c rs => Sys2Proof.Machine.execKeyGcmEncrypt c rs s
  | .keyGcmDecrypt c rs => Sys2Proof.Machine.execKeyGcmDecrypt c rs s
  | .keyDerive c rs => Sys2Proof.Machine.execKeyDerive c rs s
  | .keyWrap c rs => Sys2Proof.Machine.execKeyWrap c rs s
  | .keyUnwrap c rs => Sys2Proof.Machine.execKeyUnwrap c rs s
  | .keyWrite c rs => Sys2Proof.Machine.execKeyWrite c rs s
  | .keyCommit c rs => Sys2Proof.Machine.execKeyCommit c rs s
  | .keyInval c rs => Sys2Proof.Machine.execKeyInval c rs s
  | .keyLife c rs agree => Sys2Proof.Machine.execKeyLife c rs agree s
  | .keyAttest c rs => Sys2Proof.Machine.execKeyAttest c rs s
  | .keyRand c rs => Sys2Proof.Machine.execKeyRand c rs s
  | .keyMask c rs => Sys2Proof.Machine.execKeyMask c rs s
  | .keyRdst c rs => Sys2Proof.Machine.execKeyRdst c rs s
  | .keyErase c rs agree => Sys2Proof.Machine.execKeyErase c rs agree s
  | .tmpCfg c rs => Sys2Proof.Machine.execTmpCfg c rs s
  | .tmpRdst c rs => Sys2Proof.Machine.execTmpRdst c rs s
  | .tmpLogrd c rs => Sys2Proof.Machine.execTmpLogrd c rs s
  | .tmpAck c rs => Sys2Proof.Machine.execTmpAck c rs s
  | .sitCfg c rs => Sys2Proof.Machine.execSitCfg c rs s
  | .sitCfgJoin c rs => Sys2Proof.Machine.execSitCfgJoin c rs s
  | .sitCfgLeave c rs => Sys2Proof.Machine.execSitCfgLeave c rs s
  | .sitSend c rs => Sys2Proof.Machine.execSitSend c rs s
  | .sitRecv c rs => Sys2Proof.Machine.execSitRecv c rs s
  | .sitTmap c rs => Sys2Proof.Machine.execSitTmap c rs s
  | .sitTswap c rs => Sys2Proof.Machine.execSitTswap c rs s
  | .sitNbr c rs => Sys2Proof.Machine.execSitNbr c rs s
  | .sitRdst c rs => Sys2Proof.Machine.execSitRdst c rs s
  | .dpyCfg c rs => Sys2Proof.Machine.execDpyCfg c rs s
  | .dpyUpd c rs => Sys2Proof.Machine.execDpyUpd c rs s
  | .dpyGamma c rs => Sys2Proof.Machine.execDpyGamma c rs s
  | .dpyGswap c rs => Sys2Proof.Machine.execDpyGswap c rs s
  | .dpyBlink c rs => Sys2Proof.Machine.execDpyBlink c rs s
  | .dpyLock c rs => Sys2Proof.Machine.execDpyLock c rs s
  | .dpyRdst c rs => Sys2Proof.Machine.execDpyRdst c rs s
  | .clkModeRun c rs => Sys2Proof.Machine.execClkModeRun c rs s
  | .clkModeReduced c rs => Sys2Proof.Machine.execClkModeReduced c rs s
  | .clkModeService c rs => Sys2Proof.Machine.execClkModeService c rs s
  | .clkSlack c rs agree => Sys2Proof.Machine.execClkSlack c rs agree s
  | .clkRdst c rs => Sys2Proof.Machine.execClkRdst c rs s
  | .clkDbg c rs => Sys2Proof.Machine.execClkDbg c rs s
  | .hstSend c rs => Sys2Proof.Machine.execHstSend c rs s
  | .hstRecv c rs => Sys2Proof.Machine.execHstRecv c rs s
  | .hstRdst c rs => Sys2Proof.Machine.execHstRdst c rs s
  | .plsCfg c rs => Sys2Proof.Machine.execPlsCfg c rs s
  | .plsCfgRun c rs => Sys2Proof.Machine.execPlsCfgRun c rs s
  | .plsCfgAbort c rs => Sys2Proof.Machine.execPlsCfgAbort c rs s
  | .plsRdst c rs => Sys2Proof.Machine.execPlsRdst c rs s
  | .timRead c rs => Sys2Proof.Machine.execTimRead c rs s
  | .timSetAbsolute c rs => Sys2Proof.Machine.execTimSetAbsolute c rs s
  | .timSetAdjust c rs => Sys2Proof.Machine.execTimSetAdjust c rs s
  | .timDisc c rs => Sys2Proof.Machine.execTimDisc c rs s
  | .timLedge c rs => Sys2Proof.Machine.execTimLedge c rs s
  | .postedOperationComplete u w => Sys2Proof.Machine.execPostedOperationComplete u w s
  | .powerOn viosel => Sys2Proof.Machine.execPowerOn viosel s
  | .refStable => Sys2Proof.Machine.execRefStable s
  | .pllLockStartup => Sys2Proof.Machine.execPllLockStartup s
  | .clusterStart k => Sys2Proof.Machine.execClusterStart k s
  | .tmpStartupCheckDone asserted => Sys2Proof.Machine.execTmpStartupCheckDone asserted s
  | .laneRelease agree => Sys2Proof.Machine.execLaneRelease agree s
  | .legalWorldRelease agree => Sys2Proof.Machine.execLegalWorldRelease agree s
  | .openImageLoaded agree => Sys2Proof.Machine.execOpenImageLoaded agree s
  | .powerFailWarning => Sys2Proof.Machine.execPowerFailWarning s
  | .supplyLoss => Sys2Proof.Machine.execSupplyLoss s
  | .supplyReturn => Sys2Proof.Machine.execSupplyReturn s
  | .pllLoss cause => Sys2Proof.Machine.execPllLoss cause s
  | .pllRelock => Sys2Proof.Machine.execPllRelock s
  | .relockHoldoffEnd => Sys2Proof.Machine.execRelockHoldoffEnd s
  | .refLoss => Sys2Proof.Machine.execRefLoss s
  | .refRestored => Sys2Proof.Machine.execRefRestored s
  | .reducedEntry => Sys2Proof.Machine.execReducedEntry s
  | .slackNFall agree => Sys2Proof.Machine.execSlackNFall agree s
  | .slackNRise => Sys2Proof.Machine.execSlackNRise s
  | .slackDurationEnd => Sys2Proof.Machine.execSlackDurationEnd s
  | .reliefSlotStart k zero levels refb => Sys2Proof.Machine.execReliefSlotStart k zero levels refb s
  | .reliefConnect k => Sys2Proof.Machine.execReliefConnect k s
  | .reliefTakeOver k loud dGain dOff => Sys2Proof.Machine.execReliefTakeOver k loud dGain dOff s
  | .reliefTakeoverTimeout k => Sys2Proof.Machine.execReliefTakeoverTimeout k s
  | .reliefMjReconnect k zero levels refb => Sys2Proof.Machine.execReliefMjReconnect k zero levels refb s
  | .reliefTrimApply k loud dGain => Sys2Proof.Machine.execReliefTrimApply k loud dGain s
  | .reliefHandback k loud dGain dOff => Sys2Proof.Machine.execReliefHandback k loud dGain dOff s
  | .reliefSlotEnd k => Sys2Proof.Machine.execReliefSlotEnd k s
  | .reliefWait60s k => Sys2Proof.Machine.execReliefWait60s k s
  | .overloadStart ch pos => Sys2Proof.Machine.execOverloadStart ch pos s
  | .overloadEnd ch => Sys2Proof.Machine.execOverloadEnd ch s
  | .integratorClampRelease ch => Sys2Proof.Machine.execIntegratorClampRelease ch s
  | .clusterDisturbanceEnd k => Sys2Proof.Machine.execClusterDisturbanceEnd k s
  | .bsiStuck ch pos => Sys2Proof.Machine.execBsiStuck ch pos s
  | .chainSampleOutput ch surge bits => Sys2Proof.Machine.execChainSampleOutput ch surge bits s
  | .ringRelease ch => Sys2Proof.Machine.execRingRelease ch s
  | .zeroCrossing ch n bits relief => Sys2Proof.Machine.execZeroCrossing ch n bits relief s
  | .freqDetectorBlockEnd ch => Sys2Proof.Machine.execFreqDetectorBlockEnd ch s
  | .lanePass l => Sys2Proof.Machine.execLanePass l s
  | .pairFrameArrival l => Sys2Proof.Machine.execPairFrameArrival l s
  | .pairingWindowEnd mp => Sys2Proof.Machine.execPairingWindowEnd mp s
  | .extFrameArrival l => Sys2Proof.Machine.execExtFrameArrival l s
  | .laneSilenceTimeout l => Sys2Proof.Machine.execLaneSilenceTimeout l s
  | .laneClockFault l => Sys2Proof.Machine.execLaneClockFault l s
  | .laneReloadDone l => Sys2Proof.Machine.execLaneReloadDone l s
  | .laneReloadRetry l => Sys2Proof.Machine.execLaneReloadRetry l s
  | .snapshotCopyDone l => Sys2Proof.Machine.execSnapshotCopyDone l s
  | .joinTimeout l => Sys2Proof.Machine.execJoinTimeout l s
  | .probationEnd l => Sys2Proof.Machine.execProbationEnd l s
  | .checkpointCommit l => Sys2Proof.Machine.execCheckpointCommit l s
  | .rebuildRelease l => Sys2Proof.Machine.execRebuildRelease l s
  | .bilFrameApply mp agree1 agree2 => Sys2Proof.Machine.execBilFrameApply mp agree1 agree2 s
  | .bilHoldRetry mp agree1 agree2 => Sys2Proof.Machine.execBilHoldRetry mp agree1 agree2 s
  | .minuteBoundary => Sys2Proof.Machine.execMinuteBoundary s
  | .boundaryTimeout mp => Sys2Proof.Machine.execBoundaryTimeout mp s
  | .timDisciplineTick => Sys2Proof.Machine.execTimDisciplineTick s
  | .beaconLossTimeout => Sys2Proof.Machine.execBeaconLossTimeout s
  | .graceExpiry r => Sys2Proof.Machine.execGraceExpiry r s
  | .relayCommandInstant r => Sys2Proof.Machine.execRelayCommandInstant r s
  | .coilChange r => Sys2Proof.Machine.execCoilChange r s
  | .feedbackChange r inputB level => Sys2Proof.Machine.execFeedbackChange r inputB level s
  | .closeDeadline r => Sys2Proof.Machine.execCloseDeadline r s
  | .openDeadline r => Sys2Proof.Machine.execOpenDeadline r s
  | .feedbackSteadyTimeout r => Sys2Proof.Machine.execFeedbackSteadyTimeout r s
  | .pilotPeriodEnd r => Sys2Proof.Machine.execPilotPeriodEnd r s
  | .flashProgramDone ok => Sys2Proof.Machine.execFlashProgramDone ok s
  | .flashRetry => Sys2Proof.Machine.execFlashRetry s
  | .read m node reqid oid offset len => Sys2Proof.Machine.execRead m node reqid oid offset len s
  | .write m node reqid oid data => Sys2Proof.Machine.execWrite m node reqid oid data s
  | .exec m node reqid oid data => Sys2Proof.Machine.execExec m node reqid oid data s
  | .authBegin m node reqid data => Sys2Proof.Machine.execAuthBegin m node reqid data s
  | .authProve m node reqid data agree => Sys2Proof.Machine.execAuthProve m node reqid data agree s
  | .logout m node reqid => Sys2Proof.Machine.execLogout m node reqid s
  | .requestTimeout w => Sys2Proof.Machine.execRequestTimeout w s
  | .associationIdleTimeout m node => Sys2Proof.Machine.execAssociationIdleTimeout m node s
  | .remask => Sys2Proof.Machine.execRemask s
  | .drbgReseed => Sys2Proof.Machine.execDrbgReseed s
  | .entropyFail adaptive => Sys2Proof.Machine.execEntropyFail adaptive s
  | .entropyRestartTest pass => Sys2Proof.Machine.execEntropyRestartTest pass s
  | .tamperFuse => Sys2Proof.Machine.execTamperFuse s
  | .detectorAssert m d2 value agree => Sys2Proof.Machine.execDetectorAssert m d2 value agree s
  | .detectorDeassert m d2 => Sys2Proof.Machine.execDetectorDeassert m d2 s
  | .detectorNoSample m d2 => Sys2Proof.Machine.execDetectorNoSample m d2 s
  | .detectorDisagree m d2 => Sys2Proof.Machine.execDetectorDisagree m d2 s
  | .eraseDecisionRetry agree => Sys2Proof.Machine.execEraseDecisionRetry agree s
  | .strandlineHandoverTimeout => Sys2Proof.Machine.execStrandlineHandoverTimeout s
  | .auxConversionDone code => Sys2Proof.Machine.execAuxConversionDone code s
  | .auxDieConversion code => Sys2Proof.Machine.execAuxDieConversion code s
  | .auxCalDue => Sys2Proof.Machine.execAuxCalDue s
  | .auxCalibrationDone inRange gain => Sys2Proof.Machine.execAuxCalibrationDone inRange gain s
  | .auxBatchHandover => Sys2Proof.Machine.execAuxBatchHandover s
  | .beaconTransmit limit => Sys2Proof.Machine.execBeaconTransmit limit s
  | .beacon p snr stamp frame => Sys2Proof.Machine.execBeacon p snr stamp frame s
  | .joinFrame p snr frame => Sys2Proof.Machine.execJoinFrame p snr frame s
  | .joinReplyFrame p snr frame => Sys2Proof.Machine.execJoinReplyFrame p snr frame s
  | .phaseFrame p snr frame => Sys2Proof.Machine.execPhaseFrame p snr frame s
  | .tmapFrame p snr frame => Sys2Proof.Machine.execTmapFrame p snr frame s
  | .legalFrame p snr frame => Sys2Proof.Machine.execLegalFrame p snr frame s
  | .siteObjectFrame p snr frame agree => Sys2Proof.Machine.execSiteObjectFrame p snr frame agree s
  | .openFrame p snr frame => Sys2Proof.Machine.execOpenFrame p snr frame s
  | .ackFrame p snr frame => Sys2Proof.Machine.execAckFrame p snr frame s
  | .ackTimeout => Sys2Proof.Machine.execAckTimeout s
  | .cfpSlotStart limit => Sys2Proof.Machine.execCfpSlotStart limit s
  | .csmaBackoffEnd limit => Sys2Proof.Machine.execCsmaBackoffEnd limit s
  | .joinRetry => Sys2Proof.Machine.execJoinRetry s
  | .phaseReportDue => Sys2Proof.Machine.execPhaseReportDue s
  | .memberTimeout node => Sys2Proof.Machine.execMemberTimeout node s
  | .coordinatorStart => Sys2Proof.Machine.execCoordinatorStart s
  | .backupTakeover => Sys2Proof.Machine.execBackupTakeover s
  | .txctrExhausted => Sys2Proof.Machine.execTxctrExhausted s
  | .frameStart => Sys2Proof.Machine.execFrameStart s
  | .rowTimeBoundary => Sys2Proof.Machine.execRowTimeBoundary s
  | .pulseStart n => Sys2Proof.Machine.execPulseStart n s
  | .pulseEnd n => Sys2Proof.Machine.execPulseEnd n s
  | .idle p frame => Sys2Proof.Machine.execIdle p frame s
  | .message p frame agree => Sys2Proof.Machine.execMessage p frame agree s
  | .stream p frame => Sys2Proof.Machine.execStream p frame s
  | .readout p frame => Sys2Proof.Machine.execReadout p frame s
  | .release p frame => Sys2Proof.Machine.execRelease p frame s
  | .reset p frame => Sys2Proof.Machine.execReset p frame s
  | .opticalCharTimeout => Sys2Proof.Machine.execOpticalCharTimeout s
  | .extest => Sys2Proof.Machine.execExtest s
  | .samplePreload => Sys2Proof.Machine.execSamplePreload s
  | .clamp => Sys2Proof.Machine.execClamp s
  | .highz => Sys2Proof.Machine.execHighz s
  | .dbgacc agree => Sys2Proof.Machine.execDbgacc agree s
  | .idcode => Sys2Proof.Machine.execIdcode s
  | .bypass => Sys2Proof.Machine.execBypass s
  | .bsclkStart g => Sys2Proof.Machine.execBsclkStart g s
  | .hostTransaction p clocks rx agree => Sys2Proof.Machine.execHostTransaction p clocks rx agree s
  | .crcerr p frame => Sys2Proof.Machine.execCrcerr p frame s
  | .sendMemberTimeout => Sys2Proof.Machine.execSendMemberTimeout s
  | .slewComplete => Sys2Proof.Machine.execSlewComplete s
  | .vbaklow => Sys2Proof.Machine.execVbaklow s
  | .rtcTrim => Sys2Proof.Machine.execRtcTrim s
  | .flashProgramTimeout => Sys2Proof.Machine.execFlashProgramTimeout s

end Sys2Proof.Machine
end

