-- ==== Sys2Proof/Machine/Issue.lean ====
section
/-! DEFINITION. What a core does with the instruction word at its pc: the command that the word spells, or ILLEGAL (04 R111). The part's commands come decoded (log 9); this says which command a core's own program gives. -/

namespace Sys2Proof.Machine

/-- The instruction memory of a context (04 Table 4.3). -/
def imemOf (s : State) (x : Ctx) : Mem := match x with | .ref l => (lane s l).imem | .slot l _ => (lane s l).imem | .world _ => s.hl.imem

/-- The instruction word at the pc, stored little-endian (04 R110). -/
def pcWord (s : State) (x : Ctx) : Word := w32 (fld 0 4 (Mem.readN (imemOf s x) (bankOf s x).pc.toNat 4))

/-- A word executes: as its command, or as ILLEGAL after the conditions of the fetch (04 R111, R117). -/
def execWord (c : CoreId) (agree : Bool) (w : Word) (s : State) : Host.Outcome State Fault Refusal :=
  match decodeInstr c agree w with
  | some i => exec i s
  | none => instrOn s c fun x s => raise s x xIllegal

/-- The next instruction of a core's own program; nothing while the core does not execute. -/
def issue (c : CoreId) (agree : Bool) (s : State) : Host.Outcome State Fault Refusal :=
  match ctxOf s c with
  | some x => execWord c agree (pcWord s x) s
  | none => .next s

end Sys2Proof.Machine
end

