-- ==== Sys2Proof/WellFormed.lean ====
section
/-! DEFINITION. Which terms a sender can send: operands within the widths that the spec gives them. Meanings are total all the same. -/

namespace Sys2Proof

/-- A number of `k` bits. -/
def wordOk (k n : Nat) : Bool := decide (n < 2 ^ k)

/-- Bytes as they come over a link or in a message (00 R7). -/
def bytesOk (l : List Nat) : Bool := l.all fun b => decide (b < 256)

/-- Data of an object message: at most 1024 bytes (10 R309). -/
def dataOk (l : List Nat) : Bool := bytesOk l && decide (l.length ≤ 1024)

/-- A node of the site link: 0 to 253 (14 Table 14.9). -/
def nodeOk (n : Nat) : Bool := decide (n ≤ 253)

/-- An output code of 32 bits. -/
def codeOk (v : Int) : Bool := decide (-2147483648 ≤ v) && decide (v < 2147483648)

/-- Detectors found asserted at start-up: 2 × monitor + detector with a value, each once (12 R355). -/
def assertedOk (l : List (Nat × Nat)) : Bool := l.all (fun d => decide (d.1 < 20) && wordOk 16 d.2) && decide ((l.map (·.1)).Nodup)

/-- The term is one that a sender can send. -/
def Instr.wf (i : Instr) : Bool :=
  match i with
  | .add _ _ _ _ => true
  | .sub _ _ _ _ => true
  | .and _ _ _ _ => true
  | .or _ _ _ _ => true
  | .xor _ _ _ _ => true
  | .sll _ _ _ _ => true
  | .srl _ _ _ _ => true
  | .sra _ _ _ _ => true
  | .slt _ _ _ _ => true
  | .sltu _ _ _ _ => true
  | .adds _ _ _ _ => true
  | .subs _ _ _ _ => true
  | .min _ _ _ _ => true
  | .max _ _ _ _ => true
  | .minu _ _ _ _ => true
  | .maxu _ _ _ _ => true
  | .mul _ _ _ _ => true
  | .mulh _ _ _ _ => true
  | .mulhu _ _ _ _ => true
  | .div _ _ _ _ => true
  | .divu _ _ _ _ => true
  | .rem _ _ _ _ => true
  | .remu _ _ _ _ => true
  | .clz _ _ _ => true
  | .addi _ _ _ _ => true
  | .andi _ _ _ _ => true
  | .ori _ _ _ _ => true
  | .xori _ _ _ _ => true
  | .slti _ _ _ _ => true
  | .sltiu _ _ _ _ => true
  | .slli _ _ _ _ => true
  | .srli _ _ _ _ => true
  | .srai _ _ _ _ => true
  | .lui _ _ _ => true
  | .lb _ _ _ _ => true
  | .lbu _ _ _ _ => true
  | .lh _ _ _ _ => true
  | .lhu _ _ _ _ => true
  | .lw _ _ _ _ => true
  | .sb _ _ _ _ => true
  | .sh _ _ _ _ => true
  | .sw _ _ _ _ => true
  | .beq _ _ _ _ => true
  | .bne _ _ _ _ => true
  | .blt _ _ _ _ => true
  | .bge _ _ _ _ => true
  | .bltu _ _ _ _ => true
  | .bgeu _ _ _ _ => true
  | .jal _ _ _ => true
  | .jalr _ _ _ _ => true
  | .mfs _ _ _ => true
  | .mts _ _ _ => true
  | .openRestart _ _ => true
  | .openRun _ _ => true
  | .wdogReload _ _ => true
  | .evpendClear _ _ => true
  | .eret _ => true
  | .fence _ => true
  | .wfe _ => true
  | .wfeWake _ => true
  | .trap _ _ => true
  | .gate _ _ _ => true
  | .retg _ => true
  | .slots _ => true
  | .slotend _ => true
  | .slotTime _ => true
  | .legalWatchdogExpiry => true
  | .openWatchdogExpiry => true
  | .worldSwitch => true
  | .vadd _ _ _ _ => true
  | .vsub _ _ _ _ => true
  | .vadds _ _ _ _ => true
  | .vsubs _ _ _ _ => true
  | .vmul _ _ _ _ => true
  | .vmulq _ _ _ _ => true
  | .vmin _ _ _ _ => true
  | .vmax _ _ _ _ => true
  | .vand _ _ _ _ => true
  | .vor _ _ _ _ => true
  | .vxor _ _ _ _ => true
  | .vsra _ _ _ _ => true
  | .vsll _ _ _ _ => true
  | .vabs _ _ _ => true
  | .vclt _ _ _ _ => true
  | .vsel _ _ _ _ _ => true
  | .vmac _ _ _ _ => true
  | .vmsb _ _ _ _ => true
  | .vmacs _ _ _ _ => true
  | .vdot _ _ _ _ => true
  | .aclr _ _ => true
  | .ald _ _ _ _ => true
  | .vacr _ _ _ _ _ => true
  | .vbc _ _ _ => true
  | .vext _ _ _ _ => true
  | .vins _ _ _ _ => true
  | .vrot _ _ _ _ => true
  | .vmov _ _ _ => true
  | .vld _ _ _ _ => true
  | .vst _ _ _ _ => true
  | .strPeek _ _ _ => true
  | .strPop _ _ _ _ => true
  | .strRead _ _ _ _ => true
  | .strSeek _ _ _ _ => true
  | .strTell _ _ _ => true
  | .strWait _ _ _ => true
  | .strWaitWake _ => true
  | .strEpoch _ _ _ _ => true
  | .frmEmit _ _ _ => true
  | .frmEmitUnstall _ => true
  | .frmXemit _ _ _ => true
  | .frmCkpt _ => true
  | .capRead _ _ => true
  | .chnCfgin _ _ => true
  | .chnCfgch _ _ => true
  | .chnRdst _ _ => true
  | .chnLdcoef _ _ => true
  | .chnStop _ _ => true
  | .chnStart _ _ => true
  | .chnReliefQuery _ _ => true
  | .chnReliefPause _ _ => true
  | .chnReliefResume _ _ => true
  | .chnClro _ _ => true
  | .auxSeq _ _ => true
  | .auxInj _ _ => true
  | .auxAcc _ _ => true
  | .auxTrk _ _ => true
  | .auxWin _ _ => true
  | .auxCal _ _ => true
  | .auxRdst _ _ => true
  | .pairRdst _ _ => true
  | .pairCnt _ _ => true
  | .pairClr _ _ => true
  | .pairLane _ _ => true
  | .bilMpcfg _ _ => true
  | .bilRdreg _ _ => true
  | .bilSessOpen _ _ => true
  | .bilSessClose _ _ => true
  | .bilTarw _ _ => true
  | .bilTswap _ _ => true
  | .bilCreditAdd _ _ => true
  | .bilCreditSet _ _ => true
  | .bilCreditRead _ _ => true
  | .bilDemcfg _ _ => true
  | .bilRdst _ _ => true
  | .rlyCfg _ _ => true
  | .rlyCfgClrflt _ _ => true
  | .rlyClose _ _ _ => true
  | .rlyOpen _ _ => true
  | .rlyGrant _ _ => true
  | .rlyRdst _ _ => true
  | .ldgAppend _ _ => true
  | .ldgRead _ _ => true
  | .ldgFlash _ _ => true
  | .ldgRdst _ _ => true
  | .objTake _ _ => true
  | .objReply _ _ => true
  | .objAcl _ _ => true
  | .objRdst _ _ => true
  | .keySign _ _ => true
  | .keyVerify _ _ => true
  | .keyMac _ _ => true
  | .keyGcmEncrypt _ _ => true
  | .keyGcmDecrypt _ _ => true
  | .keyDerive _ _ => true
  | .keyWrap _ _ => true
  | .keyUnwrap _ _ => true
  | .keyWrite _ _ => true
  | .keyCommit _ _ => true
  | .keyInval _ _ => true
  | .keyLife _ _ _ => true
  | .keyAttest _ _ => true
  | .keyRand _ _ => true
  | .keyMask _ _ => true
  | .keyRdst _ _ => true
  | .keyErase _ _ _ => true
  | .tmpCfg _ _ => true
  | .tmpRdst _ _ => true
  | .tmpLogrd _ _ => true
  | .tmpAck _ _ => true
  | .sitCfg _ _ => true
  | .sitCfgJoin _ _ => true
  | .sitCfgLeave _ _ => true
  | .sitSend _ _ => true
  | .sitRecv _ _ => true
  | .sitTmap _ _ => true
  | .sitTswap _ _ => true
  | .sitNbr _ _ => true
  | .sitRdst _ _ => true
  | .dpyCfg _ _ => true
  | .dpyUpd _ _ => true
  | .dpyGamma _ _ => true
  | .dpyGswap _ _ => true
  | .dpyBlink _ _ => true
  | .dpyLock _ _ => true
  | .dpyRdst _ _ => true
  | .clkModeRun _ _ => true
  | .clkModeReduced _ _ => true
  | .clkModeService _ _ => true
  | .clkSlack _ _ _ => true
  | .clkRdst _ _ => true
  | .clkDbg _ _ => true
  | .hstSend _ _ => true
  | .hstRecv _ _ => true
  | .hstRdst _ _ => true
  | .plsCfg _ _ => true
  | .plsCfgRun _ _ => true
  | .plsCfgAbort _ _ => true
  | .plsRdst _ _ => true
  | .timRead _ _ => true
  | .timSetAbsolute _ _ => true
  | .timSetAdjust _ _ => true
  | .timDisc _ _ => true
  | .timLedge _ _ => true
  | .postedOperationComplete _ _ => true
  | .powerOn _ => true
  | .refStable => true
  | .pllLockStartup => true
  | .clusterStart _ => true
  | .tmpStartupCheckDone asserted => assertedOk asserted
  | .laneRelease _ => true
  | .legalWorldRelease _ => true
  | .openImageLoaded _ => true
  | .powerFailWarning => true
  | .supplyLoss => true
  | .supplyReturn => true
  | .pllLoss cause => decide (cause < 3)
  | .pllRelock => true
  | .relockHoldoffEnd => true
  | .refLoss => true
  | .refRestored => true
  | .reducedEntry => true
  | .slackNFall _ => true
  | .slackNRise => true
  | .slackDurationEnd => true
  | .reliefSlotStart _ zero levels refb => codeOk zero && codeOk levels.1 && codeOk levels.2 && codeOk refb
  | .reliefConnect _ => true
  | .reliefTakeOver _ _ _ _ => true
  | .reliefTakeoverTimeout _ => true
  | .reliefMjReconnect _ zero levels refb => codeOk zero && codeOk levels.1 && codeOk levels.2 && codeOk refb
  | .reliefTrimApply _ _ _ => true
  | .reliefHandback _ _ _ _ => true
  | .reliefSlotEnd _ => true
  | .reliefWait60s _ => true
  | .overloadStart _ _ => true
  | .overloadEnd _ => true
  | .integratorClampRelease _ => true
  | .clusterDisturbanceEnd _ => true
  | .bsiStuck _ _ => true
  | .chainSampleOutput _ _ _ => true
  | .ringRelease _ => true
  | .zeroCrossing _ n bits _ => decide (0 < n) && bits.length == 64 * n
  | .freqDetectorBlockEnd _ => true
  | .lanePass _ => true
  | .pairFrameArrival _ => true
  | .pairingWindowEnd _ => true
  | .extFrameArrival _ => true
  | .laneSilenceTimeout _ => true
  | .laneClockFault _ => true
  | .laneReloadDone _ => true
  | .laneReloadRetry _ => true
  | .snapshotCopyDone _ => true
  | .joinTimeout _ => true
  | .probationEnd _ => true
  | .checkpointCommit _ => true
  | .rebuildRelease _ => true
  | .bilFrameApply _ _ _ => true
  | .bilHoldRetry _ _ _ => true
  | .minuteBoundary => true
  | .boundaryTimeout _ => true
  | .timDisciplineTick => true
  | .beaconLossTimeout => true
  | .graceExpiry _ => true
  | .relayCommandInstant _ => true
  | .coilChange _ => true
  | .feedbackChange _ _ _ => true
  | .closeDeadline _ => true
  | .openDeadline _ => true
  | .feedbackSteadyTimeout _ => true
  | .pilotPeriodEnd _ => true
  | .flashProgramDone _ => true
  | .flashRetry => true
  | .read _ node reqid oid offset len => nodeOk node && wordOk 16 reqid && wordOk 32 oid && wordOk 32 offset && wordOk 16 len
  | .write _ node reqid oid data => nodeOk node && wordOk 16 reqid && wordOk 32 oid && dataOk data
  | .exec _ node reqid oid data => nodeOk node && wordOk 16 reqid && wordOk 32 oid && dataOk data
  | .authBegin _ node reqid data => nodeOk node && wordOk 16 reqid && dataOk data
  | .authProve _ node reqid data _ => nodeOk node && wordOk 16 reqid && dataOk data
  | .logout _ node reqid => nodeOk node && wordOk 16 reqid
  | .requestTimeout _ => true
  | .associationIdleTimeout _ node => nodeOk node
  | .remask => true
  | .drbgReseed => true
  | .entropyFail _ => true
  | .entropyRestartTest _ => true
  | .tamperFuse => true
  | .detectorAssert _ _ value _ => wordOk 16 value
  | .detectorDeassert _ _ => true
  | .detectorNoSample _ _ => true
  | .detectorDisagree _ _ => true
  | .eraseDecisionRetry _ => true
  | .strandlineHandoverTimeout => true
  | .auxConversionDone code => wordOk 14 code
  | .auxDieConversion code => wordOk 14 code
  | .auxCalDue => true
  | .auxCalibrationDone _ _ => true
  | .auxBatchHandover => true
  | .beaconTransmit _ => true
  | .beacon _ snr _ frame => wordOk 16 snr && bytesOk frame
  | .joinFrame _ snr frame => wordOk 16 snr && bytesOk frame
  | .joinReplyFrame _ snr frame => wordOk 16 snr && bytesOk frame
  | .phaseFrame _ snr frame => wordOk 16 snr && bytesOk frame
  | .tmapFrame _ snr frame => wordOk 16 snr && bytesOk frame
  | .legalFrame _ snr frame => wordOk 16 snr && bytesOk frame
  | .siteObjectFrame _ snr frame _ => wordOk 16 snr && bytesOk frame
  | .openFrame _ snr frame => wordOk 16 snr && bytesOk frame
  | .ackFrame _ snr frame => wordOk 16 snr && bytesOk frame
  | .ackTimeout => true
  | .cfpSlotStart _ => true
  | .csmaBackoffEnd _ => true
  | .joinRetry => true
  | .phaseReportDue => true
  | .memberTimeout node => nodeOk node
  | .coordinatorStart => true
  | .backupTakeover => true
  | .txctrExhausted => true
  | .frameStart => true
  | .rowTimeBoundary => true
  | .pulseStart _ => true
  | .pulseEnd _ => true
  | .idle _ frame => bytesOk frame
  | .message _ frame _ => bytesOk frame
  | .stream _ frame => bytesOk frame
  | .readout _ frame => bytesOk frame
  | .release _ frame => bytesOk frame
  | .reset _ frame => bytesOk frame
  | .opticalCharTimeout => true
  | .extest => true
  | .samplePreload => true
  | .clamp => true
  | .highz => true
  | .dbgacc _ => true
  | .idcode => true
  | .bypass => true
  | .bsclkStart _ => true
  | .hostTransaction _ _ rx _ => bytesOk rx
  | .crcerr _ frame => bytesOk frame
  | .sendMemberTimeout => true
  | .slewComplete => true
  | .vbaklow => true
  | .rtcTrim => true
  | .flashProgramTimeout => true

end Sys2Proof
end

