-- ==== Sys2Proof/Safety.lean ====
section
/-! DEFINITION. The terms in which the statements speak: completion of a command, the canonical form of every memory, the fused identity, a safe step. -/

namespace Sys2Proof

open Sys2Proof.Machine

/-- A command completes in a state of which `p` holds. -/
def Completes (o : Host.Outcome State Fault Refusal) (p : State → Prop) : Prop := ∃ t, o = .next t ∧ p t

/-- A step is safe: the part goes on. -/
def SafeStep (s : State) : Prop := Completes (step s) fun _ => True

/-- A copy of a state segment holds its memory in canonical form (07 R213, R217). -/
def segWf (c : Option SegCopy) : Bool := match c with | none => true | some k => Mem.wf k.seg

/-- Every memory of the part is in canonical form. -/
def memWf (s : State) : Bool :=
  Mem.wf s.mram && Mem.wf s.hl.imem && Mem.wf s.hl.dmem && Mem.wf s.ebb.imem && Mem.wf s.ebb.dmem && Mem.wf s.flood.imem && Mem.wf s.flood.dmem &&
    segWf s.pair.snap && segWf s.pair.ckCopy && segWf s.pair.ck0.copy && segWf s.pair.ck1.copy &&
    Mem.wf s.dpy.fm && Mem.wf s.dpy.bm && Mem.wf s.dpy.acc

/-- Every list of the state that stands for a fixed number of like things has that many (the counts of 00 Table 0.1, 04, 06 to 17). -/
def shape (s : State) : Bool :=
  s.chs.length == 128 && s.clus.length == 8 && s.bsclk.length == 4 && s.rly.length == 32 && s.defs.length == 32 && s.pair.pts.length == 32 &&
    s.bil.pts.length == 32 && s.bil.shadow.length == 34 && s.key.recs.length == 64 && s.key.cache.length == 64 && s.key.pendKeys.length == 64 &&
    s.key.ks.length == 4 && s.fuse.lc.length == 10 && s.obj.ports.length == 3 && s.hst.length == 3 && s.pls.length == 8 && s.tmp.mons.length == 10 &&
    s.aux.pairs.length == 16 && s.hl.measures.length == 7 && s.ebb.slots.length == 4 && s.flood.slots.length == 4 && s.dpy.shadow.length == 48 &&
    s.sit.shadow.length == 12 && s.defCount.length == 32

/-- What every step keeps: the memories in canonical form, and the counts. -/
def Sound (s : State) : Prop := memWf s = true ∧ shape s = true

/-- What the fuses fix for the life of a part: the option, the UID, the stepping and the root, and the image key in ROM (00 R1, 04 R132, 05 R162, 11 R314). -/
def identity (s : State) : Variant × Word × Word × Byte × Byte × List Byte × List Byte × List Byte :=
  (s.fuse.variant, s.fuse.uidLo, s.fuse.uidHi, s.fuse.stepMajor, s.fuse.stepMinor, s.fuse.root, s.fuse.rootChk, s.fuse.gwyndex)

/-- Core `c` executes context `x`, and its fetch meets no exception (04 R117, R121). -/
def Runs (s : State) (c : CoreId) (x : Ctx) : Prop := ctxOf s c = some x ∧ fetchExc s x = none

/-- Context `x` has written `v` to `rd` (to no register when `rd` is g0) and stands at its next instruction; nothing else differs from `s`. -/
def wrote (s : State) (x : Ctx) (rd : Reg) (v : Word) : State :=
  setBank s x { g := if rd = 0 then (bankOf s x).g else (bankOf s x).g.set rd.val v, pc := (bankOf s x).pc + 4 }

/-- Context `x` stands at its next instruction; nothing else differs from `s`. -/
def passed (s : State) (x : Ctx) : State := setBank s x { bankOf s x with pc := (bankOf s x).pc + 4 }

/-- Context `x` stands at `a`; nothing else differs from `s`. -/
def jumped (s : State) (x : Ctx) (a : Word) : State := setBank s x { bankOf s x with pc := a }

/-- The state in which an operation whose record stands at the address in `rs` has its effect: the corrected errors of the instruction's word and of the record's words are counted (04 R109). -/
def issued (s : State) (x : Ctx) (rs : Reg) : State := recLoaded (fetched s x) x (getG (fetched s x) x rs)

/-- Core `c` issues an operation of unit `un` with the record words `ws`: the record meets R152 to R155, the unit is present and the context may use it as `need` says. -/
structure Issues (s : State) (c : CoreId) (rs : Reg) (un : UnitId) (need : Need) (len : Nat) (x : Ctx) (ws : List Word) : Prop where
  runs : Runs s c x
  record : recExc (fetched s x) x (getG (fetched s x) x rs) = none
  words : recWords (fetched s x) x (getG (fetched s x) x rs) = ws
  present : absentUnit s un = false
  right : permitted x un need = true
  header : bits (rw ws 0) 7 0 = len ∧ bits (rw ws 0) 27 16 = 0

/-- The record that rs names holds the result words, g1 holds OK, and the context goes on. -/
def answers (t : State) (x : Ctx) (a : Word) (res : List (Nat × Word)) : State := wrote (putWords t x a res) x 1 0

/-- The operation completes with a status other than OK and does nothing else. -/
def declines (u : State) (x : Ctx) (status : Nat) : Host.Outcome State Fault Refusal := .next (wrote u x 1 (w32 status))

/-- `t` is reached by handing the ledger a METRO_EVENT record of unit `un`, the ledger being before as in `u`. -/
def Records (u t : State) (un : UnitId) (code : Nat) (ps : List Word) : Prop := ∃ v, v.ldg = u.ldg ∧ v.clk = u.clk ∧ t = event v un code ps

/-- Time stands at `m` in `u`, which `s` has reached by the passing of time alone (log 6). -/
def Reaches (s u : State) (m : Nat) : Prop := u = dueTick s m ∧ m ≤ now u

/-- REF stands at cycle `r` in `u`, which `s` has reached by the passing of time alone (log 6). -/
def ReachesRef (s u : State) (r : Nat) : Prop := u = dueRef s r ∧ r ≤ u.clk.ref

/-- The ledger holds what handing it a METRO_EVENT record of unit `un` leaves when the ledger, the clocks and the keys stand as in `u`. -/
def Recorded (u t : State) (un : UnitId) (code : Nat) (ps : List Word) : Prop := t.ldg = (event u un code ps).ldg

/-- A posted operation is accepted: `t` holds its effect at acceptance, the queue of `u` ends with it, its record's DONE reads 0xF, g1 holds OK. -/
def accepts (t u : State) (x : Ctx) (a : Word) (un : UnitId) (op : Nat) (ws : List Word) (o : Option Nat) (res : List (Nat × Word)) : State :=
  wrote (putDone { t with posts := u.posts ++ [{ unit := un, world := worldOfCtx x, live := true, addr := a.toNat, op := op, words := ws, outcome := o, results := res }] }
    x a 0xF) x 1 0

/-- Fewer than eight operations of the unit wait for the context's world (05 R157). -/
def Room (u : State) (x : Ctx) (un : UnitId) : Prop := pendingOf u un (worldOfCtx x) < 8

end Sys2Proof
end

