-- ==== Sys2Proof/Certificates/Slice0/Obligations.lean ====
section
/-! DEFINITION. The statements for the provers, chapter by chapter. -/

open Sys2Proof Sys2Proof.Machine

/-- The step is the front command's effect on the state with the rest of the queue; the queue is the model's (log 9). -/
def Obligations.StepRunsFrontCommand : Prop :=
  ∀ (s : State) (c : Instr) (rest : List Instr), s.pending = c :: rest → step s = exec c { s with pending := rest }

/-- The step on an empty queue lets one REF cycle pass (the model's choice, log 6). -/
def Obligations.EmptyQueueLetsOneRefCyclePass : Prop :=
  ∀ s : State, s.pending = [] → s.clk.powered = true →
    Completes (step s) fun t =>
      t.pending = [] ∧ t.clk.ref = s.clk.ref + 1 ∧ t.mram = s.mram ∧ t.fuse = s.fuse ∧
      (s.clk.modRun = true ∧ s.clk.freeze = none → s.clk.modPhase < 6 →
        t.clk.modPhase = (if s.clk.modPhase = 5 then 0 else s.clk.modPhase + 1) ∧
        t.clk.modtick = (if s.clk.modPhase = 5 then (s.clk.modtick + 1) % 2 ^ 56 else s.clk.modtick % 2 ^ 56)) ∧
      (s.clk.modRun = false ∨ s.clk.freeze.isSome → t.clk.modPhase = s.clk.modPhase ∧ t.clk.modtick = s.clk.modtick)

/-- Table 4.8, register forms; `wrote` says the frame: rd and pc of the executing bank alone. -/
def Obligations.RegisterArithmeticWritesRdAlone : Prop :=
  ∀ (s : State) (c : CoreId) (x : Ctx) (rd rs1 rs2 : Reg), Runs s c x →
    let u := fetched s x
    let a := getG u x rs1
    let b := getG u x rs2
    let amt := (b.extractLsb' 0 5).toNat
    let lim (n : Int) : Word := BitVec.ofInt 32 (max (-(2 ^ 31)) (min (2 ^ 31 - 1) n))
    exec (.add c rd rs1 rs2) s = .next (wrote u x rd (a + b)) ∧
    exec (.sub c rd rs1 rs2) s = .next (wrote u x rd (a - b)) ∧
    exec (.and c rd rs1 rs2) s = .next (wrote u x rd (a &&& b)) ∧
    exec (.or c rd rs1 rs2) s = .next (wrote u x rd (a ||| b)) ∧
    exec (.xor c rd rs1 rs2) s = .next (wrote u x rd (a ^^^ b)) ∧
    exec (.sll c rd rs1 rs2) s = .next (wrote u x rd (a <<< amt)) ∧
    exec (.srl c rd rs1 rs2) s = .next (wrote u x rd (a >>> amt)) ∧
    exec (.sra c rd rs1 rs2) s = .next (wrote u x rd (a.sshiftRight amt)) ∧
    exec (.slt c rd rs1 rs2) s = .next (wrote u x rd (if a.slt b then 1 else 0)) ∧
    exec (.sltu c rd rs1 rs2) s = .next (wrote u x rd (if a.ult b then 1 else 0)) ∧
    exec (.adds c rd rs1 rs2) s = .next (wrote u x rd (lim (a.toInt + b.toInt))) ∧
    exec (.subs c rd rs1 rs2) s = .next (wrote u x rd (lim (a.toInt - b.toInt))) ∧
    exec (.min c rd rs1 rs2) s = .next (wrote u x rd (BitVec.ofInt 32 (min a.toInt b.toInt))) ∧
    exec (.max c rd rs1 rs2) s = .next (wrote u x rd (BitVec.ofInt 32 (max a.toInt b.toInt))) ∧
    exec (.minu c rd rs1 rs2) s = .next (wrote u x rd (BitVec.ofNat 32 (min a.toNat b.toNat))) ∧
    exec (.maxu c rd rs1 rs2) s = .next (wrote u x rd (BitVec.ofNat 32 (max a.toNat b.toNat))) ∧
    ∃ n : Nat, exec (.clz c rd rs1) s = .next (wrote u x rd (BitVec.ofNat 32 n)) ∧ n ≤ 32 ∧ a.toNat < 2 ^ (32 - n) ∧
      (if a = 0 then n = 32 else 2 ^ (31 - n) ≤ a.toNat)

/-- R113. -/
def Obligations.DivisionCornersAndAlignment : Prop :=
  ∀ (s : State) (c : CoreId) (x : Ctx) (rd rs1 rs2 : Reg) (imm : Imm16), Runs s c x →
    let u := fetched s x
    let a := getG u x rs1
    let b := getG u x rs2
    let ad := a + BitVec.signExtend 32 imm
    let align : Host.Outcome State Fault Refusal := .next (raise u x { code := 3, detail := 0, addr := ad })
    (b = 0 → exec (.div c rd rs1 rs2) s = .next (wrote u x rd 0xFFFFFFFF) ∧ exec (.divu c rd rs1 rs2) s = .next (wrote u x rd 0xFFFFFFFF) ∧
      exec (.rem c rd rs1 rs2) s = .next (wrote u x rd a) ∧ exec (.remu c rd rs1 rs2) s = .next (wrote u x rd a)) ∧
    (a = 0x80000000 → b = 0xFFFFFFFF →
      exec (.div c rd rs1 rs2) s = .next (wrote u x rd 0x80000000) ∧ exec (.rem c rd rs1 rs2) s = .next (wrote u x rd 0)) ∧
    (∀ i ∈ [Instr.mul c rd rs1 rs2, .mulh c rd rs1 rs2, .mulhu c rd rs1 rs2, .div c rd rs1 rs2, .divu c rd rs1 rs2, .rem c rd rs1 rs2,
        .remu c rd rs1 rs2, .add c rd rs1 rs2, .sub c rd rs1 rs2, .adds c rd rs1 rs2, .subs c rd rs1 rs2, .and c rd rs1 rs2, .or c rd rs1 rs2,
        .xor c rd rs1 rs2, .sll c rd rs1 rs2, .srl c rd rs1 rs2, .sra c rd rs1 rs2, .slt c rd rs1 rs2, .sltu c rd rs1 rs2, .min c rd rs1 rs2,
        .max c rd rs1 rs2, .minu c rd rs1 rs2, .maxu c rd rs1 rs2, .clz c rd rs1, .addi c rd rs1 imm, .andi c rd rs1 imm, .ori c rd rs1 imm,
        .xori c rd rs1 imm, .slti c rd rs1 imm, .sltiu c rd rs1 imm, .slli c rd rs1 rs2, .srli c rd rs1 rs2, .srai c rd rs1 rs2, .lui c rd imm],
      ∃ v, exec i s = .next (wrote u x rd v)) ∧
    (ad.toNat % 2 ≠ 0 → exec (.lh c rd rs1 imm) s = align ∧ exec (.lhu c rd rs1 imm) s = align ∧ exec (.sh c rs2 rs1 imm) s = align) ∧
    (ad.toNat % 4 ≠ 0 → exec (.lw c rd rs1 imm) s = align ∧ exec (.sw c rs2 rs1 imm) s = align ∧ exec (.jalr c rd rs1 imm) s = align)

/-- Table 4.8, products and divisions. -/
def Obligations.ProductsAndQuotientsAreExact : Prop :=
  ∀ (s : State) (c : CoreId) (x : Ctx) (rd rs1 rs2 : Reg), Runs s c x →
    let u := fetched s x
    let a := getG u x rs1
    let b := getG u x rs2
    exec (.mul c rd rs1 rs2) s = .next (wrote u x rd (a * b)) ∧
    exec (.mulh c rd rs1 rs2) s = .next (wrote u x rd ((BitVec.signExtend 64 a * BitVec.signExtend 64 b).extractLsb' 32 32)) ∧
    exec (.mulhu c rd rs1 rs2) s = .next (wrote u x rd ((BitVec.zeroExtend 64 a * BitVec.zeroExtend 64 b).extractLsb' 32 32)) ∧
    (b ≠ 0 →
      exec (.divu c rd rs1 rs2) s = .next (wrote u x rd (a / b)) ∧
      exec (.remu c rd rs1 rs2) s = .next (wrote u x rd (a % b)) ∧
      ∃ q r : Word, exec (.div c rd rs1 rs2) s = .next (wrote u x rd q) ∧ exec (.rem c rd rs1 rs2) s = .next (wrote u x rd r) ∧
        a = q * b + r ∧ r.toInt.natAbs < b.toInt.natAbs ∧ (r = 0 ∨ (r.toInt < 0 ↔ a.toInt < 0)) ∧
        (a = 0x80000000 ∧ b = 0xFFFFFFFF ∨ a.toInt = q.toInt * b.toInt + r.toInt))

/-- Table 4.8, immediate forms. -/
def Obligations.ImmediateArithmeticWritesRdAlone : Prop :=
  ∀ (s : State) (c : CoreId) (x : Ctx) (rd rs1 : Reg) (imm : Imm16) (sh : Imm5), Runs s c x →
    let u := fetched s x
    let a := getG u x rs1
    let se := BitVec.signExtend 32 imm
    let ze : Word := BitVec.ofNat 32 imm.toNat
    exec (.addi c rd rs1 imm) s = .next (wrote u x rd (a + se)) ∧
    exec (.andi c rd rs1 imm) s = .next (wrote u x rd (a &&& ze)) ∧
    exec (.ori c rd rs1 imm) s = .next (wrote u x rd (a ||| ze)) ∧
    exec (.xori c rd rs1 imm) s = .next (wrote u x rd (a ^^^ ze)) ∧
    exec (.slti c rd rs1 imm) s = .next (wrote u x rd (if a.slt se then 1 else 0)) ∧
    exec (.sltiu c rd rs1 imm) s = .next (wrote u x rd (if a.ult se then 1 else 0)) ∧
    exec (.slli c rd rs1 sh) s = .next (wrote u x rd (a <<< sh.val)) ∧
    exec (.srli c rd rs1 sh) s = .next (wrote u x rd (a >>> sh.val)) ∧
    exec (.srai c rd rs1 sh) s = .next (wrote u x rd (a.sshiftRight sh.val)) ∧
    exec (.lui c rd imm) s = .next (wrote u x rd (BitVec.ofNat 32 (imm.toNat * 65536)))

/-- Table 4.8, loads and stores; the stored address is the one that the meaning computes. -/
def Obligations.LoadsAndStoresMoveLittleEndianBytes : Prop :=
  ∀ (s : State) (c : CoreId) (x : Ctx) (rd rs2 rs1 : Reg) (imm : Imm16), Runs s c x →
    let u := fetched s x
    let ad := getG u x rs1 + BitVec.signExtend 32 imm
    let by' (i : Nat) : Word := BitVec.zeroExtend 32 (Mem.read (dmemOf u x) (ad.toNat + i))
    let can (n : Nat) : Prop := ad.toNat < 2 ^ 31 ∧ ad.toNat % n = 0 ∧ (∀ i < n, grant u x (ad.toNat + i) false = .ok) ∧ errsOf u x = []
    (can 1 → exec (.lb c rd rs1 imm) s = .next (wrote u x rd (BitVec.signExtend 32 (Mem.read (dmemOf u x) ad.toNat))) ∧
      exec (.lbu c rd rs1 imm) s = .next (wrote u x rd (by' 0))) ∧
    (can 2 → exec (.lh c rd rs1 imm) s = .next (wrote u x rd (BitVec.signExtend 32 (Mem.read (dmemOf u x) (ad.toNat + 1) ++ Mem.read (dmemOf u x) ad.toNat))) ∧
      exec (.lhu c rd rs1 imm) s = .next (wrote u x rd (by' 0 ||| by' 1 <<< 8))) ∧
    (can 4 → exec (.lw c rd rs1 imm) s = .next (wrote u x rd (by' 0 ||| by' 1 <<< 8 ||| by' 2 <<< 16 ||| by' 3 <<< 24))) ∧
    ∀ (n : Nat) (i : Instr), (n, i) ∈ [(1, Instr.sb c rs2 rs1 imm), (2, Instr.sh c rs2 rs1 imm), (4, Instr.sw c rs2 rs1 imm)] →
      ad.toNat < 2 ^ 31 → ad.toNat % n = 0 → (∀ k < n, grant u x (ad.toNat + k) true = .ok) → Mem.wf (dmemOf u x) = true →
      Completes (exec i s) fun t =>
        t = setDmem (passed u x) x (dmemOf t x) ∧
        (∀ k < n, Mem.read (dmemOf t x) (ad.toNat + k) = (getG u x rs2).extractLsb' (8 * k) 8) ∧
        ∀ a, a < ad.toNat ∨ ad.toNat + n ≤ a → Mem.read (dmemOf t x) a = Mem.read (dmemOf u x) a

/-- Table 4.8, control flow. -/
def Obligations.BranchesAndJumpsSetPc : Prop :=
  ∀ (s : State) (c : CoreId) (x : Ctx) (rd rs1 rs2 : Reg) (off imm : Imm16) (off21 : Imm21), Runs s c x →
    let u := fetched s x
    let a := getG u x rs1
    let b := getG u x rs2
    let pc := (bankOf u x).pc
    let go (p : Prop) [Decidable p] : Host.Outcome State Fault Refusal :=
      .next (jumped u x (if p then pc + 4 * BitVec.signExtend 32 off else pc + 4))
    exec (.beq c rs1 rs2 off) s = go (a = b) ∧
    exec (.bne c rs1 rs2 off) s = go (a ≠ b) ∧
    exec (.blt c rs1 rs2 off) s = go (a.toInt < b.toInt) ∧
    exec (.bge c rs1 rs2 off) s = go (a.toInt ≥ b.toInt) ∧
    exec (.bltu c rs1 rs2 off) s = go (a.toNat < b.toNat) ∧
    exec (.bgeu c rs1 rs2 off) s = go (a.toNat ≥ b.toNat) ∧
    exec (.jal c rd off21) s = .next (jumped (wrote u x rd (pc + 4)) x (pc + 4 * BitVec.signExtend 32 off21)) ∧
    ((a + BitVec.signExtend 32 imm).toNat % 4 = 0 →
      exec (.jalr c rd rs1 imm) s = .next (jumped (wrote u x rd (pc + 4)) x (a + BitVec.signExtend 32 imm)))

/-- R106, R107, and the order of R117. -/
def Obligations.AccessWithoutRightRaises : Prop :=
  ∀ (s : State) (c : CoreId) (x : Ctx) (r rs1 : Reg) (imm : Imm16), Runs s c x →
    let u := fetched s x
    let ad := getG u x rs1 + BitVec.signExtend 32 imm
    ∀ (n : Nat) (st : Bool) (i : Instr),
      (n, st, i) ∈ [(1, false, Instr.lb c r rs1 imm), (1, false, .lbu c r rs1 imm), (2, false, .lh c r rs1 imm), (2, false, .lhu c r rs1 imm),
        (4, false, .lw c r rs1 imm), (1, true, .sb c r rs1 imm), (2, true, .sh c r rs1 imm), (4, true, .sw c r rs1 imm)] →
      ad.toNat % n = 0 → (∃ k < n, grant u x (ad.toNat + k) st ≠ .ok) →
      exec i s = .next (raise u x
        { code := if ∃ k < n, grant u x (ad.toNat + k) st = .world then 5 else 4, detail := if st then 1 else 0, addr := ad })

/-- Tables 4.4 and 4.5, R107 and R127. -/
def Obligations.DataRightsFollowTheMaps : Prop :=
  ∀ (s : State) (l : LaneId) (k a : Nat) (st : Bool), k < 4 →
    (grant s (.ref l) a st = .ok ↔ a < 0x80000 ∨ (st = false ∧ 0x80010000 ≤ a ∧ a < 0x80040000)) ∧
    (grant s (.slot l k) a st = .ok ↔
      (0x60000 + 0x8000 * k ≤ a ∧ a < 0x60000 + 0x8000 * (k + 1)) ∨ (st = false ∧ 0x5C000 ≤ a ∧ a < 0x60000)) ∧
    (a < 0x100000 → grant s (.world .legal) a st = .ok) ∧
    (a < 0x80000 → grant s (.world .opn) a st = .world) ∧
    (0x80000 ≤ a → a < 0x100000 → grant s (.world .opn) a st = .ok) ∧
    (0x80390000 ≤ a → a < 0x803B0000 → grant s (.world .opn) a st = .ok ∧ grant s (.world .legal) a st = .ok) ∧
    (0x80140000 ≤ a → a < 0x801C0000 → grant s (.world .opn) a false = .ok ∧ grant s (.world .opn) a true = .no ∧ grant s (.world .legal) a st = .ok) ∧
    (0x80000000 ≤ a → a < 0x80080000 → grant s (.world .opn) a st = .world) ∧
    ((0x802A0000 ≤ a ∧ a < 0x802B0000) ∨ (0x803B0000 ≤ a) ∨ (0x100000 ≤ a ∧ a < 0x80000000) →
      grant s (.world .legal) a st = .no ∧ grant s (.world .opn) a st = .no)

/-- Table 4.5 and R112 through the window; the counter of free values is the model's own (log 1). -/
def Obligations.MramWindowReadsAndWritesWords : Prop :=
  ∀ (s : State) (c : CoreId) (x : Ctx) (rd rs2 rs1 : Reg) (imm : Imm16), Runs s c x →
    let u := fetched s x
    let ad := getG u x rs1 + BitVec.signExtend 32 imm
    let o := ad.toNat - 0x80000000
    0x80000000 ≤ ad.toNat → ad.toNat % 4 = 0 →
      ((∀ k < 4, grant u x (ad.toNat + k) false = .ok) → errsOf u x = [] →
        (regionOf o = .boot ∨ regionOf o = .calib ∨ regionOf o = .refprog ∨ regionOf o = .ext ∨ regionOf o = .legalImg ∨ regionOf o = .openImg ∨
          regionOf o = .staging ∨ regionOf o = .opendata) →
        exec (.lw c rd rs1 imm) s =
          .next (wrote u.used x rd (Mem.read u.mram (o + 3) ++ Mem.read u.mram (o + 2) ++ Mem.read u.mram (o + 1) ++ Mem.read u.mram o))) ∧
      ((∀ k < 4, grant u x (ad.toNat + k) true = .ok) → regionOf o ≠ .calib → Mem.wf u.mram = true →
        Completes (exec (.sw c rs2 rs1 imm) s) fun t =>
          t = { passed u x with mram := t.mram, unfenced := t.unfenced } ∧
          (∀ w, x = .world w → ∃ f : Unfenced, t.unfenced = u.unfenced ++ [f] ∧ f.world = w ∧ f.off = o ∧ f.old = Mem.readN u.mram o 4 ∧
            f.new = Mem.readN t.mram o 4) ∧
          (∀ k < 4, Mem.read t.mram (o + k) = (getG u x rs2).extractLsb' (8 * k) 8) ∧
          ∀ a, a < o ∨ o + 4 ≤ a → Mem.read t.mram a = Mem.read u.mram a)

/-- Table 4.1. -/
def Obligations.StateWordsFollowTable41 : Prop :=
  ∀ (s : State) (c : CoreId) (x : Ctx) (rd rs : Reg), Runs s c x →
    let u := fetched s x
    let v := getG u x rs
    let k := ctlOf u x
    let priv : Host.Outcome State Fault Refusal := .next (raise u x { code := 6, detail := 0, addr := 0 })
    let none' : List Imm5 := match x with | .world .legal => [14] | .world .opn => [10, 11, 12, 14] | _ => [3, 5, 6, 10, 11, 12, 13]
    let ro : List Imm5 := match x with | .world _ => [0, 2, 4, 7, 8, 9, 15] | _ => [0, 1, 2, 4, 7, 8, 9, 14, 15]
    (∀ i ∈ none', exec (.mfs c rd i) s = priv ∧ exec (.mts c rs i) s = priv) ∧
    (∀ i ∈ ro, exec (.mts c rs i) s = priv) ∧
    exec (.mfs c rd 0) s = .next (wrote u x rd k.cause) ∧
    exec (.mfs c rd 1) s = .next (wrote u x rd k.epc) ∧
    exec (.mfs c rd 2) s = .next (wrote u x rd k.eaddr) ∧
    exec (.mfs c rd 4) s = .next (wrote u x rd (BitVec.ofNat 32 (256 * k.eccCorr + (if k.inGate then 2 else 0) + (if k.active then 1 else 0)))) ∧
    exec (.mfs c rd 7) s = .next (wrote (modCtl u x fun y => { y with cycleHi := BitVec.ofNat 32 (y.cycles / 2 ^ 32) }) x rd (BitVec.ofNat 32 k.cycles)) ∧
    exec (.mfs c rd 8) s = .next (wrote u x rd k.cycleHi) ∧
    exec (.mfs c rd 15) s = .next (wrote u x rd (BitVec.ofNat 32 s.clk.modtick)) ∧
    (∀ w, x = .world w →
      let p := passed u x
      exec (.mfs c rd 3) s = .next (wrote u x rd k.evec) ∧
      exec (.mfs c rd 5) s = .next (wrote u x rd k.evpend) ∧
      exec (.mfs c rd 6) s = .next (wrote u x rd k.evmask) ∧
      exec (.mfs c rd 13) s = .next (wrote u x rd (BitVec.ofNat 32 (worldSt s w).wdogPeriod)) ∧
      exec (.mts c rs 1) s = .next (modWorld p w fun y => { y with ctl := { y.ctl with epc := v } }) ∧
      exec (.mts c rs 3) s = .next (modWorld p w fun y => { y with ctl := { y.ctl with evec := v } }) ∧
      exec (.mts c rs 5) s = .next (modWorld p w fun y => { y with ctl := { y.ctl with evpend := y.ctl.evpend &&& ~~~v } }) ∧
      exec (.evpendClear c rs) s = .next (modWorld p w fun y => { y with ctl := { y.ctl with evpend := y.ctl.evpend &&& ~~~v } }) ∧
      exec (.mts c rs 6) s = .next (modWorld p w fun y => { y with ctl := { y.ctl with evmask := v &&& 0x6FFFF } }) ∧
      (let reload := modWorld p w fun y =>
        { y with wdogCount := 0,
                 wdogPeriod := if v.toNat % 65536 = 0 then (if w = .legal then y.wdogPeriod else 0) else v.toNat % 65536 }
       exec (.wdogReload c rs) s = .next reload ∧ exec (.mts c rs 13) s = .next reload)) ∧
    (x = .world .legal →
      let p := passed u x
      exec (.mfs c rd 9) s = .next (wrote u x rd 0x202) ∧
      exec (.mfs c rd 10) s = .next (wrote u x rd s.hl.gateBase) ∧
      exec (.mfs c rd 11) s = .next (wrote u x rd (BitVec.ofNat 32 s.hl.gateN)) ∧
      exec (.mfs c rd 12) s =
        .next (wrote u x rd (BitVec.ofNat 32 (256 * s.hl.restarts + (if s.hl.loaded then 4 else 0) + (if s.hl.run then 1 else 0)))) ∧
      exec (.mts c rs 10) s = .next { p with hl := { p.hl with gateBase := v &&& 0x7FFC0 } } ∧
      exec (.mts c rs 11) s = .next { p with hl := { p.hl with gateN := min 32 (v.toNat % 64) } }) ∧
    (x = .world .opn → exec (.mfs c rd 9) s = .next (wrote u x rd 0x312)) ∧
    (∀ l, (x = .ref l ∨ ∃ k, x = .slot l k) → ∃ z : Word, exec (.mfs c rd 14) s = .next (wrote u x rd z) ∧
      ∀ n, z.getLsbD n = (if n < 4 then ((lane s l).slots.getD n Slot.zero).present
        else if n < 8 then ((lane s l).slots.getD (n - 4) Slot.zero).disabled else false)) ∧
    (x = .ref .ebb → exec (.mfs c rd 9) s = .next (wrote u x rd 0x0F0)) ∧
    (x = .ref .flood → exec (.mfs c rd 9) s = .next (wrote u x rd 0x1F1)) ∧
    (∀ n < 4, x = .slot .ebb n → exec (.mfs c rd 9) s = .next (wrote u x rd (BitVec.ofNat 32 (16 * n)))) ∧
    (∀ n < 4, x = .slot .flood n → exec (.mfs c rd 9) s = .next (wrote u x rd (BitVec.ofNat 32 (0x101 + 16 * n))))

/-- Table 4.12 and R126. -/
def Obligations.OpenControlRunsAndRestartsTheOpenWorld : Prop :=
  ∀ (s : State) (c : CoreId) (rs : Reg) (i : Instr), i ∈ [Instr.openRun c rs, .openRestart c rs, .mts c rs 12] →
    (Runs s c (.world .opn) →
      exec i s = .next (raise (fetched s (.world .opn)) (.world .opn) { code := 6, detail := 0, addr := 0 })) ∧
    (Runs s c (.world .legal) →
      let u := fetched s (.world .legal)
      let v := getG u (.world .legal) rs
      let p := passed u (.world .legal)
      (v.getLsbD 1 = false →
        exec i s = .next (if s.hl.loaded then { p with hl := { p.hl with run := v.getLsbD 0 } } else p)) ∧
      (v.getLsbD 1 = true →
        Completes (exec i s) fun t =>
          t.opn.bank.g = List.replicate 32 0 ∧ t.opn.ctl = Ctl.zero ∧ t.opn.waiting = false ∧ t.opn.wdogPeriod = 0 ∧
          t.hl.restarts = min 255 (s.hl.restarts + 1) ∧ t.opn.released = t.hl.loaded ∧ t.opn.bank.pc = t.opn.entry ∧
          t.legal.bank = p.legal.bank ∧ t.legal.ctl.evpend.getLsbD 18 = s.legal.ctl.evpend.getLsbD 18 ∧
          t.ebb = s.ebb ∧ t.flood = s.flood))

/-- R118; what a double fault does is R119's. -/
def Obligations.WorldExceptionEntryAndReturn : Prop :=
  (∀ (s : State) (w : World) (e : Exc),
    let y := worldSt s w
    let inside := if w = .legal then y.ctl.evec.toNat < 0x40000 else 0x40000 ≤ y.ctl.evec.toNat ∧ y.ctl.evec.toNat < 0x80000
    (y.ctl.active = false → inside →
      let t := worldSt (raise s (.world w) e) w
      t.ctl.epc = y.bank.pc ∧ t.ctl.cause = BitVec.ofNat 32 (e.code + 256 * e.detail) ∧ t.ctl.eaddr = e.addr ∧ t.ctl.active = true ∧
      t.bank.pc = y.ctl.evec ∧ t.bank.g = y.bank.g ∧ t.ctl.evec = y.ctl.evec ∧ t.ctl.evmask = y.ctl.evmask ∧ t.ctl.inGate = y.ctl.inGate) ∧
    (y.ctl.active = true ∨ ¬inside →
      (w = .opn → (raise s (.world w) e).hl.restarts = min 255 (s.hl.restarts + 1) ∧ (raise s (.world w) e).legal.ctl.evpend.getLsbD 18 = true) ∧
      (w = .legal → (raise s (.world w) e).hl.restarting = true ∧ (raise s (.world w) e).legal.released = false ∧
        (raise s (.world w) e).opn.released = false))) ∧
  (∀ (s : State) (c : CoreId) (w : World), Runs s c (.world w) →
    exec (.eret c) s = .next (modWorld (fetched s (.world w)) w fun y =>
      { y with bank := { y.bank with pc := y.ctl.epc }, ctl := { y.ctl with active := false } }))

/-- R114, R116, R120, FENCE (R108), and R111's ILLEGAL for words that no table defines. -/
def Obligations.TrapFenceAndWrongContexts : Prop :=
  (∀ (c : CoreId) (agree : Bool) (w : Word) (s : State),
    (∀ i, decodeInstr c agree w = some i → execWord c agree w s = exec i s) ∧
    (decodeInstr c agree w = none → ∀ x, Runs s c x → execWord c agree w s = .next (raise (fetched s x) x { code := 1, detail := 0, addr := 0 })) ∧
    (w = 0 ∨ w = 0xFFFFFFFF ∨ (c = .headland ∧ 0x34 ≤ w.toNat % 64 ∧ w.toNat % 64 ≤ 0x3B) ∨ (w.toNat % 64 = 0 ∧ 0x18 < w.toNat / 64 % 2048) ∨
      (w.toNat % 64 = 0x3C ∧ w.toNat / 65536 % 2048 ≠ 0) ∨ (w.toNat % 64 = 0x08 ∧ w.toNat / 2 ^ 22 % 32 ≠ 0) →
      decodeInstr c agree w = none) ∧
    decodeInstr c agree 0x28BFFE01 = some (.addi c 5 2 0xFFF8) ∧ decodeInstr c agree 0x183FFF61 = some (.bne c 3 0 0xFFFD) ∧
    decodeInstr c agree 0xE8000A28 = some (.jal c 29 40) ∧ decodeInstr c agree 0x2000117C = some (.chnStart c 4) ∧
    (c ≠ .headland → decodeInstr c agree 0x314E00B8 = some (.strPop c 6 5 7))) ∧
  ∀ (s : State) (c : CoreId) (x : Ctx) (idx : Imm5) (agree : Bool), Runs s c x →
    let u := fetched s x
    let ill : Host.Outcome State Fault Refusal := .next (raise u x { code := 1, detail := 0, addr := 0 })
    let priv : Host.Outcome State Fault Refusal := .next (raise u x { code := 6, detail := 0, addr := 0 })
    let cause : Word := BitVec.ofNat 32 (11 + 256 * idx.val)
    (∀ w, x = .world w → exec (.fence c) s = .next (passed { u with unfenced := u.unfenced.filter fun f => f.world != w } x)) ∧
    (isWorld x = false → exec (.fence c) s = .next (passed u x)) ∧
    exec (.trap c idx) s = .next (raise u x { code := 11, detail := idx.val, addr := 0 }) ∧
    (∀ w, x = .world w → (worldSt s w).ctl.active = false → inCode w (worldSt s w).ctl.evec = true →
      Completes (exec (.trap c idx) s) fun t =>
        (worldSt t w).ctl.cause = cause ∧ (worldSt t w).ctl.epc = (worldSt s w).bank.pc ∧
        (worldSt t w).bank.pc = (worldSt s w).ctl.evec ∧ (worldSt t w).ctl.active = true ∧ t.ebb = s.ebb ∧ t.flood = s.flood ∧ t.mram = s.mram) ∧
    (∀ l, x = .ref l → (pl s l).st ∈ [1, 2, 5, 7] → Completes (exec (.trap c idx) s) fun t =>
      (lane t l).running = false ∧ (lane t l).ctl.cause = cause ∧ (lane t l).ctl.epc = (lane s l).bank.pc) ∧
    (∀ l k r, x = .slot l k → (lane s l).run = some r →
      let v := modLane u l fun y =>
        { y with
          ctl := { y.ctl with cause := cause, epc := y.slotBank.pc, eaddr := 0 }
          slots := y.slots.modify k fun z => { z with fails := z.fails + 1, disabled := z.disabled || z.fails == 15 } }
      exec (.trap c idx) s =
        .next (slotsFrom (modPl v l fun p => { p with aborted := p.aborted.modify k fun n => min (2 ^ 32 - 1) (n + 1) }) l (k + 1) r.done (r.aborted ||| 2 ^ k))) ∧
    (isWorld x = false → exec (.eret c) s = ill ∧ exec (.wfe c) s = ill ∧ exec (.gate c idx agree) s = ill ∧ exec (.retg c) s = ill) ∧
    (isWorld x = true → exec (.slots c) s = ill ∧ exec (.slotend c) s = ill) ∧
    (isSlot x = true → exec (.slots c) s = priv) ∧
    (isRef x = true → exec (.slotend c) s = priv)

/-- R122; WORLD_SWITCH is the LEGAL world's wake while the OPEN world executes (R121). -/
def Obligations.WaitForEventCompletesWithTheEvents : Prop :=
  ∀ (s : State) (w : World),
    let ev (s : State) : Word := (worldSt s w).ctl.evpend &&& (worldSt s w).ctl.evmask
    let woken (s : State) : State := wrote (modWorld s w fun y => { y with waiting := false }) (.world w) 1 (ev s)
    (∀ c, Runs s c (.world w) →
      let u := fetched s (.world w)
      (ev s ≠ 0 → exec (.wfe c) s = .next (wrote u (.world w) 1 (ev s))) ∧
      (ev s = 0 → exec (.wfe c) s = .next (modWorld u w fun y => { y with waiting := true })) ∧
      ∀ rs, exec (.evpendClear c rs) s = .next (modWorld (passed u (.world w)) w fun y =>
        { y with ctl := { y.ctl with evpend := y.ctl.evpend &&& ~~~(getG u (.world w) rs) } })) ∧
    ((worldSt s w).waiting = true → (worldSt s w).released = true → alive s = true →
      (ev s ≠ 0 → exec (.wfeWake w) s = .next (woken s)) ∧
      (ev s = 0 → exec (.wfeWake w) s = .next s) ∧
      (w = .legal → ev s ≠ 0 → s.opn.released = true → s.hl.run = true → s.opn.ctl.inGate = false → s.opn.waiting = false →
        exec .worldSwitch s = .next (woken s))) ∧
    (woken s).legal.ctl.evpend = s.legal.ctl.evpend ∧ (woken s).opn.ctl.evpend = s.opn.ctl.evpend

/-- R125, with R114's GATE exceptions. -/
def Obligations.GateCallAndReturn : Prop :=
  ∀ (s : State) (c : CoreId) (k : Imm5) (agree : Bool),
    (Runs s c (.world .legal) →
      let u := fetched s (.world .legal)
      let word (i : Nat) : Word := Mem.word u.hl.dmem (u.hl.gateBase.toNat + 4 * i)
      exec (.gate c k agree) s = .next (raise u (.world .legal) { code := 7, detail := k.val, addr := 0 }) ∧
      (s.legal.ctl.inGate = false → exec (.retg c) s = .next (raise u (.world .legal) { code := 7, detail := 0, addr := 0 })) ∧
      (s.legal.ctl.inGate = true → s.opn.bank.g.length = 32 →
        Completes (exec (.retg c) s) fun t =>
          (∀ i < 8, t.opn.bank.g.getD (2 + i) 0 = word (2 + i)) ∧ t.opn.bank.g.getD 1 0 = BitVec.ofNat 32 ((word 10).toNat % 16) ∧
          (∀ i, i = 0 ∨ 10 ≤ i → t.opn.bank.g.getD i 0 = s.opn.bank.g.getD i 0) ∧ t.opn.bank.pc = s.opn.bank.pc + 4 ∧
          t.opn.ctl = { s.opn.ctl with inGate := false } ∧
          t.legal.ctl = { u.legal.ctl with inGate := false, evpend := u.legal.ctl.evpend &&& ~~~0x20000 } ∧
          t.legal.bank = { u.legal.bank with pc := u.legal.bank.pc + 4 } ∧ t.hl = u.hl ∧ t.mram = s.mram ∧ t.ebb = s.ebb ∧ t.flood = s.flood)) ∧
    (Runs s c (.world .opn) →
      let u := fetched s (.world .opn)
      exec (.retg c) s = .next (raise u (.world .opn) { code := 7, detail := 0, addr := 0 }) ∧
      (s.hl.gateN ≤ k.val → exec (.gate c k agree) s = .next (raise u (.world .opn) { code := 7, detail := k.val, addr := 0 })) ∧
      (k.val < s.hl.gateN → k ≠ 8 → k ≠ 9 → Mem.wf u.hl.dmem = true →
        Completes (exec (.gate c k agree) s) fun t =>
          let word (i : Nat) : Word := Mem.word t.hl.dmem (s.hl.gateBase.toNat + 4 * i)
          word 0 = BitVec.ofNat 32 k.val ∧ word 1 = s.hl.callseq + 1 ∧ t.hl.callseq = s.hl.callseq + 1 ∧
          (∀ i < 8, word (2 + i) = s.opn.bank.g.getD (2 + i) 0) ∧
          (∀ a, a < s.hl.gateBase.toNat ∨ s.hl.gateBase.toNat + 40 ≤ a → Mem.read t.hl.dmem a = Mem.read s.hl.dmem a) ∧
          t.opn = { u.opn with ctl := { u.opn.ctl with inGate := true } } ∧
          t.legal = { s.legal with ctl := { s.legal.ctl with inGate := true, evpend := s.legal.ctl.evpend ||| 0x20000 } } ∧
          t.mram = s.mram ∧ t.ebb = s.ebb ∧ t.flood = s.flood))

/-- R128; while the spec lets no slot run (07 R215, the fallback) SLOTS completes with 0. -/
def Obligations.SlotsRunWithinTheirBudget : Prop :=
  ∀ (s : State) (c : CoreId) (l : LaneId),
    (Runs s c (.ref l) → noSlots s l = false →
      let u := fetched s (.ref l)
      let due (k : Nat) : Prop := k < 4 ∧ ((lane u l).slots.getD k Slot.zero).present = true ∧ ((lane u l).slots.getD k Slot.zero).disabled = false ∧
        ((lane u l).slots.getD k Slot.zero).lastStart + 4000 ≤ (s.clk.modtick : Int)
      ((∀ k, ¬due k) → exec (.slots c) s = .next (modLane (wrote u (.ref l) 1 0) l fun y => { y with run := none })) ∧
      ∀ k, due k → (∀ j < k, ¬due j) →
        Completes (exec (.slots c) s) fun t =>
          (lane t l).slotBank.g = ((List.replicate 32 (0 : Word)).set 2 (BitVec.ofNat 32 k)).set 3 (BitVec.ofNat 32 s.clk.modtick) ∧
          (lane t l).slotBank.pc = ((lane u l).slots.getD k Slot.zero).entry ∧ (lane t l).slotVec = Vec.zero ∧
          (lane t l).bank = (lane u l).bank ∧ (lane t l).vec = (lane u l).vec ∧ (lane t l).dmem = (lane u l).dmem ∧
          (k < (lane u l).slots.length → ((lane t l).slots.getD k Slot.zero).lastStart = s.clk.modtick) ∧
          (lane t l).run = some { k := k, start := (lane u l).ctl.cycles, done := 0, aborted := 0 }) ∧
    (Runs s c (.ref l) → noSlots s l = true → exec (.slots c) s = .next (wrote (fetched s (.ref l)) (.ref l) 1 0)) ∧
    (∀ k, Runs s c (.slot l k) → ∀ r, (lane s l).run = some r → k = r.k → k < 4 →
      Completes (exec (.slotend c) s) fun t =>
        ∃ v, v = modPl (modLane (fetched s (.slot l k)) l fun y => { y with slots := y.slots.modify k fun z => { z with fails := 0 } }) l
            (fun p => { p with ended := p.ended.modify k fun n => min (2 ^ 32 - 1) (n + 1) }) ∧
          t = slotsFrom v l (k + 1) (r.done ||| 2 ^ k) r.aborted) ∧
    (∀ r, (lane s l).run = some r → r.k < 4 → alive s = true → (lane s l).running = true →
      let run (n : Nat) : State := if n = 0 then s else elapse n s
      let stop := r.start + ((lane s l).slots.getD r.k Slot.zero).budget
      stop < 2 ^ 63 → (lane s l).ctl.cycles < 2 ^ 63 →
      ∃ n, stop ≤ (lane (run n) l).ctl.cycles ∧ (∀ m < n, (lane (run m) l).ctl.cycles < stop) ∧
        Completes (exec (.slotTime l) s) fun t =>
          (∃ v, (lane v l).dmem = (lane s l).dmem ∧ (pl v l).aborted = (pl s l).aborted.modify r.k (fun m => min (2 ^ 32 - 1) (m + 1)) ∧
            (pl v l).ended = (pl s l).ended ∧ t = slotsFrom v l (r.k + 1) r.done (r.aborted ||| 2 ^ r.k)) ∧
          (lane t l).ctl.cause = BitVec.ofNat 32 (10 + 256 * r.k) ∧ (lane t l).ctl.epc = (lane s l).slotBank.pc ∧ (lane t l).running = true ∧
          t.clk.ref = s.clk.ref + n ∧
          (r.k < (lane s l).slots.length →
            ((lane t l).slots.getD r.k Slot.zero).fails = ((lane s l).slots.getD r.k Slot.zero).fails + 1 ∧
            ((lane t l).slots.getD r.k Slot.zero).disabled =
              (((lane s l).slots.getD r.k Slot.zero).disabled || ((lane s l).slots.getD r.k Slot.zero).fails == 15)) ∧
          (lane t l).dmem = (lane s l).dmem)

/-- R103 and R119; time up to the instant passes within the command (log 6). -/
def Obligations.WatchdogExpiryRestarts : Prop :=
  ∀ s : State, alive s = true →
    let run (n : Nat) : State := if n = 0 then s else elapse n s
    (s.legal.released = true → s.legal.wdogPeriod ≠ 0 →
      ∃ n, 1024 * s.legal.wdogPeriod ≤ (run n).legal.wdogCount ∧ (∀ m < n, (run m).legal.wdogCount < 1024 * s.legal.wdogPeriod) ∧
        Completes (exec .legalWatchdogExpiry s) fun t =>
          t = event
            { run n with
              posts := (run n).posts.map fun q => { q with live := false }
              legal := WorldSt.zero 1465
              opn := WorldSt.zero 0
              hl := { (run n).hl with gateBase := 0, gateN := 0, restarts := 0, loaded := false, run := false, restarting := true, grantLost := true } }
            .clk 0x20 [0xFFFFFFFF, 12, (run n).legal.bank.pc] ∧
          t.ebb = (run n).ebb ∧ t.flood = (run n).flood ∧ t.legal.released = false ∧ t.opn.released = false) ∧
    (s.opn.wdogPeriod ≠ 0 → worldOf s = some .opn →
      ∃ n, 1024 * s.opn.wdogPeriod ≤ (run n).opn.wdogCount ∧ (∀ m < n, (run m).opn.wdogCount < 1024 * s.opn.wdogPeriod) ∧
        Completes (exec .openWatchdogExpiry s) fun t =>
          t.opn.ctl = Ctl.zero ∧ t.opn.wdogPeriod = 0 ∧ t.hl.restarts = min 255 (s.hl.restarts + 1) ∧ t.legal.ctl.evpend.getLsbD 18 = true ∧
          t.ebb = (run n).ebb ∧ t.flood = (run n).flood ∧ t.legal.bank = s.legal.bank)

/-- R101, R106 and R123 for the OPEN world. -/
def Obligations.OpenWorldCannotChangeLegalState : Prop :=
  ∀ (s t : State) (c : CoreId) (rd rs1 rs2 : Reg) (imm : Imm16) (off : Imm21) (sh : Imm5) (i : Instr), ctxOf s c = some (.world .opn) →
    s.opn.ctl.active = false → inCode .opn s.opn.ctl.evec = true → memWf s = true →
    i ∈ [Instr.add c rd rs1 rs2, .div c rd rs1 rs2, .addi c rd rs1 imm, .slli c rd rs1 sh, .lui c rd imm, .lb c rd rs1 imm, .lbu c rd rs1 imm,
      .lh c rd rs1 imm, .lhu c rd rs1 imm, .lw c rd rs1 imm, .sb c rs2 rs1 imm, .sh c rs2 rs1 imm, .sw c rs2 rs1 imm, .beq c rs1 rs2 imm,
      .jal c rd off, .jalr c rd rs1 imm, .fence c] →
    exec i s = .next t →
    t.legal.bank = s.legal.bank ∧ t.legal.ctl = { s.legal.ctl with evpend := t.legal.ctl.evpend } ∧
    (∀ a < 0x80000, Mem.read t.hl.dmem a = Mem.read s.hl.dmem a) ∧
    (∀ o, o < 0x310000 ∨ 0x3B0000 ≤ o → Mem.read t.mram o = Mem.read s.mram o)

/-- Table 5.2, op 0x34 and the moves of op 0x37. An element number above 7 is read as ILLEGAL (log 12). -/
def Obligations.VectorInstructionsActElementwise : Prop :=
  ∀ (s : State) (c : CoreId) (x : Ctx) (vd v1 v2 : VReg) (g : Reg) (imm : Imm5), Runs s c x →
    let u := fetched s x
    let p (i : Nat) : Word := (getV u x v1).getD i 0
    let q (i : Nat) : Word := (getV u x v2).getD i 0
    let lim (n : Int) : Word := BitVec.ofInt 32 (max (-(2 ^ 31)) (min (2 ^ 31 - 1) n))
    let gives (v : List Word) : Host.Outcome State Fault Refusal := .next (passed (setV u x vd v) x)
    let all (f : Nat → Word) : Host.Outcome State Fault Refusal := gives [f 0, f 1, f 2, f 3, f 4, f 5, f 6, f 7]
    let ill : Host.Outcome State Fault Refusal := .next (raise u x { code := 1, detail := 0, addr := 0 })
    (isWorld x = true →
      ∀ i ∈ [Instr.vadd c vd v1 v2, .vsub c vd v1 v2, .vadds c vd v1 v2, .vsubs c vd v1 v2, .vmul c vd v1 v2, .vmulq c vd v1 v2, .vmin c vd v1 v2,
        .vmax c vd v1 v2, .vand c vd v1 v2, .vor c vd v1 v2, .vxor c vd v1 v2, .vsra c vd v1 imm, .vsll c vd v1 imm, .vabs c vd v1,
        .vclt c g v1 v2, .vsel c vd v1 v2 g, .vbc c vd g, .vext c g v1 imm, .vins c vd g imm, .vrot c vd v1 imm, .vmov c vd v1], exec i s = ill) ∧
    (isWorld x = false →
      exec (.vadd c vd v1 v2) s = all (fun i => p i + q i) ∧
      exec (.vsub c vd v1 v2) s = all (fun i => p i - q i) ∧
      exec (.vadds c vd v1 v2) s = all (fun i => lim ((p i).toInt + (q i).toInt)) ∧
      exec (.vsubs c vd v1 v2) s = all (fun i => lim ((p i).toInt - (q i).toInt)) ∧
      exec (.vmul c vd v1 v2) s = all (fun i => p i * q i) ∧
      exec (.vmulq c vd v1 v2) s = all (fun i => lim (((p i).toInt * (q i).toInt + 2 ^ 30) >>> 31)) ∧
      exec (.vmin c vd v1 v2) s = all (fun i => if (p i).slt (q i) then p i else q i) ∧
      exec (.vmax c vd v1 v2) s = all (fun i => if (p i).slt (q i) then q i else p i) ∧
      exec (.vand c vd v1 v2) s = all (fun i => p i &&& q i) ∧
      exec (.vor c vd v1 v2) s = all (fun i => p i ||| q i) ∧
      exec (.vxor c vd v1 v2) s = all (fun i => p i ^^^ q i) ∧
      exec (.vsra c vd v1 imm) s = all (fun i => (p i).sshiftRight imm.val) ∧
      exec (.vsll c vd v1 imm) s = all (fun i => p i <<< imm.val) ∧
      exec (.vabs c vd v1) s = all (fun i => lim (p i).toInt.natAbs) ∧
      exec (.vsel c vd v1 v2 g) s = all (fun i => if (getG u x g).getLsbD i then p i else q i) ∧
      exec (.vbc c vd g) s = all (fun _ => getG u x g) ∧
      exec (.vmov c vd v1) s = gives (getV u x v1) ∧
      (∃ m : Word, exec (.vclt c g v1 v2) s = .next (wrote u x g m) ∧ (∀ i < 8, m.getLsbD i = (p i).slt (q i)) ∧ m.toNat < 256) ∧
      (imm.val < 8 →
        exec (.vext c g v1 imm) s = .next (wrote u x g (p imm.val)) ∧
        exec (.vins c vd g imm) s = gives ((getV u x vd).set imm.val (getG u x g)) ∧
        exec (.vrot c vd v1 imm) s = all (fun i => p ((i + imm.val) % 8))) ∧
      (8 ≤ imm.val → exec (.vext c g v1 imm) s = ill ∧ exec (.vins c vd g imm) s = ill ∧ exec (.vrot c vd v1 imm) s = ill))

/-- Table 5.2, op 0x37. -/
def Obligations.AccumulatorsAreExactModulo72Bits : Prop :=
  ∀ (s : State) (c : CoreId) (x : Ctx) (a : AReg) (vd v1 v2 : VReg) (g : Reg) (imm : Imm5), Runs s c x →
    let u := fetched s x
    let e (i : Nat) : Acc := (getA u x a).getD i 0
    let p (i : Nat) : Acc := BitVec.signExtend 72 ((getV u x v1).getD i 0)
    let q (i : Nat) : Acc := BitVec.signExtend 72 ((getV u x v2).getD i 0)
    let acc (l : List Acc) : Host.Outcome State Fault Refusal := .next (passed (setA u x a l) x)
    let all (f : Nat → Acc) : Host.Outcome State Fault Refusal := acc [f 0, f 1, f 2, f 3, f 4, f 5, f 6, f 7]
    let ill : Host.Outcome State Fault Refusal := .next (raise u x { code := 1, detail := 0, addr := 0 })
    let r (i : Nat) : Int := ((e i).toInt + (if imm.val = 0 then 0 else 2 ^ (imm.val - 1))) >>> imm.val
    (isWorld x = true →
      ∀ i ∈ [Instr.vmac c a v1 v2, .vmsb c a v1 v2, .vmacs c a v1 g, .vdot c a v1 v2, .aclr c a, .ald c a v1 imm, .vacr c vd a g imm],
        exec i s = ill) ∧
    (isWorld x = false →
      exec (.vmac c a v1 v2) s = all (fun i => e i + p i * q i) ∧
      exec (.vmsb c a v1 v2) s = all (fun i => e i - p i * q i) ∧
      exec (.vmacs c a v1 g) s = all (fun i => e i + p i * BitVec.signExtend 72 (getG u x g)) ∧
      exec (.vdot c a v1 v2) s =
        acc ((getA u x a).set 0 (e 0 + (p 0 * q 0 + p 1 * q 1 + p 2 * q 2 + p 3 * q 3 + p 4 * q 4 + p 5 * q 5 + p 6 * q 6 + p 7 * q 7))) ∧
      exec (.aclr c a) s = all (fun _ => 0) ∧
      exec (.ald c a v1 imm) s = all (fun i => p i <<< imm.val) ∧
      ∃ (m : Word) (v : List Word), exec (.vacr c vd a g imm) s = .next (wrote (setV u x vd v) x g m) ∧ v.length = 8 ∧ m.toNat < 256 ∧
        ∀ i < 8, v.getD i 0 = BitVec.ofInt 32 (max (-(2 ^ 31)) (min (2 ^ 31 - 1) (r i))) ∧
          (m.getLsbD i = true ↔ r i < -(2 ^ 31) ∨ 2 ^ 31 - 1 < r i))

/-- R145. -/
def Obligations.VectorLoadsAndStoresMove32Bytes : Prop :=
  ∀ (s : State) (c : CoreId) (x : Ctx) (v : VReg) (rs1 : Reg) (imm : Imm16), Runs s c x →
    let u := fetched s x
    let ad := getG u x rs1 + BitVec.signExtend 32 imm
    let el (i : Nat) : Word :=
      Mem.read (dmemOf u x) (ad.toNat + 4 * i + 3) ++ Mem.read (dmemOf u x) (ad.toNat + 4 * i + 2) ++ Mem.read (dmemOf u x) (ad.toNat + 4 * i + 1) ++
        Mem.read (dmemOf u x) (ad.toNat + 4 * i)
    let ex (code detail : Nat) : Host.Outcome State Fault Refusal := .next (raise u x { code := code, detail := detail, addr := ad })
    (isWorld x = true → exec (.vld c v rs1 imm) s = .next (raise u x { code := 1, detail := 0, addr := 0 }) ∧
      exec (.vst c v rs1 imm) s = .next (raise u x { code := 1, detail := 0, addr := 0 })) ∧
    (isWorld x = false →
      (ad.toNat % 4 ≠ 0 → exec (.vld c v rs1 imm) s = ex 3 0 ∧ exec (.vst c v rs1 imm) s = ex 3 0) ∧
      (ad.toNat % 4 = 0 → ad.toNat < 2 ^ 31 →
        ((∃ k < 32, grant u x (ad.toNat + k) false ≠ .ok) → exec (.vld c v rs1 imm) s = ex 4 0) ∧
        ((∃ k < 32, grant u x (ad.toNat + k) true ≠ .ok) → exec (.vst c v rs1 imm) s = ex 4 1) ∧
        ((∀ k < 32, grant u x (ad.toNat + k) false = .ok) → errsOf u x = [] →
          exec (.vld c v rs1 imm) s = .next (passed (setV u x v [el 0, el 1, el 2, el 3, el 4, el 5, el 6, el 7]) x)) ∧
        ((∀ k < 32, grant u x (ad.toNat + k) true = .ok) → Mem.wf (dmemOf u x) = true → (getV u x v).length = 8 →
          Completes (exec (.vst c v rs1 imm) s) fun t =>
            t = setDmem (passed u x) x (dmemOf t x) ∧
            (∀ i < 8, ∀ k < 4, Mem.read (dmemOf t x) (ad.toNat + 4 * i + k) = ((getV u x v).getD i 0).extractLsb' (8 * k) 8) ∧
            ∀ b, b < ad.toNat ∨ ad.toNat + 32 ≤ b → Mem.read (dmemOf t x) b = Mem.read (dmemOf u x) b)) ∧
      (isRef x = true → ad.toNat % 4 = 0 → 0x80010000 ≤ ad.toNat → ad.toNat + 32 ≤ 0x80040000 → errsOf u x = [] →
        let o := ad.toNat - 0x80000000
        exec (.vld c v rs1 imm) s = .next (passed (setV u.used x v ((List.range 8).map fun i =>
          Mem.read u.mram (o + 4 * i + 3) ++ Mem.read u.mram (o + 4 * i + 2) ++ Mem.read u.mram (o + 4 * i + 1) ++ Mem.read u.mram (o + 4 * i))) x)))

/-- R147 and R148; item bytes and positions as the sample fabric holds them (03 R86 to R89). -/
def Obligations.StreamInstructionsReadTheLanesPosition : Prop :=
  ∀ (s : State) (c : CoreId) (x : Ctx) (rd rs1 rs2 : Reg), Runs s c x → isWorld x = false →
    let l := laneOf x
    let u := fetched s x
    let sel := getG u x rs1
    let ch := u.chs.getD (sel.toNat % 128) default
    let st := if sel.getLsbD 8 then ch.sus else ch.str
    let pos := match l with | .ebb => st.posE | .flood => st.posF
    let a := getG u x rs2
    let ex (code detail : Nat) : Host.Outcome State Fault Refusal := .next (raise u x { code := code, detail := detail, addr := 0 })
    let can (n : Nat) : Prop := 0 < n ∧ a.toNat % 4 = 0 ∧ ∀ k < n, grant u x (a.toNat + k) true = .ok
    let put (b : Bytes) : State := setDmem u x (Mem.writeN (dmemOf u x) a.toNat b)
    let moved (p : Nat) (t : State) : State := setSelStream t sel (match l with | .ebb => { st with posE := p } | .flood => { st with posF := p })
    let ref : Prop := isRef x = true
    (isSlot x = true → exec (.strPop c rd rs1 rs2) s = ex 6 0 ∧ exec (.strSeek c rd rs1 rs2) s = ex 6 0) ∧
    (sel.toNat % 128 + 256 * (sel.toNat / 256 % 2) ≠ sel.toNat →
      exec (.strPeek c rd rs1) s = ex 9 2 ∧ exec (.strTell c rd rs1) s = ex 9 2 ∧ (ref → exec (.strSeek c rd rs1 rs2) s = ex 9 2) ∧
      exec (.strWait c rs1 rs2) s = ex 9 2 ∧
      (can 16 → (ref → exec (.strPop c rd rs1 rs2) s = ex 9 2) ∧ exec (.strRead c rd rs1 rs2) s = ex 9 2 ∧ exec (.strEpoch c rd rs1 rs2) s = ex 9 2)) ∧
    (sel.toNat % 128 + 256 * (sel.toNat / 256 % 2) = sel.toNat →
      (pos < st.base → exec (.strPeek c rd rs1) s = ex 9 1 ∧ exec (.strTell c rd rs1) s = ex 9 1 ∧
        (can 16 → (ref → exec (.strPop c rd rs1 rs2) s = ex 9 1) ∧ exec (.strRead c rd rs1 rs2) s = ex 9 1)) ∧
      (st.base ≤ pos →
        exec (.strTell c rd rs1) s =
          .next (wrote u x rd (BitVec.ofNat 32 (match (st.items.drop (pos - st.base)).find? isBlock with | some i => i.bseq | none => st.nextB))) ∧
        (∀ i, st.items[pos - st.base]? = some i → i.kind < 4 →
          exec (.strPeek c rd rs1) s =
            .next (wrote u x rd (BitVec.ofNat 32 (i.kind + 16 * min 4095 (st.base + st.items.length - pos)))) ∧
          (can i.bytes.length → exec (.strRead c rd rs1 rs2) s = .next (wrote (put i.bytes) x rd (BitVec.ofNat 32 i.kind)) ∧
            (ref → exec (.strPop c rd rs1 rs2) s = .next (wrote (moved (pos + 1) (put i.bytes)) x rd (BitVec.ofNat 32 i.kind))))) ∧
        (st.items[pos - st.base]? = none →
          exec (.strPeek c rd rs1) s = .next (wrote u x rd 0xF) ∧
          (can 16 → exec (.strRead c rd rs1 rs2) s = .next (wrote u x rd 0xF) ∧ (ref → exec (.strPop c rd rs1 rs2) s = .next (wrote u x rd 0xF))))) ∧
      (ref → (∀ p, strFind st a.toNat = some p → exec (.strSeek c rd rs1 rs2) s = .next (wrote (moved p u) x rd 0)) ∧
        (strFind st a.toNat = none →
          exec (.strSeek c rd rs1 rs2) s = .next (wrote u x rd (if a.toNat = st.nextB ∨ later 32 a.toNat st.nextB then 1 else 2)))) ∧
      (∀ b, st.epoch = some b → can b.length → exec (.strEpoch c rd rs1 rs2) s = .next (wrote (put b) x rd 1)) ∧
      (st.epoch = none → can 16 → exec (.strEpoch c rd rs1 rs2) s = .next (wrote u x rd 0)))

/-- STR.WAIT of Table 5.3 and its wake. -/
def Obligations.StreamWaitStallsUntilItemOrDeadline : Prop :=
  (∀ (s : State) (c : CoreId) (x : Ctx) (rd rs1 rs2 : Reg), Runs s c x →
    let u := fetched s x
    let sel := getG u x rs1
    let dead := getG u x rs2
    let m := s.clk.modtick % 2 ^ 32
    let ripe (l : LaneId) : Prop := 0 < strAhead (selStream u sel) l ∨ (m + 2 ^ 32 - dead.toNat) % 2 ^ 32 < 2 ^ 31
    (∀ l, x = .ref l ∨ (∃ k, x = .slot l k) → sel.toNat % 128 + 256 * (sel.toNat / 256 % 2) = sel.toNat →
      (ripe l → exec (.strWait c rs1 rs2) s = .next (passed u x)) ∧
      (¬ripe l → exec (.strWait c rs1 rs2) s = .next (modLane u l fun y => { y with stall := .wait sel dead }))) ∧
    (isSlot x = true → exec (.strPop c rd rs1 rs2) s = .next (raise u x { code := 6, detail := 0, addr := 0 }) ∧
      exec (.strSeek c rd rs1 rs2) s = .next (raise u x { code := 6, detail := 0, addr := 0 })) ∧
    (isWorld x = true →
      ∀ i ∈ [Instr.strPeek c rd rs1, .strPop c rd rs1 rs2, .strRead c rd rs1 rs2, .strSeek c rd rs1 rs2, .strTell c rd rs1, .strWait c rs1 rs2,
        .strEpoch c rd rs1 rs2], exec i s = .next (raise u x { code := 1, detail := 0, addr := 0 }))) ∧
  (∀ (s : State) (l : LaneId) (sel dead : Word), (lane s l).stall = .wait sel dead → alive s = true → (lane s l).running = true →
    let m := s.clk.modtick % 2 ^ 32
    let ripe : Prop := 0 < strAhead (selStream s sel) l ∨ (m + 2 ^ 32 - dead.toNat) % 2 ^ 32 < 2 ^ 31
    let x := match (lane s l).run with | some r => Ctx.slot l r.k | none => .ref l
    (ripe → exec (.strWaitWake l) s = .next (passed (modLane s l fun y => { y with stall := .none }) x)) ∧
    (¬ripe → exec (.strWaitWake l) s = .next s))

/-- Table 5.5. -/
def Obligations.FramesAreQueuedWithTheirCrc : Prop :=
  (∀ (s : State) (c : CoreId) (x : Ctx) (rd rs1 : Reg), Runs s c x →
    let u := fetched s x
    let a := getG u x rs1
    let l := laneOf x
    let raw := Mem.readN (dmemOf u x) a.toNat 60
    let crc := crc32c raw
    let frame := raw ++ le 4 crc.toNat
    (isWorld x = true → exec (.frmEmit c rd rs1) s = .next (raise u x { code := 1, detail := 0, addr := 0 }) ∧
      exec (.frmXemit c rd rs1) s = .next (raise u x { code := 1, detail := 0, addr := 0 })) ∧
    (isSlot x = true → exec (.frmEmit c rd rs1) s = .next (raise u x { code := 6, detail := 0, addr := 0 })) ∧
    (isWorld x = false → a.toNat % 4 = 0 → a.toNat < 2 ^ 31 → (∀ k < 64, grant u x (a.toNat + k) false = .ok) → errsOf u x = [] →
      (isRef x = true → (pl u l).inbuf.length < 128 →
        exec (.frmEmit c rd rs1) s = .next (wrote (modPl u l fun p => { p with inbuf := p.inbuf ++ [frame] }) x rd crc)) ∧
      (isRef x = true → 128 ≤ (pl u l).inbuf.length →
        exec (.frmEmit c rd rs1) s = .next (modLane u l fun y => { y with stall := .emit rd rs1 })) ∧
      ((pl u l).xbuf.length < 16 →
        exec (.frmXemit c rd rs1) s = .next (wrote (modPl u l fun p => { p with xbuf := p.xbuf ++ [frame] }) x rd 0)) ∧
      (16 ≤ (pl u l).xbuf.length →
        exec (.frmXemit c rd rs1) s = .next (wrote { u with pair := { u.pair with xdrop := min 65535 (u.pair.xdrop + 1) } } x rd 1)))) ∧
  (∀ (s : State) (l : LaneId) (rd rs1 : Reg), (lane s l).stall = .emit rd rs1 → alive s = true → (lane s l).running = true →
    let a := getG s (.ref l) rs1
    let raw := Mem.readN (lane s l).dmem a.toNat 60
    (a.toNat < 0x80000 → (lane s l).errs = [] → (pl s l).inbuf.length < 128 →
      exec (.frmEmitUnstall l) s = .next (wrote
        (modPl (modLane s l fun y => { y with stall := .none }) l fun p => { p with inbuf := p.inbuf ++ [raw ++ le 4 (crc32c raw).toNat] })
        (.ref l) rd (crc32c raw))) ∧
    (128 ≤ (pl s l).inbuf.length → exec (.frmEmitUnstall l) s = .next s))

/-- R153, R155, R161 and the head of 00 R13, for every operation of Table 5.9. -/
def Obligations.RecordRulesHoldForEveryOperation : Prop :=
  ∀ (s : State) (c : CoreId) (rs : Reg) (x : Ctx) (g : Bool), Runs s c x →
    let u := fetched s x
    let a := getG u x rs
    let ws := recWords u x a
    let n := 4 * max 1 (Mem.read (dmemOf u x) a.toNat).toNat
    let ld (k : Nat) : Prop := a.toNat + k ≤ 2 ^ 31 ∧ ∀ i < k, grant u x (a.toNat + i) false = .ok
    let st (k : Nat) : Prop := ∀ i < k, grant u x (a.toNat + i) true = .ok
    ∀ (i : Instr) (un : UnitId) (need : Need) (len : Nat),
      (i, un, need, len) ∈ [(Instr.capRead c rs, UnitId.cap, Need.laneRead, 10), (.chnCfgin c rs, .chn, .more, 3),
        (.chnRdst c rs, .chn, .laneRead, 9), (.chnLdcoef c rs, .chn, .more, 3), (.chnStop c rs, .chn, .more, 2), (.chnStart c rs, .chn, .more, 5),
        (.chnClro c rs, .chn, .more, 2), (.auxSeq c rs, .aux, .more, 18), (.auxInj c rs, .aux, .more, 3), (.auxAcc c rs, .aux, .more, 5),
        (.auxTrk c rs, .aux, .more, 4), (.auxWin c rs, .aux, .more, 4), (.auxCal c rs, .aux, .more, 2), (.auxRdst c rs, .aux, .laneRead, 4),
        (.pairRdst c rs, .pair, .read, 8), (.pairCnt c rs, .pair, .read, 10), (.pairClr c rs, .pair, .more, 2), (.pairLane c rs, .pair, .more, 2),
        (.bilMpcfg c rs, .bil, .more, 12), (.bilRdreg c rs, .bil, .read, 20), (.bilSessOpen c rs, .bil, .more, 8),
        (.bilSessClose c rs, .bil, .more, 8), (.bilTarw c rs, .bil, .more, 20), (.bilTswap c rs, .bil, .more, 3),
        (.bilDemcfg c rs, .bil, .more, 5), (.bilRdst c rs, .bil, .read, 6), (.rlyCfg c rs, .rly, .more, 6), (.rlyCfgClrflt c rs, .rly, .more, 6),
        (.rlyClose c rs g, .rly, .more, 2), (.rlyOpen c rs, .rly, .more, 2), (.rlyGrant c rs, .rly, .more, 2), (.rlyRdst c rs, .rly, .read, 4),
        (.ldgAppend c rs, .ldg, .more, 34), (.ldgRead c rs, .ldg, .read, 35), (.ldgFlash c rs, .ldg, .more, 4), (.ldgRdst c rs, .ldg, .read, 8),
        (.objTake c rs, .obj, .more, 4), (.objReply c rs, .obj, .more, 4), (.objAcl c rs, .obj, .more, 3), (.objRdst c rs, .obj, .read, 6),
        (.keySign c rs, .key, .more, 6), (.keyVerify c rs, .key, .more, 6), (.keyMac c rs, .key, .more, 6), (.keyGcmEncrypt c rs, .key, .more, 8),
        (.keyGcmDecrypt c rs, .key, .more, 8), (.keyDerive c rs, .key, .more, 5), (.keyWrap c rs, .key, .more, 5),
        (.keyUnwrap c rs, .key, .more, 5), (.keyWrite c rs, .key, .more, 12), (.keyCommit c rs, .key, .more, 3), (.keyInval c rs, .key, .more, 3),
        (.keyLife c rs g, .key, .more, 3), (.keyAttest c rs, .key, .more, 6), (.keyRand c rs, .key, .more, 4), (.keyMask c rs, .key, .more, 2),
        (.keyRdst c rs, .key, .read, 6), (.keyErase c rs g, .key, .more, 2), (.tmpRdst c rs, .tmp, .read, 8), (.tmpLogrd c rs, .tmp, .read, 11),
        (.tmpAck c rs, .tmp, .more, 2), (.sitCfg c rs, .sit, .more, 8), (.sitCfgJoin c rs, .sit, .more, 8), (.sitCfgLeave c rs, .sit, .more, 8),
        (.sitSend c rs, .sit, .more, 6), (.sitRecv c rs, .sit, .more, 5), (.sitTmap c rs, .sit, .more, 6), (.sitTswap c rs, .sit, .more, 3),
        (.sitNbr c rs, .sit, .read, 8), (.sitRdst c rs, .sit, .read, 8), (.dpyCfg c rs, .dpy, .more, 8), (.dpyUpd c rs, .dpy, .more, 6),
        (.dpyGamma c rs, .dpy, .more, 5), (.dpyGswap c rs, .dpy, .more, 2), (.dpyBlink c rs, .dpy, .more, 4), (.dpyLock c rs, .dpy, .more, 4),
        (.dpyRdst c rs, .dpy, .read, 6), (.clkModeRun c rs, .clk, .more, 3), (.clkModeReduced c rs, .clk, .more, 3),
        (.clkModeService c rs, .clk, .more, 3), (.clkSlack c rs g, .clk, .more, 2), (.clkRdst c rs, .clk, .read, 6),
        (.clkDbg c rs, .clk, .more, 2), (.hstSend c rs, .hst, .more, 5), (.hstRecv c rs, .hst, .more, 5), (.hstRdst c rs, .hst, .read, 6),
        (.plsCfg c rs, .pls, .more, 4), (.plsCfgRun c rs, .pls, .more, 4), (.plsCfgAbort c rs, .pls, .more, 4), (.plsRdst c rs, .pls, .read, 3),
        (.timRead c rs, .tim, .laneRead, 5), (.timSetAbsolute c rs, .tim, .more, 4), (.timSetAdjust c rs, .tim, .more, 4),
        (.timLedge c rs, .tim, .laneRead, 18)] →
      (a.toNat % 4 ≠ 0 → exec i s = .next (raise u x { code := 3, detail := 0, addr := a })) ∧
      (a.toNat % 4 = 0 →
        (¬ld 4 ∨ (ld 4 ∧ st 4 ∧ ¬ld n) → exec i s = .next (raise u x { code := 4, detail := 0, addr := a })) ∧
        (ld 4 ∧ ¬st 4 → exec i s = .next (raise u x { code := 4, detail := 1, addr := a })) ∧
        (recExc u x a = none →
          (absentUnit s un = true → exec i s = declines (issued s x rs) x 3) ∧
          (absentUnit s un = false → permitted x un need = false → exec i s = declines (issued s x rs) x 2) ∧
          (absentUnit s un = false → permitted x un need = true → bits (rw ws 0) 7 0 ≠ len ∨ bits (rw ws 0) 27 16 ≠ 0 →
            ∃ n ∈ [2, 3, 6], exec i s = declines (issued s x rs) x n)))

/-- Tables 2.3, 3.5, 5.8 and 5.10. -/
def Obligations.ChannelConfigurationIsCheckedAndStored : Prop :=
  ∀ (s : State) (c : CoreId) (rs : Reg) (x : Ctx) (ws : List Word),
    let u := issued s x rs
    let a := getG u x rs
    let n := bits (rw ws 1) 6 0
    let ch := chan u n
    let only : Prop := (rw ws 1).toNat < 128
    let put (f : Ch → Ch) : State := { u with chs := u.chs.modify n f }
    (Issues s c rs .cap .laneRead 10 x ws → rw ws 1 = 0 →
      ∃ d, d.length = 7 ∧ d.getD 1 0 = (if s.fuse.variant = .fm then 0x00042008 else 0x00842008) ∧ d.getD 2 0 = 0x00421000 ∧
        d.getD 3 0 = BitVec.ofNat 32 (65536 + 256 * s.fuse.stepMajor.toNat + s.fuse.stepMinor.toNat) ∧ d.getD 4 0 = s.fuse.uidLo ∧ d.getD 5 0 = s.fuse.uidHi ∧
        d.getD 6 0 = 0 ∧ exec (.capRead c rs) s = .next (answers u x a ((d ++ [crc32c (wordsBytes d)]).mapIdx fun i v => (2 + i, v)))) ∧
    (Issues s c rs .chn .laneRead 9 x ws → only →
      exec (.chnRdst c rs) s =
        .next (answers u x a [(2, ch.input), (3, ch.cfg0), (4, ch.cfg1), (5, ch.cfg2), (6, ch.cfg3), (7, chStat u n), (8, chainStat u n)])) ∧
    (Issues s c rs .chn .more 3 x ws →
      let v := rw ws 2
      let good : Prop := only ∧ v &&& 0xFFFFF040 = 0 ∧ bits v 2 0 ≤ 5 ∧ bits v 5 3 ≤ 3 ∧ (n < 96 → bits v 10 8 = 0) ∧ (96 ≤ n → bits v 2 0 = 0)
      (¬good → exec (.chnCfgin c rs) s = declines u x 6) ∧
      (good → ch.chain.st ≠ 0 → exec (.chnCfgin c rs) s = declines u x 7) ∧
      (good → ch.chain.st = 0 → ch.chain.again ≠ 1 →
        exec (.chnCfgin c rs) s = .next (answers (put fun y =>
          if y.input = v then y else { y with input := v, fast := { Fast.zero with tf := s.clk.modtick + 1 }, zc := [] }) x a []))) ∧
    (Issues s c rs .chn .more 6 x ws →
      let w (i : Nat) := rw ws (2 + i)
      let good : Prop := only ∧ w 0 &&& 0xC0000000 = 0 ∧ w 1 &&& 0xF000600F = 0 ∧ w 2 &&& 0x3FF00000 = 0 ∧ w 3 &&& 0xFFFC0000 = 0 ∧ bits (w 0) 29 28 ≠ 3 ∧
        (bits (w 0) 29 28 = 0 → bits (w 0) 27 16 = 0) ∧ (bits (w 0) 29 28 = 1 → bits (w 0) 27 20 = 0) ∧
        1000 ≤ bits (w 2) 19 0 ∧ bits (w 2) 19 0 ≤ 700000 ∧ 63 ≤ bits (w 3) 17 0
      ((w 1).getLsbD 12 = true → s.fuse.variant = .fm → exec (.chnCfgch c rs) s = declines u x 3) ∧
      (((w 1).getLsbD 12 = true → s.fuse.variant ≠ .fm) →
        (¬good → exec (.chnCfgch c rs) s = declines u x 6) ∧
        (good → w 0 ≠ ch.cfg0 → ch.chain.st ≠ 0 → exec (.chnCfgch c rs) s = declines u x 7) ∧
        (good → (w 0 = ch.cfg0 ∨ (ch.chain.st = 0 ∧ ch.chain.again ≠ 1)) → (w 1).getLsbD 12 = ch.cfg1.getLsbD 12 → n < s.chs.length →
          exec (.chnCfgch c rs) s = .next (answers (put fun y =>
            { y with cfg0 := w 0, cfg1 := w 1, cfg2 := w 2, cfg3 := w 3,
                     det := if (w 2).getLsbD 31 then y.det else { Detector.zero with out := y.det.out } }) x a [])))) ∧
    (Issues s c rs .chn .more 2 x ws → only →
      (ch.stuck = true ∨ (∃ o ∈ ch.overs, o.stop = none) → exec (.chnClro c rs) s = declines u x 7) ∧
      (ch.stuck = false → (∀ o ∈ ch.overs, o.stop ≠ none) →
        exec (.chnClro c rs) s = .next (answers
          { u with mram := Mem.writeN u.mram (0x36740 + 4 * n) (le 4 (Mem.word u.mram (0x36740 + 4 * n) &&& 0xFFFFE00C).toNat) } x a [])))

/-- R80 to R82 and R88. -/
def Obligations.ChainsLoadStopAndStart : Prop :=
  ∀ (s : State) (c : CoreId) (rs : Reg) (x : Ctx) (ws : List Word), s.chs.length = 128 →
    let u := issued s x rs
    let a := getG u x rs
    let n := bits (rw ws 1) 6 0
    let ch := chan u n
    let src := bits (rw ws 1) 11 8
    let idle : Prop := ch.chain.st = 0 ∧ ch.chain.again ≠ 1
    let need := if ch.str.words = ringWords (chPreset ch) then 0 else ringWords (chPreset ch)
    let ready : Prop := idle ∧ chEnabled ch = true ∧ bits (ch.bank.getD 0 0) 9 8 = chPreset ch ∧ scaleOk ch = true
    (Issues s c rs .chn .more 3 x ws → rw ws 1 &&& 0xFFFFF080 = 0 → 1 ≤ src → src ≤ 3 → rw ws 2 = 0 →
      (s.clk.mode ≠ 4 ∨ ch.chain.st ≠ 0 → exec (.chnLdcoef c rs) s = declines u x 7) ∧
      (s.clk.mode = 4 → idle →
        Completes (exec (.chnLdcoef c rs) s) fun t =>
          (chan t n).bank = romBank (src - 1) ∧ (∀ m, m ≠ n → chan t m = chan u m) ∧
          t = wrote (event
            { u with
              chs := u.chs.modify n fun y => { y with bank := romBank (src - 1) }
              mram := Mem.writeN u.mram (0x10014 + 512 * n) (wordsBytes ((romBank (src - 1)).take 96)) } .chn 0x1B
            [BitVec.ofNat 32 n, (romBank (src - 1)).getD 95 0]) x 1 0)) ∧
    (Issues s c rs .chn .more 2 x ws → (rw ws 1).toNat < 128 →
      (s.clk.mode ≠ 4 → exec (.chnStop c rs) s = declines u x 7) ∧
      (s.clk.mode = 4 → ch.chain.st ≠ 0 → ch.chain.ending = none → ch.str.blk = [] →
        Completes (exec (.chnStop c rs) s) fun t =>
          (chan t n).chain.st = 0 ∧ (chan t n).chain.bits = [] ∧ (chan t n).su.st = 0 ∧ (∀ m, m ≠ n → chan t m = chan u m) ∧
          ((bankOf s x).g.length = 32 → getG t x 1 = 0))) ∧
    (Issues s c rs .chn .more 5 x ws → (rw ws 1).toNat < 128 → rw ws 3 &&& 0xFF000000 = 0 → rw ws 4 &&& 0xFFFFF800 = 0 →
      (¬ready → exec (.chnStart c rs) s = declines u x 7) ∧
      (ready → 262144 < ringSum u + need → exec (.chnStart c rs) s = declines u x 8) ∧
      (ready → ringSum u + need ≤ 262144 →
        (chPreset ch = 0 → s.clk.fallback.isSome →
          Completes (exec (.chnStart c rs) s) fun t =>
            (chan t n).chain.st = 1 ∧ (chan t n).chain.wait = true ∧ (chan t n).str.words = 4096 ∧
            t = answers { u with chs := t.chs } x a [(2, 0), (3, 0), (4, 0)]) ∧
        (¬(chPreset ch = 0 ∧ s.clk.fallback.isSome) →
          Completes (exec (.chnStart c rs) s) fun t =>
            (chan t n).chain.st = 1 ∧ (chan t n).chain.t1 = s.clk.modtick + 1 ∧ (chan t n).chain.preset = chPreset ch ∧
            (chan t n).str.words = ringWords (chPreset ch) ∧ (chan t n).str.nextB = 0 ∧ (∀ m, m ≠ n → chan t m = chan u m) ∧
            ∃ v, Records u v .chn 0x1A ([BitVec.ofNat 32 n] ++ two (s.clk.modtick + 1) ++ [BitVec.ofNat 32 ((s.clk.modtick + 1) % dOf (chPreset ch))]) ∧
              t = answers v x a [(2, w32 (s.clk.modtick + 1)), (3, w32 ((s.clk.modtick + 1) / 2 ^ 32 % 2 ^ 24)),
                (4, w32 ((s.clk.modtick + 1) % dOf (chPreset ch)))])))

/-- R61, R62 and R69; the commands of R69 stand for their instants (log 6). -/
def Obligations.ReliefPausesAndClustersStart : Prop :=
  (∀ (s : State) (c : CoreId) (rs : Reg) (x : Ctx) (ws : List Word) (i : Instr), s.clus.length = 8 →
    i ∈ [Instr.chnReliefQuery c rs, .chnReliefPause c rs, .chnReliefResume c rs] → Issues s c rs .chn .read 3 x ws →
    let u := issued s x rs
    let a := getG u x rs
    let k := bits (rw ws 1) 6 0
    let op := bits (rw ws 1) 9 8
    let cl := clu u k
    let good : Prop := rw ws 1 &&& 0xFFFFFC80 = 0 ∧ rw ws 2 &&& 0xFF00 = 0 ∧ k < 8 ∧ op ≠ 3
    (good → op = 0 → exec i s = .next (answers u x a [(2, reliefWord u k)])) ∧
    (¬good → (op = 0 ∨ x = .world .legal) → exec i s = declines u x 6) ∧
    (op ≠ 0 → x = .world .opn → exec i s = declines u x 2) ∧
    (good → op ≠ 0 → x = .world .legal → s.clk.mode ≠ 4 → exec i s = declines u x 7) ∧
    (good → op = 1 → x = .world .legal → s.clk.mode = 4 → cl.stopped = false →
      Completes (exec i s) fun t =>
        (clu t k).pausing = true ∧ (cl.phase ≤ 2 ∨ cl.phase = 6 → (clu t k).paused = true) ∧ (∀ j, j ≠ k → clu t j = clu u j) ∧
        (3 ≤ cl.phase ∧ cl.phase ≤ 5 → (clu t k).phase = cl.phase ∧ (clu t k).paused = cl.paused) ∧ t.chs = u.chs) ∧
    (good → op = 2 → x = .world .legal → s.clk.mode = 4 → cl.paused = true →
      Completes (exec i s) fun t =>
        (clu t k).paused = false ∧ (clu t k).pausing = false ∧ (clu t k).phase = 0 ∧ (clu t k).slot = (cl.slot + 1) % 12 ∧
        (clu t k).next = some s.clk.modtick ∧ t.chs = u.chs)) ∧
  (∀ (s u : State) (k : ClusterId), alive s = true → s.clk.mode = 1 → Reaches s u (100 * k.val) →
    exec (.clusterStart k) s = .next { u with clus := u.clus.modify k.val fun y => { y with on := true } }) ∧
  (∀ (s u : State) (g : BsGroup), alive s = true → s.clk.mode = 1 → Reaches s u (800 + 100 * g.val) →
    exec (.bsclkStart g) s = .next { u with bsclk := u.bsclk.set g.val true })

/-- Table 2.7 and Table 2.8; differences in 0.1 ppm, the phases' commands stand for their instants (log 6). -/
def Obligations.ReliefSlotRunsItsPhases : Prop :=
  ∀ (s : State) (k : ClusterId), s.clus.length = 8 → s.chs.length = 128 → alive s = true → Mem.wf s.mram = true → (clu s k.val).on = true →
    (clu s k.val).slot < 12 →
    let cl := clu s k.val
    let n := 12 * k.val + cl.slot
    let gain := chGain (chan s n)
    let at0 (ms : Nat) : Nat := cl.start + cl.off + 4000 * ms
    let edge (t : Nat) : Nat := (chan s n).chain.t1 + (t - (chan s n).chain.t1 + 63) / 64 * 64
    let bad (t : Option (Int × Int)) : Prop := ∀ g o, t = some (g, o) → g < -8388608 ∨ 8388607 < g ∨ o < -8388608 ∨ 8388607 < o
    let free : Prop := cl.dirty = false ∧ cl.parked = false ∧ cleanNow s k.val = true ∧ s.clk.fallback = none
    let committed (t : State) (m : Nat) (g o d : Int) : Prop :=
      (trimRec t k.val m gain).g = g ∧ (trimRec t k.val m gain).o = o ∧ (trimRec t k.val m gain).drift = d ∧
      (trimRec t k.val m gain).gen = ((trimRec s k.val m gain).gen + 1) % 256 ∧
      (trimRec t k.val m gain).cals = min 65535 ((trimRec s k.val m gain).cals + 1)
    let kept (t : State) : Prop := ∀ m ≤ 12, trimRec t k.val m gain = trimRec s k.val m gain
    (∀ (u : State) (m : Nat) (zero refb : Int) (levels : Int × Int), cl.next = some m → cl.phase = 0 → cl.stopped = false → cl.paused = false → Reaches s u m →
      exec (.reliefSlotStart k zero levels refb) s = .next { u with clus := u.clus.modify k.val fun c =>
        { c with phase := 1, start := m, off := 0, skip := slotSkip s n, second := false, held60 := false, dirty := false, parked := false,
                 cal := some (zero, levels.1, levels.2, refb), sp := none, mj := none } }) ∧
    (∀ (u : State) (zero pos neg refb : Int), cl.phase = 1 → cl.stopped = false → cl.cal = some (zero, pos, neg, refb) → Reaches s u (at0 200) →
      Completes (exec (.reliefConnect k) s) fun t =>
        let tr := trimFor s k.val gain zero pos neg
        (clu t k.val).drift = refDrift s k.val gain pos refb ∧ (clu t k.val).cal = none ∧
        (bad tr → (clu t k.val).stopped = true ∧ (clu t k.val).phase = 6 ∧ kept t) ∧
        (¬bad tr →
          (cl.skip = true ∨ slotSkip s n = true → (clu t k.val).phase = 6) ∧
          (cl.skip = false → slotSkip s n = false → (clu t k.val).phase = 2 ∧ (clu t k.val).first = at0 201 ∧
            ((clu t k.val).dirty = true ↔ cleanNow s k.val = false)) ∧
          (refDrift s k.val gain pos refb = true → cl.sp = none → kept t) ∧
          (refDrift s k.val gain pos refb = false → s.clk.fallback = none → ∀ g o, tr = some (g, o) → committed t 12 g o 0 ∧ (clu t k.val).sp = none) ∧
          (refDrift s k.val gain pos refb = false → s.clk.fallback ≠ none → kept t ∧ (clu t k.val).sp = tr))) ∧
    (∀ (u : State) (loud : Bool) (dg df : Int), cl.phase = 2 → free → Reaches s u (edge (cl.cmpAt + 400000)) →
      Completes (exec (.reliefTakeOver k loud dg df) s) fun t =>
        (df.natAbs ≤ 500 → (loud = true → dg.natAbs ≤ 5000) →
          (clu t k.val).phase = 3 ∧ (cl.retired = none → carrier t n = 1) ∧ (chan t n).aborts = 0 ∧
          (∃ h ∈ (chan t n).rlf, h.1 = u.clk.modtick ∧ h.2 = (onRelief s n, trimNow s n)) ∧
          (clu t k.val).off = cl.cmpAt + 400000 - (cl.start + 4000 * 301)) ∧
        (500 < df.natAbs ∨ (loud = true ∧ 5000 < dg.natAbs) →
          (clu t k.val).phase = 6 ∧ (chan t n).aborts = min 15 ((chan s n).aborts + 1)) ∧ kept t) ∧
    (∀ u, cl.phase = 2 → Reaches s u (cl.first + 4000000) →
      Completes (exec (.reliefTakeoverTimeout k) s) fun t =>
        (clu t k.val).phase = 6 ∧ (chan t n).aborts = min 15 ((chan s n).aborts + 1) ∧ kept t) ∧
    (∀ (u : State) (zero refb : Int) (levels : Int × Int), cl.phase = 3 → Reaches s u (at0 1801) →
      Completes (exec (.reliefMjReconnect k zero levels refb) s) fun t =>
        let d := refDrift s k.val gain levels.1 refb
        let tr := trimFor s k.val gain zero levels.1 levels.2
        (clu t k.val).drift = d ∧
        (d = false → bad tr → (clu t k.val).retired = some cl.slot ∧ (clu t k.val).stopped = true) ∧
        (d = true ∨ ¬bad tr → (clu t k.val).phase = 4 ∧ (clu t k.val).first = at0 1802 ∧ (clu t k.val).retired = cl.retired ∧
          (clu t k.val).mj = if d then none else tr)) ∧
    (∀ (u : State) (loud : Bool) (dg : Int), cl.phase = 4 → free → Reaches s u (edge (cl.cmpAt + 400000)) →
      Completes (exec (.reliefTrimApply k loud dg) s) fun t =>
        (clu t k.val).phase = 5 ∧ (loud = true → (clu t k.val).driftG = dg) ∧ (clu t k.val).first = cl.cmpAt + 400000 ∧ t.chs = u.chs ∧ t.mram = u.mram) ∧
    (∀ (u : State) (loud : Bool) (dg df : Int) (g o : Int), cl.phase = 5 → free → Reaches s u (edge (cl.cmpAt + 200000)) → cl.mj = some (g, o) →
      ¬bad (some (g, o)) → -32768 ≤ cl.driftG → cl.driftG ≤ 32767 →
      Completes (exec (.reliefHandback k loud dg df) s) fun t =>
        (df.natAbs ≤ 50 → (loud = true → dg.natAbs ≤ 200) →
          (clu t k.val).phase = 6 ∧ committed t cl.slot g o cl.driftG ∧ (∃ h ∈ (chan t n).rlf, h.1 = u.clk.modtick ∧ h.2 = (onRelief s n, trimNow s n))) ∧
        (50 < df.natAbs ∨ (loud = true ∧ 200 < dg.natAbs) → kept t ∧
          (cl.second = false → (clu t k.val).phase = 3 ∧ (clu t k.val).second = true ∧ (clu t k.val).off = cl.cmpAt + 200000 - (cl.start + 4000 * 301)) ∧
          (cl.second = true → (clu t k.val).retired = some cl.slot ∧ (clu t k.val).stopped = true))) ∧
    (∀ u, (cl.phase = 4 ∨ cl.phase = 5) → cl.held60 = false → Reaches s u (cl.first + (if cl.phase = 5 then 200000 else 400000) + 240000000) →
      Completes (exec (.reliefWait60s k) s) fun t =>
        (clu t k.val) = { cl with held60 := true } ∧ Records u t .chn 0x11 [BitVec.ofNat 32 n, 2, 1] ∧ t.chs = u.chs) ∧
    (∀ u, cl.phase = 6 → cl.stopped = false → cl.paused = false → Reaches s u (at0 2000) →
      Completes (exec (.reliefSlotEnd k) s) fun t =>
        (clu t k.val) = { cl with phase := 0, slot := (cl.slot + 1) % 12, next := some (at0 2000) } ∧ t.chs = u.chs)

/-- R49, R63, R64, R92 and R93; ZERO_CROSSING brings the fast path's bits (log 36). -/
def Obligations.OverloadsAndCrossingsReachTheChannel : Prop :=
  ∀ (s : State) (ch : ChanId), s.chs.length = 128 → s.clus.length = 8 → alive s = true → Mem.wf s.mram = true →
    let n := ch.val
    let y := chan s n
    let flag (t : State) (i : Nat) : Bool := (Mem.word t.mram (0x36740 + 4 * n)).getLsbD i
    (∀ pos, chRuns s n = true → (∀ o ∈ y.overs, o.stop ≠ none) →
      Completes (exec (.overloadStart ch pos) s) fun t =>
        (chan t n).overs.head? = some { start := s.clk.modtick, stop := none, pos := pos } ∧ flag t 0 = true ∧
        (n < 96 → (clu t (n / 12)).dist = true) ∧ (96 ≤ n → t.clus = s.clus) ∧ (∀ m, m ≠ n → chan t m = chan s m) ∧
        (flag s 0 = true → t.ldg = s.ldg) ∧ (flag s 0 = false → Records s t .chn 0x17 [BitVec.ofNat 32 n])) ∧
    ((∃ o ∈ y.overs, o.stop = none) →
      exec (.overloadEnd ch) s = .next { s with chs := s.chs.modify n fun c =>
        { c with overs := c.overs.map fun o => if o.stop = none then { o with stop := some s.clk.modtick } else o,
                 clamp := decide (n < 96), stuck := false } }) ∧
    (∀ u, y.clamp = true → (∀ o ∈ y.overs, o.stop ≠ none) → Reaches s u (overEnd y + 16) →
      exec (.integratorClampRelease ch) s = .next { u with chs := u.chs.modify n fun c => { c with clamp := false } }) ∧
    (∀ (k : ClusterId) (u : State) (m : Nat), (clu s k.val).dist = true → (∀ j < 12, ∀ o ∈ (chan s (12 * k.val + j)).overs, o.stop ≠ none) →
      (∀ j < 12, overEnd (chan s (12 * k.val + j)) ≤ m) → (∃ j < 12, overEnd (chan s (12 * k.val + j)) = m) → Reaches s u (m + 80) →
      Completes (exec (.clusterDisturbanceEnd k) s) fun t => (clu t k.val).dist = false ∧ (clu t k.val).dirty = false ∧ t.chs = u.chs) ∧
    (∀ pos, 96 ≤ n → chRuns s n = true → y.stuck = false →
      Completes (exec (.bsiStuck ch pos) s) fun t =>
        (chan t n).stuck = true ∧ flag t 1 = true ∧ (∃ o ∈ (chan t n).overs, o.stop = none) ∧ (∀ m, m ≠ n → chan t m = chan s m) ∧
        (flag s 1 = true → (∃ o ∈ y.overs, o.stop = none) → t.ldg = s.ldg)) ∧
    (∀ (u : State) (bs sp : List Bool), chRuns s n = true → bs.length = 64 → (spOn s n = true → sp.length = 64) → 189 ≤ 2 * y.fast.tf →
      Reaches s u (y.fast.tf + 64 * y.fast.n) →
      Completes (exec (.zeroCrossing ch 1 bs sp) s) fun t =>
        let f := y.fast
        let g := (chan t n).fast
        let en := y.cfg1.getLsbD 15
        let hyst : Int := bits y.cfg1 27 16
        t = { u with chs := u.chs.modify n fun c => { c with fast := g, zc := (chan t n).zc } } ∧ g.n = f.n + 1 ∧ g.tf = f.tf ∧
        (f.n < (f.first + 252) / 64 → g.value = f.value ∧ g.arm = f.arm ∧ (chan t n).zc = y.zc) ∧
        ((f.first + 252) / 64 ≤ f.n → ∃ (v : Int) (tag : Nat), g.value = some (v, tag) ∧ v.natAbs ≤ 32767 ∧
          (96 ≤ n → y.rlf = [] → v = max (-32767) (min 32767 ((20480 * bitSum sincFast 1 ((bs.reverse ++ f.bits).take 190) + 2 ^ 17) / 2 ^ 18))) ∧
          (en = false → g.arm = 0 ∧ (chan t n).zc = y.zc) ∧
          (en = true →
            (v < -hyst → g.arm = 1) ∧ (hyst < v → g.arm = 2) ∧
            (¬(f.arm = 1 ∧ 0 ≤ v) → ¬(f.arm = 2 ∧ v ≤ 0) → (chan t n).zc = y.zc ∧ (-hyst ≤ v → v ≤ hyst → g.arm = f.arm)) ∧
            ∀ f0 tag0, f.value = some (f0, tag0) → (f.arm = 1 ∧ f0 < 0 ∧ 0 ≤ v) ∨ (f.arm = 2 ∧ 0 < f0 ∧ v ≤ 0) →
              (-hyst ≤ v → v ≤ hyst → g.arm = 0) ∧
              ∃ z : Nat, (chan t n).zc.head? = some (decide (f0 < 0), z) ∧
                2 * (z : Int) * (f0 - v).natAbs ≤ (2 * (f.tf + 64 * (f.n - 1) : Nat) - 189) * (f0 - v).natAbs + 128 * f0.natAbs ∧
                (2 * (f.tf + 64 * (f.n - 1) : Nat) - 189) * (f0 - v).natAbs + 128 * f0.natAbs < 2 * ((z : Int) + 1) * (f0 - v).natAbs)))

/-- R83, R85, R87, R88 and R94; the filters' values are R75's (ChainOps), the detector's R94's (ChnUnit). -/
def Obligations.ChainOutputsFillBlocks : Prop :=
  ∀ (s : State) (ch : ChanId), s.chs.length = 128 → alive s = true →
    let n := ch.val
    let y := chan s n
    (∀ (u : State) (su : Bool) (bs : List Bool × List Bool),
      let p := pathOf y su
      let d := if su then 8 else dOf y.chain.preset
      chRuns s n = true → p.st ≠ 0 → p.wait = false → bs.1.length = d → (spOn s n = true → bs.2.length = d) → (su = true ∨ (chPreset y = y.chain.preset ∧ y.chain.preset ≤ 2)) → Reaches s u (p.t1 + d * p.n) →
      Completes (exec (.chainSampleOutput ch su bs) s) fun t =>
        (∀ m, m ≠ n → chan t m = chan s m) ∧
        (p.n < p.n0 → (pathOf (chan t n) su).n = p.n + 1 ∧ (streamOf (chan t n) su).blk = (streamOf y su).blk ∧
          (streamOf (chan t n) su).nextB = (streamOf y su).nextB) ∧
        (p.n0 ≤ p.n → p.ending = none →
          ((streamOf y su).blk.length < 15 → ∃ z, (streamOf (chan t n) su).blk = z :: (streamOf y su).blk ∧ (pathOf (chan t n) su).st = 2 ∧
            (streamOf (chan t n) su).nextB = (streamOf y su).nextB) ∧
          ((streamOf y su).blk.length = 15 → (streamOf (chan t n) su).blk = [] ∧
            (streamOf (chan t n) su).nextB = ((streamOf y su).nextB + 1) % 2 ^ 32))) ∧
    (∀ (u : State) (m : Nat), y.str.olds = [] → y.str.ended = some m → Reaches s u (m + retained y.chain.preset) →
      Completes (exec (.ringRelease ch) s) fun t =>
        (chan t n).str.words = 0 ∧ (chan t n).str.ended = none ∧ (chan t n).str.items = y.str.items.drop (y.str.items.length - 1) ∧
        (chan t n).str.base = y.str.base + (y.str.items.length - 1) ∧ (∀ j, j ≠ n → chan t j = chan s j)) ∧
    (∀ (u : State) (o : OldRing) (r : List OldRing), y.str.olds = o :: r → Reaches s u o.due →
      Completes (exec (.ringRelease ch) s) fun t =>
        (chan t n).str.olds = r ∧ (chan t n).str.words = y.str.words ∧ (chan t n).str.ended = y.str.ended ∧
        (chan t n).str.items = y.str.items.drop (o.upto - 1 - y.str.base) ∧ (∀ j, j ≠ n → chan t j = chan s j)) ∧
    (y.chain.st ≠ 0 → y.cfg2.getLsbD 31 = true → y.det.len ≤ y.det.xs.length →
      Completes (exec (.freqDetectorBlockEnd ch) s) fun t =>
        (chan t n).det.idx = y.det.idx + 1 ∧ (chan t n).det.xs.length = y.det.xs.length - y.det.len ∧
        ((chan t n).det.freq = bits y.cfg2 19 0 ∧ (chan t n).det.len = bits y.cfg3 17 0 + 1) ∧
        (y.str.blk ≠ [] → ∃ b, b.length = 16 ∧ (chan t n).det.out = y.det.out ++ [b] ∧ (chan t n).str = y.str) ∧
        (∀ j, j ≠ n → chan t j = chan s j))

/-- R368 to R376 and Tables 13.3 and 13.4. -/
def Obligations.AuxOperationsSetReturnAndClear : Prop :=
  ∀ (s : State) (c : CoreId) (rs : Reg) (x : Ctx) (ws : List Word),
    let u := issued s x rs
    let a := getG u x rs
    let w := rw ws 1
    let n := bits w 3 0
    let p := auxPair u n
    let only (f : Auxc → Auxc) : State := { u with aux := f u.aux }
    let pairs (f : Pair13 → Pair13) : State := only fun y => { y with pairs := y.pairs.modify n f }
    (Issues s c rs .aux .more 18 x ws →
      let m := bits w 4 0
      let good : Prop := w &&& 0xFFFF00E0 = 0 ∧ 1 ≤ m ∧ m ≤ 16 ∧
        ∀ i < 16, rw ws (2 + i) &&& 0xFFFFFF00 = 0 ∧ (m ≤ i → rw ws (2 + i) = 0) ∧ bits (rw ws (2 + i)) 7 4 + bits (rw ws (2 + i)) 3 0 ≤ 15
      (¬good → exec (.auxSeq c rs) s = declines u x 6) ∧
      (good → u.aux.calRun = true → exec (.auxSeq c rs) s = declines u x 1) ∧
      (good → u.aux.calRun = false → exec (.auxSeq c rs) s = .next (answers (only fun y => { y with newSeq := some ws }) x a []))) ∧
    (Issues s c rs .aux .more 3 x ws →
      let good : Prop := w &&& 0xFFFFF0F0 = 0
      let near : Prop := ∃ t, u.aux.lastInj.getD n none = some t ∧ u.clk.ref < t + 480
      (¬good → exec (.auxInj c rs) s = declines u x 6) ∧
      (good → near → exec (.auxInj c rs) s = declines u x 1) ∧
      (good → ¬near → 16 ≤ u.aux.inj.length → exec (.auxInj c rs) s = declines u x 8) ∧
      (good → ¬near → u.aux.inj.length < 16 →
        exec (.auxInj c rs) s = .next (accepts (only fun y =>
          { y with inj := y.inj ++ [(bits w 11 8, n)], lastInj := y.lastInj.set n (some u.clk.ref)
                   aborts := if u.clk.t0.isSome ∧ y.inj = [] ∧ y.calRun = false ∧ y.idleUntil ≤ u.clk.ref then min 65535 (y.aborts + 1) else y.aborts })
          u x a .aux 1 ws none []))) ∧
    (Issues s c rs .aux .more 5 x ws →
      (¬(w &&& 0xFFFFFCF0 = 0 ∧ rw ws 3 &&& 0xFFFF0000 = 0) → exec (.auxAcc c rs) s = declines u x 6) ∧
      (w &&& 0xFFFFFCF0 = 0 → rw ws 3 &&& 0xFFFF0000 = 0 →
      (bound u n = false → exec (.auxAcc c rs) s = .next (answers (pairs fun q => { q with sum := 0, count := 0 }) x a
        [(1, w32 (n + 512 * b2n (decide (p.count = 0xFFFFFFFF)))), (2, w32 p.sum), (3, w32 (p.sum / 2 ^ 32 % 65536)), (4, w32 p.count)])) ∧
      (bound u n = true → exec (.auxAcc c rs) s = .next (answers u x a
        [(1, w32 (n + 256 + 512 * b2n (decide (p.take.2.1 = 0xFFFFFFFF)))), (2, w32 p.take.1), (3, w32 (p.take.1 / 2 ^ 32 % 65536)), (4, w32 p.take.2.1)])))) ∧
    (Issues s c rs .aux .more 4 x ws →
      (¬(w &&& 0xFFFFFCF0 = 0 ∧ rw ws 2 &&& 0xC000C000 = 0 ∧ rw ws 3 = 0) → exec (.auxTrk c rs) s = declines u x 6) ∧
      (¬(w &&& 0xFFFF30F0 = 0 ∧ rw ws 2 &&& 0xC000C000 = 0 ∧ rw ws 3 = 0) → exec (.auxWin c rs) s = declines u x 6) ∧
      (rw ws 3 = 0 →
      (w &&& 0xFFFFFCF0 = 0 → rw ws 2 &&& 0xC000C000 = 0 → bound u n = false → exec (.auxTrk c rs) s = .next (answers (pairs fun q => { q with mn := 16383, mx := 0 }) x a
        [(1, w32 (n + 512 * b2n (decide (p.mx < p.mn)))), (2, w32 (p.mn + 65536 * p.mx))])) ∧
      (w &&& 0xFFFFFCF0 = 0 → rw ws 2 &&& 0xC000C000 = 0 → bound u n = true → exec (.auxTrk c rs) s = .next (answers u x a
        [(1, w32 (n + 256 + 512 * b2n (decide (p.take.2.2.2 < p.take.2.2.1)))), (2, w32 (p.take.2.2.1 + 65536 * p.take.2.2.2))])) ∧
      (w &&& 0xFFFF30F0 = 0 → rw ws 2 &&& 0xC000C000 = 0 →
        (bits (rw ws 2) 29 16 < bits (rw ws 2) 13 0 → exec (.auxWin c rs) s = declines u x 6) ∧
        (bits (rw ws 2) 13 0 ≤ bits (rw ws 2) 29 16 →
          (bound u n = true → exec (.auxWin c rs) s = .next (answers (pairs fun q => { q with pend := some ws }) x a [])) ∧
          (bound u n = false → exec (.auxWin c rs) s = .next (answers
            (event (pairs fun q => { input := bits w 11 8, wen := w.getLsbD 15, qual := w.getLsbD 14, lo := bits (rw ws 2) 13 0, hi := bits (rw ws 2) 29 16,
                                     sum := 0, count := 0, mn := 16383, mx := 0, last := [], take := q.take, takePer := q.takePer, pend := none })
              .aux 0x55 [0xFFFFFFFF, 4, w32 n, crc32c (wordsBytes (ws.drop 1))]) x a [])))))) ∧
    (Issues s c rs .aux .more 2 x ws →
      (w &&& 0xFFFF0000 ≠ 0 → exec (.auxCal c rs) s = declines u x 6) ∧
      (w &&& 0xFFFF0000 = 0 → u.aux.calRun = true → exec (.auxCal c rs) s = declines u x 7) ∧
      (w &&& 0xFFFF0000 = 0 → u.aux.calRun = false → ¬Room u x .aux → exec (.auxCal c rs) s = declines u x 8) ∧
      (w &&& 0xFFFF0000 = 0 → u.aux.calRun = false → Room u x .aux → exec (.auxCal c rs) s = .next (accepts (only fun y => { y with calRun := true }) u x a .aux 5 ws none []))) ∧
    (Issues s c rs .aux .laneRead 4 x ws →
      (rw ws 3 &&& 0xFFFF0000 ≠ 0 → exec (.auxRdst c rs) s = declines u x 6) ∧
      (rw ws 3 &&& 0xFFFF0000 = 0 → exec (.auxRdst c rs) s = .next (answers u x a
        [(1, w32 (unsext 8 (u.aux.calTemp / 100) * 65536 + 32768 * b2n u.aux.calRun + 16384 * b2n (decide (u.aux.inj ≠ [])) + 256 * u.aux.inj.length + u.aux.seq.length)),
          (2, w32 (65536 * u.aux.aborts + min 65535 u.aux.cals)), (3, maskOf ((List.range 16).map (bound u)))])))

/-- R368 to R380; conversions come as commands with their codes (log 6, 32). -/
def Obligations.AuxConversionsFeedPairsBatchesAndMonitors : Prop :=
  let took (p q : Pair13) (c : Nat) : Prop :=
    let ok (v : Nat) : Prop := p.lo ≤ v ∧ v ≤ p.hi
    let adds (v : Nat) : Prop := q.count = p.count + 1 ∧ q.sum = (p.sum + v) % 2 ^ 48
    let still : Prop := q.count = p.count ∧ q.sum = p.sum
    q.mn = min p.mn c ∧ q.mx = max p.mx c ∧ q.input = p.input ∧ q.take = p.take ∧ q.takePer = p.takePer ∧
    (p.count = 0xFFFFFFFF → still) ∧
    (p.count ≠ 0xFFFFFFFF → p.qual = false → (p.wen = false ∨ ok c → adds c) ∧ (p.wen = true → ¬ok c → still)) ∧
    (p.count ≠ 0xFFFFFFFF → p.qual = true → ∀ b b0, p.last = [b, b0] → (ok b0 ∧ ok b ∧ ok c → adds b) ∧ (¬(ok b0 ∧ ok b ∧ ok c) → still))
  ∀ s : State, s.clk.powered = true → s.clk.refStable.isSome = true → s.aux.pairs.length = 16 → s.aux.ins.length = 16 → s.tmp.mons.length = 10 →
    let runs : Prop := frozen s = false ∧ s.clk.t0.isSome = true
    let sums (t u : State) (i c : Nat) : Prop := runs → now u / 8192 ≤ u.aux.batch →
      t.aux.ins.getD i (0, 0, 0, 0) = ((s.aux.ins.getD i (0, 0, 0, 0)).1 + c, (s.aux.ins.getD i (0, 0, 0, 0)).2.1 + 1, (s.aux.ins.getD i (0, 0, 0, 0)).2.2)
    (∀ (code p i : Nat) (rest : List (Nat × Nat)), s.aux.inj = (p, i) :: rest → p < 16 → i < 16 →
      Completes (exec (.auxConversionDone code) s) fun t =>
        t.aux.inj = rest ∧ (bound s p = true → t.aux.pairs = s.aux.pairs) ∧ (bound s p = false → took (auxPair s p) (auxPair t p) (code % 16384)) ∧
        (∀ m, m ≠ p → auxPair t m = auxPair s m) ∧ sums t s i (code % 16384) ∧ t = { s with aux := t.aux, posts := t.posts } ∧
        ∀ q qs, s.posts = q :: qs → q.unit = .aux → q.op = 1 → q.outcome = none →
          t.posts = { q with outcome := some 0, results := [(2, w32 (now s % 2 ^ 31 + 2 ^ 31 * b2n (bound s p)))] } :: qs) ∧
    (∀ (code : Nat) (u : State), s.aux.inj = [] → s.clk.t0.isSome = true → s.aux.calRun = false → ReachesRef s u s.aux.idleUntil →
      let c := code % 16384
      let sl := s.aux.seq.getD s.aux.slot (0, 0)
      let i := sl.2 + s.aux.turn % (sl.1 + 1)
      Completes (exec (.auxConversionDone code) s) fun t =>
        (∀ n < 16, ((auxPair s n).input = i → took (auxPair s n) (auxPair t n) c) ∧ ((auxPair s n).input ≠ i → auxPair t n = auxPair s n)) ∧
        (i < 16 → sums t u i c) ∧
        (s.aux.slot + 1 < s.aux.seq.length → t.aux.slot = s.aux.slot + 1 ∧ t.aux.turn = s.aux.turn ∧ t.aux.seq = s.aux.seq) ∧
        (s.aux.seq.length ≤ s.aux.slot + 1 → t.aux.slot = 0 ∧ t.aux.idleUntil = u.clk.ref + 24 * s.aux.pause ∧
          (s.aux.newSeq = none → t.aux.turn = s.aux.turn + 1 ∧ t.aux.seq = s.aux.seq) ∧
          (∀ ws, s.aux.newSeq = some ws → t.aux.turn = 0 ∧ t.aux.newSeq = none ∧ t.aux.pause = bits (rw ws 1) 15 8 ∧ t.aux.seq.length = bits (rw ws 1) 4 0 ∧
            ∀ j < bits (rw ws 1) 4 0, t.aux.seq.getD j (0, 0) = (bits (rw ws (2 + j)) 7 4, bits (rw ws (2 + j)) 3 0))) ∧
        (∀ m, m = 7 ∨ m = 8 →
          let y := mon s m
          let pos : Prop := c < bits y.limits 13 0 ∨ bits y.limits 29 16 < c
          (y.input ≠ i → mon t m = y) ∧
          (y.input = i → (mon t m).v1 = c ∧ (mon t m).lastSample = u.clk.ref ∧ (mon t m).d2 = y.d2 ∧
            (pos → (mon t m).n1 = y.n1 + 1 ∧ (mon t m).n2 = 0 ∧ ((mon t m).d1 = true ↔ y.d1 = true ∨ bits y.cfg 15 8 ≤ y.n1 + 1)) ∧
            (¬pos → (mon t m).n1 = 0 ∧ (mon t m).n2 = y.n2 + 1 ∧ ((mon t m).d1 = true ↔ y.d1 = true ∧ y.n2 + 1 < bits y.cfg 15 8))))) ∧
    (∀ (code t0 : Nat) (u : State), s.clk.t0 = some t0 → ReachesRef s u (t0 + 6144 * s.aux.nextDie) →
      Completes (exec (.auxDieConversion code) s) fun t =>
        t = { u with aux := t.aux } ∧ t.aux.nextDie = s.aux.nextDie + 1 ∧ t.aux.pairs = s.aux.pairs ∧
        (frozen s = true → t.aux.dieSum = s.aux.dieSum ∧ t.aux.dieN = s.aux.dieN) ∧
        (frozen s = false → now u / 8192 ≤ s.aux.batch → t.aux.dieSum = s.aux.dieSum + Config.dieTemp (code % 16384) ∧ t.aux.dieN = s.aux.dieN + 1)) ∧
    (s.clk.t0.isSome = true →
      let d := if s.aux.dieN = 0 then s.aux.die else s.aux.dieSum / s.aux.dieN
      (s.aux.calRun = false → 800 ≤ (d - s.aux.calTemp).natAbs → exec .auxCalDue s = .next { s with aux := { s.aux with calRun := true } }) ∧
      (s.aux.calRun = true ∨ (d - s.aux.calTemp).natAbs < 800 → exec .auxCalDue s = .next s) ∧
      ∀ inRange gain, s.aux.calRun = true →
        Completes (exec (.auxCalibrationDone inRange gain) s) fun t =>
          t.aux = { s.aux with calRun := false, calTemp := d, cals := min 65535 (s.aux.cals + 1) } ∧
          (inRange = true → t.ldg = s.ldg) ∧ (inRange = false → Recorded s t .aux 0x54 [0xFFFFFFFF, if gain then 1 else 0, i32 d]) ∧
          ∀ q qs, s.posts = q :: qs → q.unit = .aux → q.op = 5 → q.outcome = none →
            t.posts = { q with outcome := some 0, results := [(1, w32 (min 65535 (s.aux.cals + 1)))] } :: qs) ∧
    (∀ u, runs → Reaches s u (8192 * (s.aux.batch + 1)) → now u < 8192 * (s.aux.batch + 2) → calGen s = s.aux.gen → s.aux.pend = none → s.aux.recs.length = 16 →
      Completes (exec .auxBatchHandover s) fun t =>
        t = { u with aux := t.aux } ∧ t.aux.batch = s.aux.batch + 1 ∧ t.aux.dieSum = 0 ∧ t.aux.dieN = 0 ∧
        ∃ vs, t.aux.temps.head? = some (s.aux.batch, (if s.aux.dieN = 0 then s.aux.die else s.aux.dieSum / s.aux.dieN) :: vs) ∧ vs.length = 16 ∧
          ∀ i < 16,
            let r := s.aux.recs.getD i (0, 0)
            let y := s.aux.ins.getD i (0, 0, 0, 0)
            let raw : Int := ((16 * y.1 : Nat) - (bits r.2 18 0 * y.2.1 : Nat) : Int) * r.1.toInt / (y.2.1 * 2 ^ 20 : Nat)
            (bits r.2 31 30 ≠ 1 → vs.getD i 0 = -32768) ∧
            (bits r.2 31 30 = 1 → 0 < y.2.1 → vs.getD i 0 = max (-32768) (min 32767 raw) ∧ t.aux.ins.getD i (0, 0, 0, 0) = (0, 0, vs.getD i 0, 0)) ∧
            (bits r.2 31 30 = 1 → y.2.1 = 0 → vs.getD i 0 = if 7 ≤ y.2.2.2 then -32768 else y.2.2.1)) ∧
    (∀ (r : RelayId) (t0 : Nat) (u : State), alive s = true → s.clk.t0 = some t0 → s.rly.length = 32 → (rel s r.val).pilotEn = true → (rel s r.val).pilotAcc < 16 →
      (auxPair s (rel s r.val).pilotAcc).pend = none → ReachesRef s u (t0 + 24000 * ((rel s r.val).pilotPer + 1)) →
      Completes (exec (.pilotPeriodEnd r) s) fun t =>
        let n := (rel s r.val).pilotAcc
        let p := auxPair s n
        let k := (u.clk.ref - t0) / 24000
        let v := if p.takePer = k then p.take else (p.sum, p.count, p.mn, p.mx)
        auxPair t n = (if p.takePer = k then p else { p with take := v, takePer := k, sum := 0, count := 0, mn := 16383, mx := 0 }) ∧
        (∀ m, m ≠ n → auxPair t m = auxPair s m) ∧ (rel t r.val).pilotPer = k ∧ (rel t r.val).pilotSkip = false ∧
        ((rel s r.val).pilotSkip = true → (rel t r.val).pilot = (rel s r.val).pilot) ∧
        ((rel s r.val).pilotSkip = false → v.2.1 = 0 → v.2.2.2 < v.2.2.1 → (rel t r.val).pilot = 7))

/-- R352 to R354, R364 and Tables 12.3, 12.9, 12.10; the entries' bytes are the next statement's. -/
def Obligations.TamperOperationsConfigureReadAndAcknowledge : Prop :=
  ∀ (s : State) (c : CoreId) (rs : Reg) (x : Ctx) (ws : List Word), s.tmp.mons.length = 10 →
    let u := issued s x rs
    let a := getG u x rs
    let w := rw ws 1
    let m := bits w 3 0
    let y := mon u m
    let others (t : State) : Prop := ∀ k, k ≠ m → mon t k = mon u k
    let put (f : Monitor → Monitor) : State := { u with tmp := { u.tmp with mons := u.tmp.mons.modify m f } }
    (Issues s c rs .tmp .more 6 x ws →
      let cfg := rw ws 2
      let lim := rw ws 4
      let lims : Prop := m = 0 ∨ m = 4 ∨ m = 7 ∨ m = 8
      let val (v : Nat) : Int := if m = 4 then sext 14 v else v
      let good : Prop := w &&& 0xFFFFFFF0 = 0 ∧ cfg &&& 0x0F000000 = 0 ∧ rw ws 3 &&& 0xFFFFFFF0 = 0 ∧ lim &&& 0xC000C000 = 0 ∧ rw ws 5 = 0 ∧ m ≤ 9 ∧
        bits cfg 29 28 ≠ 3 ∧ bits cfg 15 8 ≠ 0 ∧ bits cfg 23 16 ≠ 0 ∧ bits cfg 7 0 ≠ 0 ∧ (m = 9 → cfg.getLsbD 31 = true ∧ cfg.getLsbD 30 = false) ∧
        (¬lims → lim = 0) ∧ (m ≠ 7 → m ≠ 8 → rw ws 3 = 0) ∧ (lims → val (bits lim 13 0) ≤ val (bits lim 29 16))
      let weaker (o : Monitor) : Prop := (o.cfg.getLsbD 31 = true ∧ cfg.getLsbD 31 = false) ∨ (o.cfg.getLsbD 30 = false ∧ cfg.getLsbD 30 = true) ∨
        bits cfg 29 28 < bits o.cfg 29 28 ∨ bits o.cfg 15 8 < bits cfg 15 8 ∨ bits o.cfg 23 16 < bits cfg 23 16 ∨ bits o.cfg 7 0 < bits cfg 7 0 ∨
        val (bits lim 13 0) < val (bits o.limits 13 0) ∨ val (bits o.limits 29 16) < val (bits lim 29 16)
      let order : Prop := if 5 ≤ lcState u then y.cfgDone = true ∨ weaker (Tmp.zero.mons.getD m default)
        else weaker y ∧ y.cfgDone = true ∧ ¬(u.clk.mode = 4 ∧ makerOrRepair u = true)
      let on : Prop := cfg.getLsbD 31 = true ∧ (if cfg.getLsbD 30 then y.d1 = true ∧ y.d2 = true else y.d1 = true ∨ y.d2 = true)
      let b := tmpEntry (put fun z => { z with cfg := cfg, limits := lim, input := (rw ws 3).toNat, cfgDone := true }) 5 m 0 0 false false
        (y.cfg.toNat + 2 ^ 32 * cfg.toNat)
      (¬good → exec (.tmpCfg c rs) s = declines u x 6) ∧
      (good → order → exec (.tmpCfg c rs) s =
        .next (wrote (if 5 ≤ lcState u then put fun z => { z with cfgDone := true } else u) x 1 7)) ∧
      (good → ¬order →
        (y.st ≠ 1 → ¬on → exec (.tmpCfg c rs) s = .next (answers b x a [])) ∧
        (y.st = 1 → on → bits cfg 29 28 ≤ y.resp → exec (.tmpCfg c rs) s = .next (answers b x a [])) ∧
        Completes (exec (.tmpCfg c rs) s) fun t =>
          (mon t m).cfg = cfg ∧ (mon t m).limits = lim ∧ (mon t m).input = (rw ws 3).toNat ∧ (mon t m).cfgDone = true ∧ others t ∧
          (y.st = 1 → on → y.resp < bits cfg 29 28 → (mon t m).resp = bits cfg 29 28 ∧ (mon t m).st = 1 ∧ (mon t m).alarms = y.alarms ∧ t.tmp.mark = true) ∧
          (y.st ≠ 1 → on → (mon t m).st = 1 ∧ (mon t m).alarms = min 65535 (y.alarms + 1)) ∧
          (y.st = 1 → ¬on → (mon t m).st = if y.resp = 0 then 0 else 2))) ∧
    (Issues s c rs .tmp .read 8 x ws →
      (w &&& 0xFFFFFFF0 ≠ 0 ∨ 9 < m ∨ rw ws 7 &&& 0x2000 ≠ 0 → exec (.tmpRdst c rs) s = declines u x 6) ∧
      (w &&& 0xFFFFFFF0 = 0 → m ≤ 9 → rw ws 7 &&& 0x2000 = 0 → exec (.tmpRdst c rs) s = .next (answers u x a
        [(2, w32 (16384 * y.st + 4096 * y.resp + 2048 * b2n y.dis + 1024 * b2n y.d2 + 512 * b2n y.d1 + 256 * b2n y.cfgDone + y.reason)), (3, y.cfg),
          (4, y.limits ||| w32 (y.input / 4 * 2 ^ 30 + y.input % 4 * 2 ^ 14)), (5, w32 (65536 * y.disagrees + y.alarms)), (6, w32 u.tmp.next),
          (7, w32 (65536 * u.tmp.collapsed + 32768 * b2n u.tmp.mark + 16384 * b2n u.tmp.logpress + (u.tmp.next - u.tmp.sealedTo)))]))) ∧
    (Issues s c rs .tmp .read 11 x ws →
      (rw ws 10 &&& 0xFFFFFFFC ≠ 0 ∨ u.tmp.ring.find? (fun e => e.eseq == w.toNat) = none → exec (.tmpLogrd c rs) s = declines u x 6) ∧
      (∀ e, rw ws 10 &&& 0xFFFFFFFC = 0 → u.tmp.ring.find? (fun e => e.eseq == w.toNat) = some e →
        exec (.tmpLogrd c rs) s = .next (answers u x a (((List.range 8).map fun i => (2 + i, w32 (fld (4 * i) 4 e.bytes))) ++
          [(10, w32 (2 * b2n (tagOk u e) + b2n (decide (e.eseq < u.tmp.sealedTo))))])) ∧
        ∀ k, u.key.ks.getD 3 none = some k → tagOk u e = (slice 24 8 e.bytes == (hmac k (e.bytes.take 24)).take 8))) ∧
    (Issues s c rs .tmp .more 2 x ws →
      let good : Prop := w &&& 0xFFFF00F0 = 0 ∧ m ≤ 9 ∧ bits w 15 8 ≤ 5
      let b := tmpEntry (put fun z => { z with st := 0, resp := 0 }) 4 m (bits w 15 8) 0 false false 2
      let still : Bool := b.tmp.mons.any fun z => z.st != 0 && z.resp != 0
      (¬good → exec (.tmpAck c rs) s = declines u x 6) ∧
      (good → y.st ≠ 2 ∨ y.resp = 2 → exec (.tmpAck c rs) s = declines u x 7) ∧
      (good → y.st = 2 → y.resp ≠ 2 →
        (still = u.tmp.mark → exec (.tmpAck c rs) s = .next (answers b x a [])) ∧
        (still ≠ u.tmp.mark → exec (.tmpAck c rs) s =
          .next (answers (event { b with tmp := { b.tmp with mark := still } } .tmp 0x50 [w32 m, w32 u.tmp.next]) x a []))))

/-- R347 to R352, R355 to R361; time stands at the events' instants (log 6). -/
def Obligations.TamperEventsTakeAlarmsAndFormEntries : Prop :=
  (∀ (s : State) (kind src reason resp data : Nat) (d1 d2 : Bool) (k : List Byte),
    s.tmp.next - s.tmp.sealedTo < 4095 → s.tmp.staging = [] → frozen s = false → s.key.ks.getD 3 none = some k →
    let sub := if s.tmp.lastRef = s.clk.ref + 1 then s.tmp.lastSub + 1 else 0
    let fl := resp % 4 + 4 * b2n d1 + 8 * b2n d2 + 16 * b2n s.key.test + 64 * b2n (decide (5 ≤ lcState s))
    let b := le 4 s.tmp.next ++ [BitVec.ofNat 8 kind, BitVec.ofNat 8 src, BitVec.ofNat 8 sub, BitVec.ofNat 8 fl] ++ le 6 s.bk.rtc ++ le 2 reason ++ le 8 data
    let t := tmpEntry s kind src reason resp d1 d2 data
    t.tmp.next = s.tmp.next + 1 ∧ t.tmp.staging = [] ∧
    t.tmp.ring.getLast? = some { eseq := s.tmp.next, bytes := b ++ (hmac k b).take 8, tagged := true, born := s.clk.ref }) ∧
  (∀ (s : State) (kind src reason resp data : Nat) (d1 d2 : Bool), 4095 ≤ s.tmp.next - s.tmp.sealedTo →
    let t := tmpEntry s kind src reason resp d1 d2 data
    t.tmp.next = s.tmp.next ∧ t.tmp.ring = s.tmp.ring ∧ t.tmp.logpress = true ∧ t.tmp.collapsed = min 65535 (s.tmp.collapsed + 1) ∧
    ∃ p, t.tmp.press = some p ∧ (s.tmp.press = none → p.rtc = s.bk.rtc ∧ p.resp = resp ∧ (src = 0xFF → p.others = 1) ∧ (src < 10 → p.counts.getD src 0 = 1)) ∧
      ∀ p0, s.tmp.press = some p0 → p.rtc = p0.rtc ∧ p.resp = max p0.resp resp ∧ (src = 0xFF → p.others = min 255 (p0.others + 1)) ∧
        (src < 10 → p0.counts.length = 10 → p.counts.getD src 0 = min 255 (p0.counts.getD src 0 + 1))) ∧
  (∀ s : State, s.clk.powered = true → s.clk.t0.isSome = true → s.tmp.mons.length = 10 →
    (∀ (v : Nat) (agree : Bool), s.tmp.notes.length < bits (mon s 9).cfg 23 16 → exec (.detectorAssert 9 true v agree) s = .next s) ∧
    (∀ (m : MonitorId) (d2 : Bool) (v : Nat) (agree : Bool), (m.val = 9 → d2 = true → bits (mon s 9).cfg 23 16 ≤ s.tmp.notes.length) → s.tmp.eraseWait = none →
      let y := mon s m.val
      let on : Prop := y.cfg.getLsbD 31 = true ∧ (y.cfg.getLsbD 30 = true → if d2 then y.d1 = true else y.d2 = true)
      Completes (exec (.detectorAssert m d2 v agree) s) fun t =>
        (if d2 then (mon t m.val).d2 = true ∧ ((mon t m.val).v2 = v ∨ m.val = 9) else (mon t m.val).d1 = true ∧ ((mon t m.val).v1 = v ∨ m.val = 9)) ∧
        (on → y.st ≠ 1 →
          (mon t m.val).st = 1 ∧ (mon t m.val).resp = max (if y.st = 0 then 0 else y.resp) (bits y.cfg 29 28) ∧
          (mon t m.val).alarms = min 65535 (y.alarms + 1) ∧ (mon t m.val).start = s.clk.ref ∧ t.legal.ctl.evpend.getLsbD 9 = true ∧
          (bits y.cfg 29 28 ≠ 0 → t.tmp.mark = true) ∧
          (bits y.cfg 29 28 = 2 → s.key.scuttle = 0 → agree = true → t.key.scuttle = 0xFFFFFFFF ∧ t.tmp.eraseWait = none) ∧
          (bits y.cfg 29 28 = 2 → s.key.scuttle = 0 → agree = false → t.key.scuttle = 0 ∧ t.tmp.eraseWait = some (s.clk.ref + 2400)) ∧
          (bits y.cfg 29 28 < 2 → t.key = s.key ∧ ∀ k, k ≠ m.val → mon t k = mon s k)) ∧
        (¬on → y.st ≠ 1 → (mon t m.val).st = y.st ∧ (mon t m.val).alarms = y.alarms ∧ t = { s with tmp := { s.tmp with mons := t.tmp.mons } } ∧
          ∀ k, k ≠ m.val → mon t k = mon s k) ∧
        (on → y.st = 1 → (mon t m.val).alarms = y.alarms ∧ (mon t m.val).st = 1)) ∧
    (∀ (u : State) (m : MonitorId) (d2 : Bool),
      ReachesRef s u (if m.val = 9 ∧ d2 = true then (s.tmp.notes.map fun t => t + 24000000).foldl max s.clk.ref else s.clk.ref) →
      let y := mon u m.val
      let on : Prop := y.cfg.getLsbD 31 = true ∧ y.cfg.getLsbD 30 = false ∧ if d2 then y.d1 = true else y.d2 = true
      Completes (exec (.detectorDeassert m d2) s) fun t =>
        (if d2 then (mon t m.val).d2 = false else (mon t m.val).d1 = false) ∧
        (¬on → y.st = 1 → (mon t m.val).st = (if y.resp = 0 then 0 else 2) ∧ t.legal.ctl.evpend.getLsbD 9 = true ∧ t.tmp.mark = u.tmp.mark) ∧
        (¬on → y.st ≠ 1 → (mon t m.val).st = y.st ∧ t.tmp.next = u.tmp.next) ∧ (∀ k, k ≠ m.val → mon t k = mon u k)) ∧
    (∀ (u : State) (m : MonitorId), m.val = 7 ∨ m.val = 8 → (mon s m.val).d1 = false → (mon s m.val).st = 0 → (mon s m.val).cfg.getLsbD 31 = true →
      (mon s m.val).cfg.getLsbD 30 = false → ReachesRef s u ((mon s m.val).lastSample + 240000) →
      Completes (exec (.detectorNoSample m false) s) fun t =>
        (mon t m.val).d1 = true ∧ (mon t m.val).st = 1 ∧ (mon t m.val).reason = 5 ∧ (mon t m.val).alarms = min 65535 ((mon s m.val).alarms + 1)) ∧
    (∀ (u : State) (m : MonitorId) (d2 : Bool) (t1 : Nat),
      let y := mon s m.val
      m.val ≠ 9 → y.disSince = some t1 → y.cfg.getLsbD 31 = true → y.dis = false → (if d2 then y.d2 = true else y.d1 = true) →
      ReachesRef s u (t1 + 24000 * bits y.cfg 7 0) →
      Completes (exec (.detectorDisagree m d2) s) fun t =>
        mon t m.val = { y with dis := true, disagrees := min 65535 (y.disagrees + 1) } ∧ (∀ k, k ≠ m.val → mon t k = mon s k) ∧
        t.legal.ctl.evpend.getLsbD 9 = true ∧ t.key = u.key ∧
        (s.tmp.next - s.tmp.sealedTo < 4095 → s.tmp.staging.length < 32 → t.tmp.next = s.tmp.next + 1)) ∧
    (∀ (d2 : Bool), (exec (.detectorDisagree 9 d2) s) = .next s) ∧
    (∀ (u : State) (t1 : Nat) (agree : Bool), s.tmp.eraseWait = some t1 → ReachesRef s u t1 →
      let stands : Prop := ∃ m < 10, (mon s m).st = 1 ∧ (mon s m).resp = 2
      Completes (exec (.eraseDecisionRetry agree) s) fun t =>
        (stands → s.key.scuttle = 0 → agree = true → t.key.scuttle = 0xFFFFFFFF ∧ t.tmp.eraseWait = none) ∧
        (stands → agree = false → t.key.scuttle = s.key.scuttle ∧ t.tmp.eraseWait = some (u.clk.ref + 2400)) ∧
        (¬stands → t = { u with tmp := { u.tmp with eraseWait := none } })) ∧
    (∀ (u : State) (e : Strand), s.tmp.ring.find? (fun e => decide (s.tmp.handed ≤ e.eseq)) = some e → alive s = true → e.eseq < s.tmp.handed + 3 →
      ReachesRef s u (e.born + 24000000) → ¬(ldgFree s < 128) →
      Completes (exec .strandlineHandoverTimeout s) fun t =>
        let es := s.tmp.ring.filter fun e => decide (s.tmp.handed ≤ e.eseq) && decide (e.eseq < s.tmp.handed + 3)
        t.tmp.handed = s.tmp.handed + es.length ∧ t.tmp.ring = s.tmp.ring ∧ t.ldg = (ldgGroup u 7 false (es.map (·.eseq)) [es.flatMap (·.bytes)]).ldg) ∧
    (∀ asserted, s.clk.tmpChecked = false → (∀ d ∈ asserted, d.1 < 20) →
      Completes (exec (.tmpStartupCheckDone asserted) s) fun t =>
        t.clk.tmpChecked = true ∧ ∀ d ∈ asserted, if d.1 % 2 = 1 then (mon t (d.1 / 2)).d2 = true else (mon t (d.1 / 2)).d1 = true))

/-- Table 7.2, R204, R205 and R210; `more` are frames that a fault forwards SINGLE (R207 step 3). -/
def Obligations.PairForwardsEachSequenceOnce : Prop :=
  ∀ (s : State) (l : LaneId), alive s = true → s.pair.pts.length = 32 →
    let o := otherLane l
    let able (k : LaneId) : Prop := (pl s k).st = 1 ∨ (pl s k).st = 2 ∨ (pl s k).st = 5
    let sent (t : State) (e : List (List Byte × Nat)) : Prop := ∃ more, t.pair.bilIn = s.pair.bilIn ++ e ++ more ∧ ∀ q ∈ more, q.2 = 1
    let faulted (t : State) (k : LaneId) (cause : Nat) : Prop :=
      ((pl t k).st = 3 ∨ (pl t k).st = 6 ∨ (pl t k).st = 7) ∧ (pl t k).cause = cause ∧ (lane t k).running = false ∧ (pl t k).inbuf = [] ∧
        (pl t k).faults.head? = some (now s)
    (∀ (f : List Byte) (rest : List (List Byte)), (pl s l).inbuf = f :: rest →
      let mp := frMp f
      let p := s.pair.pts.getD mp PPoint.zero
      let q (t : State) := t.pair.pts.getD mp PPoint.zero
      let fresh : Prop := p.last = none ∨ (∃ n, p.last = some n ∧ (later 32 (frSeq f) n = true ∨ (p.mark = true ∧ frFirst f = true)))
      let good : Prop := frKind f < 2 ∧ mpDefined s mp = true ∧ lagging s l f = false
      (s.pair.bilIn.length < 128 → 2 ≤ frKind f ∨ mpDefined s mp = false → able l ∨ (pl s l).st = 7 →
        Completes (exec (.pairFrameArrival l) s) fun t => faulted t l 10 ∧ sent t []) ∧
      (good → p.held = none → fresh → able o → s.pair.bilIn.length ≤ 128 →
        Completes (exec (.pairFrameArrival l) s) fun t =>
          (q t).held = some { frame := f, lane := l, opened := s.clk.sysRef } ∧ t.pair.bilIn = s.pair.bilIn ∧ (q t).last = p.last ∧ (pl t l).inbuf = rest) ∧
      (good → p.held = none → fresh → ¬able o → 128 ≤ s.pair.bilIn.length → exec (.pairFrameArrival l) s = .next s) ∧
      (good → p.held = none → fresh → ¬able o → s.pair.bilIn.length < 128 →
        Completes (exec (.pairFrameArrival l) s) fun t =>
          t.pair.bilIn = s.pair.bilIn ++ [(f, 1)] ∧ (q t).last = some (frSeq f) ∧ (q t).hist.head? = some (frSeq f, frCrc f) ∧
          t.pair.single = min (2 ^ 32 - 1) (s.pair.single + 1) ∧ (pl t l).inbuf = rest) ∧
      (good → p.held = none → ¬fresh → (p.hist.find? fun x => x.1 == frSeq f) = none ∨ (p.hist.find? fun x => x.1 == frSeq f) = some (frSeq f, frCrc f) → s.pair.bilIn.length ≤ 128 →
        Completes (exec (.pairFrameArrival l) s) fun t =>
          t.pair.bilIn = s.pair.bilIn ∧ t.pair.replay = min 0xFFFFFFFF (s.pair.replay + 1) ∧ (q t).last = p.last ∧ (pl t l).inbuf = rest) ∧
      (∀ h, good → p.held = some h → h.lane = o → frSeq h.frame = frSeq f → frMp h.frame = mp → s.clk.sysRef < h.opened + 6000 → s.pair.bilIn.length < 128 →
        let a := if l = s.pair.active then f else h.frame
        (frCrc f = frCrc h.frame → (pl s o).st ≠ 5 → (pl s l).st ≠ 5 →
          Completes (exec (.pairFrameArrival l) s) fun t =>
            t.pair.bilIn = s.pair.bilIn ++ [(h.frame, 0)] ∧ (q t).last = some (frSeq f) ∧ (q t).held = none ∧ t.pair.single = s.pair.single) ∧
        (frCrc f ≠ frCrc h.frame → (s.pair.active = l ∨ s.pair.active = o) → (pl s s.pair.active).st = 1 → (pl s (otherLane s.pair.active)).st = 2 →
          Completes (exec (.pairFrameArrival l) s) fun t =>
            sent t [(a, 2)] ∧ t.pair.disagree = min (2 ^ 32 - 1) (s.pair.disagree + 1) ∧
            ((pl s (otherLane s.pair.active)).probation = none → t.pair.active = s.pair.active ∧ faulted t (otherLane s.pair.active) 5) ∧
            ((pl s (otherLane s.pair.active)).probation.isSome → t.pair.active = otherLane s.pair.active ∧ (pl t t.pair.active).st = 1 ∧
              faulted t s.pair.active 6)) ∧
        (frCrc f ≠ frCrc h.frame → (pl s s.pair.active).st = 1 → (pl s (otherLane s.pair.active)).st = 5 →
          Completes (exec (.pairFrameArrival l) s) fun t =>
            sent t [(a, 1)] ∧ t.pair.disagree = s.pair.disagree ∧ faulted t (otherLane s.pair.active) 7))) ∧
    (∀ (mp : PointId) (h : Held) (u : State), (s.pair.pts.getD mp.val PPoint.zero).held = some h → frMp h.frame = mp.val → s.pair.xtab = [] → s.pair.bilIn.length < 128 →
      ReachesRef s u (s.clk.ref + (h.opened + 6000 - s.clk.sysRef)) →
      Completes (exec (.pairingWindowEnd mp) s) fun t =>
        (t.pair.pts.getD mp.val PPoint.zero).held = none ∧
        ((pl s h.lane).st ≠ 5 → t.pair.bilIn = s.pair.bilIn ++ [(h.frame, 1)]) ∧ ((pl s h.lane).st = 5 → t.pair.bilIn = s.pair.bilIn)) ∧
    (∀ (f : List Byte) (rest : List (List Byte)), (pl s l).xbuf = f :: rest →
      let twin := s.pair.xtab.find? fun h => h.frame.take 5 == f.take 5 && h.lane != l
      (twin = none → s.pair.xdone.contains (f.take 5) = false → able o → s.pair.xtab.length < 32 →
        exec (.extFrameArrival l) s = .next
          (let t := modPl s l fun p => { p with xbuf := rest }
           { t with pair := { t.pair with xtab := s.pair.xtab ++ [{ frame := f, lane := l, opened := s.clk.sysRef }] } })) ∧
      (twin = none → s.pair.xdone.contains (f.take 5) = true →
        exec (.extFrameArrival l) s = .next (modPl s l fun p => { p with xbuf := rest })) ∧
      (∀ h, twin = some h → s.clk.sysRef < h.opened + 6000 → frCrc f = frCrc h.frame →
        Completes (exec (.extFrameArrival l) s) fun t =>
          (pl t l).xbuf = rest ∧ t.pair.bilIn = s.pair.bilIn ∧ t.pair.toHead = some (if l = s.pair.active then f else h.frame, 0) ∧ t.pair.xdone.head? = some (f.take 5) ∧ t.pair.xtab = s.pair.xtab.filter fun x => x.frame.take 5 != (if l = s.pair.active then f else h.frame).take 5) ∧
      (∀ h, twin = some h → s.clk.sysRef < h.opened + 6000 → frCrc f ≠ frCrc h.frame → 6 ≤ frKind f →
        Completes (exec (.extFrameArrival l) s) fun t =>
          t.pair.bilIn = s.pair.bilIn ∧ t.pair.toHead = some (if l = s.pair.active then f else h.frame, 2) ∧ t.pair.xdisagree = min 65535 (s.pair.xdisagree + 1) ∧ t.pair.disagree = s.pair.disagree ∧
          (pl t l).st = (pl s l).st ∧ (pl t o).st = (pl s o).st) ∧
      Completes (exec (.extFrameArrival l) s) fun t =>
        ∃ more, t.pair.bilIn = s.pair.bilIn ++ more ∧ ∀ q ∈ more, q.2 = 1 ∧ ∃ p ∈ s.pair.pts, ∃ h, p.held = some h ∧ h.frame = q.1)

/-- R206 to R227; the events stand for their instants (log 6). -/
def Obligations.LanesFaultRestartAndRejoin : Prop :=
  let recent (u : State) (l : LaneId) : List Nat := (pl u l).faults.filter fun t => decide (now u < t + 345600000000)
  let faulted (u t : State) (l : LaneId) (cause : Nat) : Prop :=
    let o := otherLane l
    let twice : Prop := (pl u l).st = 1 ∧ (pl u o).st = 3 ∧ (pl u o).faultAt = some u.clk.sys
    let sole : Prop := (pl u l).st = 7 ∨ ((pl u l).st = 1 ∧ ((pl u o).st = 6 ∨ (pl u o).st = 0)) ∨ twice
    (lane t l).running = false ∧ (pl t l).inbuf = [] ∧ (pl t l).xbuf = [] ∧ (pl t l).cause = cause ∧ (pl t l).faults = now u :: recent u l ∧
    (sole → (pl t l).st = 7) ∧ (¬sole → 8 ≤ (recent u l).length → (pl t l).st = 6) ∧ (¬sole → (recent u l).length < 8 → (pl t l).st = 3) ∧
    ((pl u l).st = 1 → (pl u o).st = 2 ∨ (pl u o).st = 5 → (pl t o).st = 1 ∧ t.pair.active = o) ∧
    ((pl u l).st = 1 → (pl u o).st = 3 ∨ (pl u o).st = 4 → ¬twice → (pl t o).st = 7 ∧ t.pair.active = o ∧ t.pair.snap = none) ∧
    ((pl u l).st ≠ 1 → (pl t o).st = (pl u o).st ∧ t.pair.active = u.pair.active) ∧
    t.pair.lastFault = w32 (laneNo l + 256 * cause) ∧ t.legal.ctl.evpend.getLsbD 3 = true
  let active (u : State) (l : LaneId) : Prop := (pl u l).st = 1 ∨ (pl u l).st = 2 ∨ (pl u l).st = 5 ∨ (pl u l).st = 7
  let resumes (p q : Prog) : Prop := p.pts = q.pts ∧ p.batch = q.batch ∧ p.use = q.use ∧ p.catchUp = true ∧ (∀ w ∈ p.wins, w.start = none) ∧ ∀ w ∈ p.swins, w.win = none
  (∀ (s : State) (l : LaneId), alive s = true → s.pair.pts.length = 32 →
    let o := otherLane l
    (active s l → Completes (exec (.laneClockFault l) s) fun t => faulted s t l 4) ∧
    (∀ u, active s l → (pl s l).st ≠ 7 → (pl s o).st = 1 ∨ (pl s o).st = 2 ∨ (pl s o).st = 5 → Reaches s u ((pl s l).lastMark + 32000) →
      ((∃ m, (pl s o).marked = some m ∧ now u < m + 32000) → Completes (exec (.laneSilenceTimeout l) s) fun t => faulted u t l 2) ∧
      ((∀ m, (pl s o).marked = some m → m + 32000 ≤ now u) → exec (.laneSilenceTimeout l) s = .next u)) ∧
    (∀ (u : State) (m : Nat), (pl s l).st = 5 → (pl s l).joinDead = some m → Reaches s u m →
      Completes (exec (.joinTimeout l) s) fun t => faulted u t l 7) ∧
    (∀ (u : State) (m : Nat), (pl s l).probation = some m → Reaches s u m →
      exec (.probationEnd l) s = .next (modPl u l fun p => { p with probation := none })) ∧
    (s.clk.fallback = none → (pl s l).st = 3 → (pl s l).reloadBad = false →
      (measureImage s 0 = dirMeasure s 0 → Completes (exec (.laneReloadDone l) s) fun t => (pl t l).st = 4 ∧ (pl t o) = (pl s o) ∧ t.mram = s.mram) ∧
      (measureImage s 0 ≠ dirMeasure s 0 →
        Completes (exec (.laneReloadDone l) s) fun t => (pl t l).st = 6 ∧ (pl t l).cause = 9 ∧ t.pair.lastFault = w32 (laneNo l + 256 * 9))) ∧
    (s.clk.fallback = none → (pl s l).st = 7 → (pl s l).reload = true →
      ((pl s l).reloadBad = false → measureImage s 0 = dirMeasure s 0 →
        Completes (exec (.laneReloadDone l) s) fun t => (pl t l).st = 7 ∧ (pl t l).reload = false) ∧
      ((pl s l).reloadBad = false → measureImage s 0 ≠ dirMeasure s 0 →
        Completes (exec (.laneReloadDone l) s) fun t => (pl t l).st = 7 ∧ (pl t l).reload = true ∧ (pl t l).reloadBad = true ∧ (pl t l).reloadAt = now s) ∧
      (∀ u, (pl s l).reloadBad = true → Reaches s u ((pl s l).reloadAt + 12000) →
        (measureImage s 0 = dirMeasure s 0 → Completes (exec (.laneReloadRetry l) s) fun t => (pl t l).st = 7 ∧ (pl t l).reload = false) ∧
        (measureImage s 0 ≠ dirMeasure s 0 → exec (.laneReloadRetry l) s = .next (modPl u l fun p => { p with reloadAt := now u })))) ∧
    (∀ c, s.pair.snap = some c → (pl s l).st = 4 →
      Completes (exec (.snapshotCopyDone l) s) fun t =>
        (pl t l).st = 5 ∧ (pl t l).joinDead = some (now t + 4000000) ∧ t.pair.snap = none ∧ (lane t l).running = true ∧ resumes (lane t l).prog c.prog ∧
        (lane t l).bank.g.getD 2 0 = 1 ∧ (lane t l).bank.pc = (lane s l).entry ∧ c.started + 12288 ≤ t.clk.sys ∧ (pl t o) = (pl s o)) ∧
    (∀ c, s.pair.ckCopy = some c → c.lane = l →
      Completes (exec (.checkpointCommit l) s) fun t =>
        t.pair.ckCopy = none ∧ t.pair.ckBase = c.mark ∧
        (∀ a b, s.pair.ck0.ckseq = a → s.pair.ck1.ckseq = b → a ≠ 0 → later 32 a b = true ∨ b = 0 → a + 1 < 2 ^ 32 →
          t.pair.ck1 = { ckseq := a + 1, copy := some c, good := true } ∧ t.pair.ck0 = s.pair.ck0) ∧
        (∀ a b, s.pair.ck0.ckseq = a → s.pair.ck1.ckseq = b → b ≠ 0 → later 32 b a = true ∨ a = 0 → b + 1 < 2 ^ 32 →
          t.pair.ck0 = { ckseq := b + 1, copy := some c, good := true } ∧ t.pair.ck1 = s.pair.ck1)) ∧
    ((pl s l).st = 7 → (pl s l).reload = false → (lane s l).running = false →
      (∀ c, ckInForce s = some c → (pl s l).cold = false → posGone s c.pos c.stream = false →
        Completes (exec (.rebuildRelease l) s) fun t =>
          (lane t l).running = true ∧ (lane t l).bank.g.getD 2 0 = 2 ∧ (lane t l).bank.pc = (lane s l).entry ∧ resumes (lane t l).prog c.prog ∧
          t.pair.stop = none ∧ t.ldg = s.ldg) ∧
      (ckInForce s = none ∨ (pl s l).cold = true ∨ (∃ c, ckInForce s = some c ∧ posGone s c.pos c.stream = true) →
        Completes (exec (.rebuildRelease l) s) fun t =>
          (lane t l).running = true ∧ (lane t l).bank.g.getD 2 0 = 0 ∧ (lane t l).prog.batch = now s / 8192 + 1 ∧
          (∀ mp < 32, ckInForce s = none → mpDefined s mp = true → (t.pair.pts.getD mp PPoint.zero).mark = true ∧
            ((lane t l).prog.pts.getD mp LPoint.zero).seq = 0) ∧
          (∀ c mp, ckInForce s = some c → mp < c.prog.pts.length →
            ((lane t l).prog.pts.getD mp LPoint.zero).seq = if ckStores s c.prog mp then ((c.prog.pts.getD mp LPoint.zero).seq + 4096) % 2 ^ 32 else 0)))) ∧
  (∀ (s : State) (c : CoreId) (l : LaneId), Runs s c (.ref l) →
    let u := fetched s (.ref l)
    let o := otherLane l
    let took (k : SegCopy) : Prop := k.lane = l ∧ k.mark = now u ∧ k.prog = (lane u l).prog ∧ k.started = u.clk.sys ∧
      k.seg = (lane u l).dmem.filter fun e => decide (e.1 < 0x18000)
    Completes (exec (.frmCkpt c) s) fun t =>
      (pl t l).lastMark = now u ∧ (bankOf t (.ref l)) = { bankOf u (.ref l) with pc := (bankOf u (.ref l)).pc + 4 } ∧
      (pl t l).marked = some (now u) ∧
      ((pl u l).slotsDue = [] → (pl u l).st = 1 → (pl u o).st = 4 → u.pair.snap = none → u.clk.pfw = none → ∃ k, t.pair.snap = some k ∧ took k) ∧
      ((pl u l).slotsDue = [] → (pl u l).st = 1 → (pl u o).st ≠ 4 → u.pair.ckBase + 800000 ≤ now u → u.pair.snap = none → u.pair.ckCopy = none → u.clk.pfw = none →
        ∃ k, t.pair.ckCopy = some k ∧ took k) ∧
      ((pl u l).st ≠ 1 ∨ u.clk.pfw.isSome → t.pair.snap = u.pair.snap ∧ t.pair.ckCopy = u.pair.ckCopy)) ∧
  (∀ (s : State) (c : CoreId) (rs : Reg) (x : Ctx) (ws : List Word),
    let u := issued s x rs
    let a := getG u x rs
    let w := rw ws 1
    let l := if w.getLsbD 0 then LaneId.flood else LaneId.ebb
    let sb := otherLane u.pair.active
    (Issues s c rs .pair .read 8 x ws → exec (.pairRdst c rs) s = .next (answers u x a
      [(1, w32 ((pl u .ebb).st + 16 * (pl u .flood).st + 4096 * laneNo u.pair.active +
          32768 * b2n (decide ((pl u sb).st = 2) && (pl u sb).probation.isSome))), (2, w32 u.pair.disagree), (3, w32 u.pair.single), (4, w32 u.pair.replay),
        (5, w32 (65536 * u.pair.xdrop + u.pair.xdisagree)),
        (6, w32 (2 ^ 24 * min 255 (recent u .flood).length + 65536 * min 255 (recent u .ebb).length + u.pair.maxStop)), (7, u.pair.lastFault)])) ∧
    (Issues s c rs .pair .read 10 x ws → w &&& 0xFFFFFFFE = 0 → exec (.pairCnt c rs) s = .next (answers u x a
      [(2, w32 ((pl u l).ended.getD 0 0)), (3, w32 ((pl u l).ended.getD 1 0)), (4, w32 ((pl u l).ended.getD 2 0)), (5, w32 ((pl u l).ended.getD 3 0)),
        (6, w32 ((pl u l).aborted.getD 0 0)), (7, w32 ((pl u l).aborted.getD 1 0)), (8, w32 ((pl u l).aborted.getD 2 0)),
        (9, w32 ((pl u l).aborted.getD 3 0))])) ∧
    (Issues s c rs .pair .more 2 x ws →
      (w &&& 0xFFFFFFFC = 0 → exec (.pairClr c rs) s = .next (answers
        (let a0 : Pair := if w.getLsbD 0 then { u.pair with disagree := 0, single := 0, replay := 0, xdrop := 0, xdisagree := 0, maxStop := 0 } else u.pair
         { u with pair := if w.getLsbD 1 then
             { a0 with ebb := { a0.ebb with ended := [0, 0, 0, 0], aborted := [0, 0, 0, 0] }, flood := { a0.flood with ended := [0, 0, 0, 0], aborted := [0, 0, 0, 0] } }
           else a0 }) x a [])) ∧
      (w &&& 0xFFFFFFFE = 0 → u.clk.mode ≠ 4 → exec (.pairLane c rs) s = declines u x 7) ∧
      (w &&& 0xFFFFFFFE = 0 → u.clk.mode = 4 → Room u x .pair → u.pair.pts.length = 32 →
        ((pl u l).st = 1 → (pl u (otherLane l)).st ≠ 2 → exec (.pairLane c rs) s = .next (accepts u u x a .pair 3 ws (some 7) [])) ∧
        ((pl u l).st = 2 ∨ ((pl u l).st = 1 ∧ (pl u (otherLane l)).st = 2) →
          Completes (exec (.pairLane c rs) s) fun t => faulted u t l 8 ∧ (bankOf t x).g.getD 1 0 = (if (bankOf u x).g.length = 32 then 0 else (bankOf t x).g.getD 1 0)) ∧
        ((pl u l).st = 6 → (pl u (otherLane l)).st = 1 →
          exec (.pairLane c rs) s = .next (accepts (modPl u l fun p => { p with st := 3, cause := 8, faults := [], reloadBad := false, reloadAt := now u })
            u x a .pair 3 ws none [])))))

/-- R178 to R184, R189; the arithmetic is LaneCycle's (log 32). -/
def Obligations.LanePassEmitsTheCyclesThatEnded : Prop :=
  (∀ (x : Pass) (y : LPoint) (c : Cycle), c.mp < 32 → y.acc.length = 5 →
    let f := (closeCycle x y c).2
    let z := (closeCycle x y c).1
    f.length = 64 ∧ fld 60 4 f = (crc32c (f.take 60)).toNat ∧ fld 0 4 f = y.seq % 2 ^ 32 ∧ z.seq = (y.seq + 1) % 2 ^ 32 ∧ z.latest = f ∧ z.first = false ∧
    frMp f = c.mp ∧ frKind f = (if isAc x c.mp then 0 else 1) ∧ fld 8 4 f = c.E % 2 ^ 32 ∧ fld 12 4 f = (c.E - c.S) % 2 ^ 32 ∧
    (isAc x c.mp = false → fld 36 2 f = 0) ∧
    (∀ i < 5, fld (16 + 4 * i) 4 f = unsext 32 (z.acc.getD i 0 / 2 ^ 32 - y.acc.getD i 0 / 2 ^ 32)) ∧
    (noLoad x y c = true → z.acc = y.acc ∧ ∀ i < 5, fld (16 + 4 * i) 4 f = 0)) ∧
  (∀ (x : Pass) (mp : Nat) (gs : List Nat) (y : LPoint), (∀ bands, ∀ g ∈ gs, rowOk x mp bands g = true) →
    let r := pointPass x mp gs y
    let cs := r.out.map (·.1)
    (∀ i c d, cs[i]? = some c → cs[i + 1]? = some d → d.S = c.E) ∧ (∀ b c, y.start = some b → cs.head? = some c → c.S = b) ∧
    (∀ c, cs.getLast? = some c → r.y.start = some c.E)) ∧
  (∀ (s : State) (l : LaneId), laneRuns s l = true →
    let a := auxRoll s
    let p := progCal a (lane s l).prog
    (anyLost s l = true → exec (.lanePass l) s = .next (raise s (.ref l) { code := 9, detail := 1, addr := 0 })) ∧
    (∀ b, anyLost s l = false → p.use = some b →
      (passReady a l p b = false → exec (.lanePass l) s = .next s) ∧
      (passReady a l p b = true →
        let runs := (feedAll a l p b).map (·.1)
        let fs := (passPoints { s := a, b := b, old := p.old, useFrom := p.useFrom, runs := runs } l (passProg a p b runs)).2
        (128 < (pl s l).inbuf.length + fs.length → exec (.lanePass l) s = .next s) ∧
        (∀ i f g, fs[i]? = some f → fs[i + 1]? = some g → f.1.E < g.1.E ∨ (f.1.E = g.1.E ∧ f.1.mp ≤ g.1.mp)) ∧
        ((pl s l).inbuf.length + fs.length ≤ 128 → Completes (exec (.lanePass l) s) fun t =>
          (lane t l).prog.batch = (lane s l).prog.batch + 1 ∧ bankOf t (.ref l) = bankOf s (.ref l) ∧
          ((pl s l).st ≠ 7 → (pl t l).inbuf = (pl s l).inbuf ++ fs.map (·.2) ∧
            t.pair.bilIn = s.pair.bilIn ∧ t.mram = s.mram ∧ lane t (otherLane l) = lane s (otherLane l)) ∧
          ((pl s l).st = 7 → (pl t l).xbuf = (pl s l).xbuf ∨ (pl t l).xbuf = [])))))

/-- R167, R247, R248, R253, R262, R266 and Tables 6.1, 8.10 and 9.2. -/
def Obligations.BillingOperationsStoreAndReturn : Prop :=
  ∀ (s : State) (c : CoreId) (rs : Reg) (x : Ctx) (ws : List Word), s.bil.pts.length = 32 → s.defs.length = 32 → s.pair.pts.length = 32 →
    let u := issued s x rs
    let a := getG u x rs
    let w := rw ws 1
    let mp := bits w 4 0
    let y := bp u mp
    let only (f : BPoint → BPoint) : State := { u with bil := { u.bil with pts := u.bil.pts.modify mp f } }
    let minute := (btNow u / 60000000 + 1) * 60000000
    let posted (t : State) (op : Nat) (o : Option Nat) (res : List (Nat × Word)) : Prop :=
      t.posts = u.posts ++ [{ unit := .bil, world := worldOfCtx x, live := true, addr := a.toNat, op := op, words := ws, outcome := o, results := res }]
    (Issues s c rs .bil .more 12 x ws →
      let ch (i j : Nat) : Nat := bits (rw ws i) (8 * j + 7) (8 * j)
      let kind := bits w 9 8
      let ph := bits w 11 10
      let sensor (n : Nat) : Nat := bits (chan u n).input 5 3
      let form : Prop := if kind = 2 then ph = 1 ∧ (∀ j < 3, (ch 2 j ≠ 255 ↔ j < 1) ∧ (ch 3 j ≠ 255 ↔ j < 1)) ∧ ch 3 3 = 255 ∧ w.getLsbD 12 = false
        else if w.getLsbD 16 then ph = 3 ∧ (∀ j < 3, (ch 2 j ≠ 255 ↔ j < 2) ∧ (ch 3 j ≠ 255 ↔ j < 2)) ∧ ch 3 3 = 255 ∧ w.getLsbD 12 = false
        else ph ≠ 0 ∧ (∀ j < 3, (ch 2 j ≠ 255 ↔ j < ph) ∧ (ch 3 j ≠ 255 ↔ j < ph)) ∧ (ch 3 3 ≠ 255 ↔ w.getLsbD 12 = true)
      let defines : Prop := kind ≤ 2 ∧ (∀ j < 4, (ch 2 j ≤ 127 ∨ ch 2 j = 255) ∧ (ch 3 j ≤ 127 ∨ ch 3 j = 255)) ∧ form ∧ bits w 15 14 ≠ 3 ∧
        ch 2 (bits w 15 14) ≠ 255 ∧ (∀ m < 32, m ≠ mp → mpDefined u m = true → ∀ i < 4, ∀ j < 4, ch 3 i ≠ 255 → bits (defWord u m 3) (8 * j + 7) (8 * j) ≠ ch 3 i) ∧
        (∀ j < 4, (ch 2 j ≠ 255 → sensor (ch 2 j) = 0) ∧ (ch 3 j ≠ 255 → sensor (ch 3 j) ≠ 0 ∧ (kind = 2 → sensor (ch 3 j) ≠ 3))) ∧
        bits (rw ws 5) 7 0 ≤ 100 ∧ bits (rw ws 5) 15 8 ≤ 100 ∧ (ch 2 3 ≠ 255 → bits (rw ws 5) 15 8 < bits (rw ws 5) 7 0) ∧ bits (rw ws 4) 15 0 ≠ 0
      let good : Prop := w &&& 0xFFFE00E0 = 0 ∧ rw ws 5 &&& 0xFFFF0000 = 0 ∧ (∀ i < 6, rw ws (6 + i) = 0) ∧ (kind ≠ 0 → defines)
      (¬good → exec (.bilMpcfg c rs) s = declines u x 6) ∧
      (good → u.clk.mode ≠ 4 → exec (.bilMpcfg c rs) s = declines u x 7) ∧
      (good → u.clk.mode = 4 →
        Completes (exec (.bilMpcfg c rs) s) fun t =>
          t.defs = u.defs.set mp (if kind = 0 then [0, 0xFFFFFFFF, 0xFFFFFFFF, 0, 0] else [w, rw ws 2, rw ws 3, rw ws 4, rw ws 5]) ∧
          t.defCount = u.defCount.modify mp (· + 1) ∧
          (bp t mp).mark = true ∧ (t.pair.pts.getD mp PPoint.zero).mark = true ∧ (∀ m < 32, (bp t m).regs = (bp u m).regs ∧ (bp t m).lastSeq = (bp u m).lastSeq) ∧
          (∀ m, m ≠ mp → bp t m = bp u m) ∧ ((bankOf u x).g.length = 32 → getG t x 1 = 0))) ∧
    (Issues s c rs .bil .read 20 x ws →
      (w &&& 0xFFFFE060 ≠ 0 → exec (.bilRdreg c rs) s = declines u x 6) ∧
      (mpDefined u mp = false ∨ 10 ≤ bits w 11 8 → exec (.bilRdreg c rs) s = declines u x 6) ∧
      (w &&& 0xFFFFE060 = 0 → mpDefined u mp = true → bits w 11 8 ≤ 6 →
        exec (.bilRdreg c rs) s = .next (answers u x a ((List.range 18).map fun i =>
          let v := (y.regs.getD (bits w 11 8 + 7 * bits w 12 12) []).getD (i / 2) 0 / 256
          (2 + i, w32 (if i % 2 = 0 then v else v / 2 ^ 32))))) ∧
      (w &&& 0xFFFFE060 = 0 → mpDefined u mp = true → 7 ≤ bits w 11 8 → bits w 11 8 ≤ 9 →
        exec (.bilRdreg c rs) s = .next (answers u x a ((regWords u mp (bits w 11 8) (bits w 12 12) (bits w 7 7)).mapIdx fun i v => (2 + i, v))))) ∧
    (Issues s c rs .bil .more 8 x ws → ∀ i ∈ [Instr.bilSessOpen c rs, .bilSessClose c rs],
      (w &&& 0xFFFFFEE0 ≠ 0 ∨ rw ws 7 ≠ 0 ∨ mpDefined u mp = false → exec i s = declines u x 6) ∧
      (w &&& 0xFFFFFEE0 = 0 → rw ws 7 = 0 → mpDefined u mp = true → ¬Room u x .bil → exec i s = declines u x 8) ∧
      (w &&& 0xFFFFFEE0 = 0 → rw ws 7 = 0 → mpDefined u mp = true → Room u x .bil →
        (w.getLsbD 8 = false → y.sess.isSome → exec i s = .next (accepts u u x a .bil 2 ws (some 7) [])) ∧
        (w.getLsbD 8 = false → y.sess = none →
          let fee := priceFee (bankFor u mp) mp
          Completes (exec i s) fun t =>
            posted t 2 (some 0) [(3, w32 (btNow u)), (4, w32 (btNow u / 2 ^ 32))] ∧ (∀ m, m ≠ mp → bp t m = bp u m) ∧ (bp t mp).regs = y.regs ∧
            (bp t mp).credit = (if fee = 0 then y.credit else max (-(2 ^ 63)) (min (2 ^ 63 - 1) (y.credit - fee))) ∧
            ∃ z, (bp t mp).sess = some z ∧ z.id = rw ws 2 ∧ z.o = now u ∧ z.oBt = btNow u ∧ z.c = none ∧ z.fee = fee ∧ z.energy = 0 ∧ z.ecost = 0 ∧ z.tcost = 0) ∧
        (w.getLsbD 8 = true → y.sess = none ∨ (∃ z, y.sess = some z ∧ (z.id ≠ rw ws 2 ∨ z.c.isSome)) →
          exec i s = .next (accepts u u x a .bil 2 ws (some 7) [])) ∧
        (∀ z, w.getLsbD 8 = true → y.sess = some z → z.id = rw ws 2 → z.c = none → coilOn (rel u mp) = false →
          exec i s = .next (accepts (only fun p => { p with sess := some { z with c := some (now u, btNow u) }, cgen := (p.cgen + 1) % 2 ^ 32 }) u x a .bil 2 ws none [])) ∧
        (∀ z, w.getLsbD 8 = true → y.sess = some z → z.id = rw ws 2 → z.c = none → coilOn (rel u mp) = true → u.rly.length = 32 →
          Completes (exec i s) fun t =>
            bp t mp = { y with sess := some { z with c := some (now u, btNow u) }, cgen := (y.cgen + 1) % 2 ^ 32 } ∧
            ((rel u mp).st ≠ 5 → (rel t mp).st = 5 ∧ (rel t mp).trigger = 4)))) ∧
    (Issues s c rs .bil .more 20 x ws →
      (w &&& 0xFFFFFFC0 ≠ 0 ∨ rw ws 19 ≠ 0 ∨ 34 ≤ bits w 5 0 → exec (.bilTarw c rs) s = declines u x 6) ∧
      (w &&& 0xFFFFFFC0 = 0 → rw ws 19 = 0 → bits w 5 0 < 34 → u.bil.swap.isSome → exec (.bilTarw c rs) s = declines u x 1) ∧
      (w &&& 0xFFFFFFC0 = 0 → rw ws 19 = 0 → bits w 5 0 < 34 → u.bil.swap = none → Room u x .bil →
        exec (.bilTarw c rs) s = .next (accepts
          { u with bil := { u.bil with shadow := u.bil.shadow.set (bits w 5 0) (some (wordsBytes ((List.range 16).map fun i => rw ws (2 + i)))), sgen := u.bil.sgen + 1 } }
          u x a .bil 3 ws (some 0) [(18, u.bil.sgen + 1)]))) ∧
    (Issues s c rs .bil .more 3 x ws →
      (shadowComplete u = false → exec (.bilTswap c rs) s = declines u x 7) ∧
      (shadowComplete u = true → w ≠ u.bil.sgen → exec (.bilTswap c rs) s = declines u x 4) ∧
      (shadowComplete u = true → w = u.bil.sgen → u.bil.swap.isSome → exec (.bilTswap c rs) s = declines u x 1) ∧
      (shadowComplete u = true → w = u.bil.sgen → u.bil.swap = none → Room u x .bil →
        exec (.bilTswap c rs) s = .next (accepts { u with bil := { u.bil with swap := some minute } } u x a .bil 4 ws (some 0) [(2, w32 (minute / 1000000))]))) ∧
    (Issues s c rs .bil .read 6 x ws → w &&& 0xFFFF8CE0 = 0 → mpDefined u mp = true → Room u x .bil →
      ∀ i ∈ [Instr.bilCreditAdd c rs, .bilCreditSet c rs, .bilCreditRead c rs],
        let o := bits w 9 8
        let k := bits w 14 12
        let v := sext 64 ((rw ws 3).toNat + 2 ^ 32 * (rw ws 4).toNat)
        let new (p : BPoint) : BPoint :=
          { p with warn := if k = 1 then v else p.warn, reduce := if k = 2 then v else p.reduce, exhaust := if k = 3 then v else p.exhaust
                   reserve := if k = 4 then v else p.reserve }
        let inOrder (p : BPoint) : Prop := p.reduce ≤ p.warn ∧ p.exhaust ≤ p.reduce ∧ p.exhaust ≤ p.reserve
        let level (p : BPoint) : Nat := if p.prepay = false then 0 else if p.credit ≤ p.exhaust then 3 else if p.credit ≤ p.reduce then 2 else if p.credit ≤ p.warn then 1 else 0
        let same (t : State) : Prop := (bp t mp).regs = y.regs ∧ (bp t mp).sess = y.sess ∧ ∀ m, m ≠ mp → bp t m = bp u m
        (x = .world .opn → o ≠ 2 → exec i s = declines u x 2) ∧
        (x = .world .legal →
          (o = 3 ∨ 6 ≤ k ∨ (o = 0 ∧ k ≠ 0) ∨ (o = 1 ∧ k = 0) ∨ (o = 1 ∧ 1 ≤ k ∧ k ≤ 4 ∧ ¬inOrder (new y)) → exec i s = declines u x 6) ∧
          (o = 0 → k = 0 → rw ws 2 ≠ y.crgen → exec i s = declines u x 4) ∧
          (o = 0 → k = 0 → rw ws 2 = y.crgen → v ≠ 0 →
            Completes (exec i s) fun t =>
              (bp t mp).credit = max (-(2 ^ 63)) (min (2 ^ 63 - 1) (y.credit + v)) ∧ (bp t mp).crgen = y.crgen + 1 ∧ same t ∧ (bp t mp).level = level (bp t mp) ∧
              posted t 5 (some 0) [(3, w32 (unsext 64 (bp t mp).credit)), (4, w32 (unsext 64 (bp t mp).credit / 2 ^ 32)), (5, y.crgen + 1)]) ∧
          (o = 0 → k = 0 → rw ws 2 = y.crgen → v = 0 →
            Completes (exec i s) fun t => (bp t mp).credit = y.credit ∧ (bp t mp).crgen = y.crgen + 1 ∧ same t) ∧
          (o = 1 → 1 ≤ k → k ≤ 4 → inOrder (new y) → rw ws 2 = y.crgen →
            Completes (exec i s) fun t =>
              same t ∧ (bp t mp).credit = y.credit ∧ (bp t mp).crgen = y.crgen + 1 ∧ (bp t mp).warn = (new y).warn ∧ (bp t mp).reduce = (new y).reduce ∧
              (bp t mp).exhaust = (new y).exhaust ∧ (bp t mp).reserve = (new y).reserve ∧ (bp t mp).prepay = y.prepay ∧ (bp t mp).level = level (bp t mp)) ∧
          (o = 1 → k = 5 → rw ws 2 = y.crgen → y.sess.isSome → exec i s = declines u x 7) ∧
          (o = 1 → k = 5 → rw ws 2 = y.crgen → y.sess = none →
            Completes (exec i s) fun t => same t ∧ (bp t mp).prepay = (rw ws 3).getLsbD 0 ∧ (bp t mp).crgen = y.crgen + 1 ∧ (bp t mp).level = level (bp t mp))) ∧
        (isWorld x = true → o = 2 → k ≤ 5 →
          let f := unsext 64 ([y.credit, y.warn, y.reduce, y.exhaust, y.reserve, if y.prepay then 1 else 0].getD k 0)
          exec i s = .next (accepts u u x a .bil 5 ws (some 0) [(3, w32 f), (4, w32 (f / 2 ^ 32)), (5, y.crgen)]))) ∧
    (Issues s c rs .bil .more 5 x ws → rw ws 3 = 0 → rw ws 4 = 0 → w &&& 0x7E008CE0 = 0 → mpDefined u mp = true →
      let n := bits w 19 16
      let l := [60, 300, 600, 900, 1800, 3600].getD (bits w 14 12) 60
      let good : Prop := bits w 23 20 ≤ 6 ∧ bits w 14 12 ≤ 5 ∧ n ≠ 0 ∧ l % n = 0 ∧ (w.getLsbD 9 = false → n = 1)
      (¬good → exec (.bilDemcfg c rs) s = declines u x 6) ∧
      (good → u.clk.mode ≠ 4 → exec (.bilDemcfg c rs) s = declines u x 7) ∧
      (good → u.clk.mode = 4 → Room u x .bil →
        exec (.bilDemcfg c rs) s = .next (accepts
          (only fun p => { p with dems := p.dems.modify (bits w 8 8) fun d => { d with pend := some (minute, w) }, cgen := (p.cgen + 1) % 2 ^ 32 })
          u x a .bil 6 ws (some 0) [(2, w32 (minute / 1000000))]))) ∧
    (Issues s c rs .bil .read 6 x ws →
      (rw ws 3 &&& 0xFFFFFFF8 ≠ 0 ∨ rw ws 5 ≠ 0 → exec (.bilRdst c rs) s = declines u x 6) ∧
      (rw ws 3 &&& 0xFFFFFFF8 = 0 → rw ws 5 = 0 → exec (.bilRdst c rs) s = .next (answers u x a [(1, w32 (bankId u.bil.bank)), (2, u.bil.sgen),
        (3, w32 (4 * b2n u.bil.swap.isSome + 2 * b2n (shadowComplete u) + b2n (u.bil.pts.any fun p => p.held.isSome))),
        (4, maskOf (u.bil.pts.map fun p => p.sess.isSome))])))

/-- R236 to R240, R247, R256; R20's order of sequence numbers. -/
def Obligations.FramesAreAppliedOnceAndBoundariesProcessed : Prop :=
  (∀ (f : List Byte) (conn : Bool),
    let p := if conn then sext 32 (fld 28 4 f) else sext 32 (fld 16 4 f)
    let e := sext 32 (fld 20 4 f)
    let q := if conn then (if 0 ≤ e then (if 0 ≤ p then 0 else 1) else if p < 0 then 2 else 3) else fld 6 2 f / 8192 % 4
    incr f 0 conn = p.toNat ∧ incr f 1 conn = (-p).toNat ∧ incr f 6 conn = fld (if conn then 32 else 24) 4 f ∧
    incr f 2 conn = (if q = 0 then e.toNat else 0) ∧ incr f 3 conn = (if q = 1 then e.toNat else 0) ∧
    incr f 4 conn = (if q = 2 then (-e).toNat else 0) ∧ incr f 5 conn = (if q = 3 then (-e).toNat else 0)) ∧
  (∀ (s : State) (mp : PointId), alive s = true → s.bil.pts.length = 32 → (∀ p ∈ s.bil.pts, p.regs.length = 14 ∧ ∀ l ∈ p.regs, l.length = 9) →
    let y := bp s mp.val
    let reg (t : State) (i j : Nat) : Nat := ((bp t mp.val).regs.getD i []).getD j 0
    let fresh (f : List Byte) : Prop := y.lastSeq = none ∨ ∃ n, y.lastSeq = some n ∧ (later 32 (frSeq f) n = true ∨ (y.mark = true ∧ frFirst f = true))
    let applied (t : State) (f : List Byte) (status : Nat) : Prop :=
      (∀ i < 14, reg t i 0 = (reg s i 0 + incr f (i % 7) (decide (7 ≤ i))) % 2 ^ 72) ∧
      (∃ τ < 8, ∀ i < 14, ∀ j, 1 ≤ j → j < 9 →
        reg t i j = if j = τ + 1 then (reg s i j + incr f (i % 7) (decide (7 ≤ i))) % 2 ^ 72 else reg s i j) ∧
      (bp t mp.val).lastSeq = some (frSeq f) ∧ (bp t mp.val).held = none ∧ (bp t mp.val).applied = y.applied + 1 ∧
      (bp t mp.val).single = y.single + (if status = 1 then 1 else 0) ∧ (bp t mp.val).disagree = y.disagree + (if status = 2 then 1 else 0) ∧
      (bp t mp.val).dup = y.dup ∧ ∀ m, m ≠ mp.val → (bp t m).regs = (bp s m).regs ∧ (bp t m).lastSeq = (bp s m).lastSeq
    let outcome (o : Host.Outcome State Fault Refusal) (u : State) (f : List Byte) (status : Nat) (ok : Prop) : Prop :=
      (ok → fresh f → y.tariff < 8 → (∀ p ∈ y.preStep, p.tariff < 8) → Completes o fun t => applied t f status) ∧
      (¬fresh f → Completes o fun t =>
        (bp t mp.val).dup = y.dup + 1 ∧ (bp t mp.val).regs = y.regs ∧ (bp t mp.val).lastSeq = y.lastSeq ∧ (bp t mp.val).held = none ∧ (bp t mp.val).applied = y.applied) ∧
      (¬ok → fresh f → Completes o fun t =>
        (∃ c, (bp t mp.val).held = some c ∧ c.frame = f ∧ c.status = status) ∧ (bp t mp.val).retryAt = now u + 400 ∧ (bp t mp.val).regs = y.regs ∧
        (bp t mp.val).lastSeq = y.lastSeq)
    (∀ (f : List Byte) (status : Nat) (rest : List (List Byte × Nat)) (a1 a2 : Bool), s.bil.saved = [] → s.pair.bilIn = (f, status) :: rest → frMp f = mp.val →
      y.held = none →
      outcome (exec (.bilFrameApply mp a1 a2) s) s f status (a1 = true ∨ a2 = true) ∧ Completes (exec (.bilFrameApply mp a1 a2) s) fun t => t.pair.bilIn = rest) ∧
    (∀ (k : Saved) (rest : List Saved) (a1 a2 : Bool), s.bil.saved = k :: rest → frMp k.frame = mp.val → y.held = none →
      outcome (exec (.bilFrameApply mp a1 a2) s) s k.frame k.status (a1 = true ∨ a2 = true) ∧
        Completes (exec (.bilFrameApply mp a1 a2) s) fun t => t.bil.saved = rest ∧ t.pair.bilIn = s.pair.bilIn) ∧
    (∀ (k : Saved) (u : State) (a1 a2 : Bool), y.held = some k → frMp k.frame = mp.val → Reaches s u y.retryAt →
      outcome (exec (.bilHoldRetry mp a1 a2) s) u k.frame k.status (a1 = true ∨ a2 = true)) ∧
    (∀ u, mpDefined s mp.val = true → (∀ z, y.sess = some z → z.c = none) → y.steps = [] → y.due = none →
      Reaches s u (btTick s (nextBoundary s mp.val + 100000)) → nextBoundary s mp.val + 100000 ≤ btNow u →
      Completes (exec (.boundaryTimeout mp) s) fun t =>
        nextBoundary s mp.val ≤ (bp t mp.val).bT ∧ (bp t mp.val).regs = y.regs ∧ (bp t mp.val).lastSeq = y.lastSeq ∧ (bp t mp.val).credit = y.credit ∧
        t.legal.ctl.evpend.getLsbD 4 = true)) ∧
  (∀ (s u : State), alive s = true →
    Reaches s u (if btNow s / 60000000 * 60000000 ≠ s.bil.minute then now s else btTick s (s.bil.minute + 60000000)) →
    Completes (exec .minuteBoundary s) fun t =>
      t.bil.minute = btNow u / 60000000 * 60000000 ∧ t.bil.hw = max s.bil.hw (btNow u) ∧
      ((∃ mp < 32, mpDefined s mp = true) → t = { u with bil := { u.bil with minute := t.bil.minute, hw := t.bil.hw, cgen := (u.bil.cgen + 1) % 2 ^ 32 } }) ∧
      (∀ b m, (∀ mp < 32, mpDefined s mp = false) → s.bil.swap = some m → m ≤ t.bil.minute → shadowBank s = some b →
        t.bil.bank = b ∧ t.bil.oldBank = s.bil.bank ∧ t.bil.swap = none ∧ t.bil.shadow = List.replicate 34 none))

/-- R270, R273 to R275, R277, R278, R282, R284, R285. -/
def Obligations.RelayOperationsConfigureArmOpenAndGrant : Prop :=
  (∀ (s : State) (ch t z1 z2 : Nat) (rest : List (Nat × Nat)), (chan s ch).zc.map (fun z => z.2) = z1 :: z2 :: rest.map (fun z => z.2) →
    let h := z1 - z2
    (ch < 128 → now s - z1 ≤ 88889 → 30769 ≤ h → h ≤ 44445 → z1 ≤ t →
      ∃ z n, predict s ch t = some z ∧ z = z1 + n * h ∧ t ≤ z ∧ z < t + h) ∧
    (88889 < now s - z1 ∨ h < 30769 ∨ 44445 < h → predict s ch t = none)) ∧
  (∀ (s : State) (c : CoreId) (rs : Reg) (x : Ctx) (ws : List Word), s.rly.length = 32 →
    let u := issued s x rs
    let a := getG u x rs
    let w := rw ws 1
    let r := bits w 4 0
    let y := rel u r
    let others (t : State) : Prop := ∀ k, k ≠ r → rel t k = rel u k
    let coil : Prop := 2 ≤ y.st ∧ y.st ≤ 5
    let fa : Prop := y.a ≠ y.polA
    let fb : Prop := y.b ≠ y.polB
    let live (f : List Byte × Nat) : Prop := (fld 6 2 f.1).testBit 10 = true
    let closed : Prop := coil ∨ fa ∨ fb ∨ ∃ f, y.frames.head? = some f ∧ live f
    let permit : Prop := u.grant = true ∧ u.hl.grantLost = false ∧ ldgHold u = false ∧ lcState u < 5
    let posted (t : State) (op : Nat) (o : Option Nat) (res : List (Nat × Word)) : Prop :=
      t.posts.getLast? = some { unit := .rly, world := worldOfCtx x, live := true, addr := a.toNat, op := op, words := ws, outcome := o, results := res }
    (Issues s c rs .rly .more 6 x ws → ∀ i ∈ [Instr.rlyCfg c rs, .rlyCfgClrflt c rs],
      let good : Prop := w &&& 0x7FE001E0 = 0 ∧ rw ws 3 = 0 ∧ rw ws 4 = 0 ∧ rw ws 5 = 0 ∧ 1 ≤ bits w 20 16 ∧ bits w 20 16 ≤ 30
      (¬good → exec i s = declines u x 6) ∧
      (good → closed → exec i s = declines u x 7) ∧
      (good → ¬closed → Completes (exec i s) fun t =>
        others t ∧ t.posts = u.posts ∧
        (let z := rel t r
         z.grace = bits w 20 16 ∧ z.pilotAcc = bits w 15 12 ∧ z.pilotEn = w.getLsbD 11 ∧ z.polB = w.getLsbD 10 ∧ z.polA = w.getLsbD 9 ∧
          z.openT = bits (rw ws 2) 31 16 ∧ z.closeT = bits (rw ws 2) 15 0 ∧ z.closes = y.closes ∧ z.trigger = y.trigger ∧ z.a = y.a ∧ z.b = y.b ∧
          z.fault = (if w.getLsbD 31 then 0 else y.fault) ∧ z.st = (if w.getLsbD 31 = true ∧ y.st = 7 then 0 else y.st) ∧
          z.faultDue = (if w.getLsbD 31 then 0 else y.faultDue)) ∧
        (w.getLsbD 31 = true → y.st = 7 → t.legal.ctl.evpend.getLsbD 5 = true))) ∧
    (Issues s c rs .rly .more 2 x ws →
      let good : Prop := w &&& 0xFFFF00E0 = 0
      let aim := predict u (vRef u r) (now u + 4 * y.closeT + 40)
      let code (i : Nat) : Nat := [9, 11, 1, 10, 12, 2, 3, 8, 4, 5, 6, 7].getD i 0
      let ok (i : Nat) : Prop :=
        (match i with
        | 0 => y.st ≠ 7
        | 1 => y.st = 0
        | 2 => permit
        | 3 => ¬(u.clk.mode = 4 ∧ lcState u = 3)
        | 4 => u.clk.mode ≠ 3 ∨ u.clk.redmask.getLsbD r = true
        | 5 => ∃ z, (bp u r).sess = some z ∧ z.c = none
        | 6 => (bp u r).prepay = false ∨ (bp u r).reserve < (bp u r).credit
        | 7 => bits (defWord u r 2) 31 24 ≠ 0xFF ∧ ∃ f, y.frames.head? = some f ∧ now u ≤ frEnd u f.1 + 240000
        | 8 => ∃ f g, y.frames.take 2 = [f, g] ∧ ¬live f ∧ ¬live g
        | 9 => ¬fa ∧ ¬fb
        | 10 => y.pilotEn = false ∨ y.pilot = 3 ∨ y.pilot = 4
        | _ => mpKind u r = 2 ∨ aim.isSome = true)
      (¬good → ∀ agree, exec (.rlyClose c rs agree) s = declines u x 6) ∧
      (good → ¬Room u x .rly → ∀ agree, exec (.rlyClose c rs agree) s = declines u x 8) ∧
      (good → Room u x .rly →
        exec (.rlyClose c rs false) s = .next (accepts (notify9 u 6 4) u x a .rly 1 ws (some 9) [(1, w32 r)]) ∧
        (∀ i < 12, (∀ j < i, ok j) → ¬ok i → exec (.rlyClose c rs true) s = .next (accepts u u x a .rly 1 ws (some 7) [(1, w32 (r + 256 * code i))])) ∧
        ((∀ i < 12, ok i) → Completes (exec (.rlyClose c rs true) s) fun t =>
          let z := if mpKind u r = 2 then none else aim
          rel t r = { y with st := 1, badSince := none, cross := z, cmdDone := false, fbMet := false, vMet := false
                             cmd := (match z with | some k => k - (4 * y.closeT + 40) | none => now u) } ∧
          others t ∧ posted t 1 none [(1, w32 r)] ∧ t.legal.ctl.evpend.getLsbD 5 = true))) ∧
    (Issues s c rs .rly .more 2 x ws →
      let good : Prop := w &&& 0xFFFFFEE0 = 0
      (¬good → exec (.rlyOpen c rs) s = declines u x 6) ∧
      (good → ¬Room u x .rly → exec (.rlyOpen c rs) s = declines u x 8) ∧
      (good → Room u x .rly →
        (y.st = 0 ∨ y.st = 7 → exec (.rlyOpen c rs) s = .next (accepts u u x a .rly 2 ws (some 0) [])) ∧
        (y.st = 5 ∨ y.st = 6 → exec (.rlyOpen c rs) s = .next (accepts u u x a .rly 2 ws none [])) ∧
        (y.st = 1 → Completes (exec (.rlyOpen c rs) s) fun t =>
          (rel t r).st = 0 ∧ (rel t r).trigger = 1 ∧ (rel t r).coils = y.coils ∧ others t ∧ posted t 2 (some 0) [] ∧ t.legal.ctl.evpend.getLsbD 5 = true ∧
          ∀ p ∈ t.posts, p.unit = .rly → p.op = 1 → bits (p.words.getD 1 0) 4 0 = r → p.outcome ≠ none) ∧
        (2 ≤ y.st → y.st ≤ 4 → Completes (exec (.rlyOpen c rs) s) fun t =>
          (rel t r).st = 5 ∧ (rel t r).trigger = 1 ∧ (rel t r).graceAt = none ∧ (rel t r).coils = y.coils ∧ (rel t r).cmdDone = false ∧ others t ∧ posted t 2 none [] ∧
          t.legal.ctl.evpend.getLsbD 5 = true ∧
          (mpKind u r = 2 ∨ w.getLsbD 8 = true → (rel t r).cmd = now u) ∧
          (mpKind u r ≠ 2 → w.getLsbD 8 = false → (rel t r).cmd =
            match predict u (iRef u r) (now u + 4 * y.openT + 48) with | some z => z - (4 * y.openT + 40) | none => now u)))) ∧
    (Issues s c rs .rly .more 2 x ws →
      let g := w.getLsbD 0
      (w &&& 0xFFFFF8FE ≠ 0 → exec (.rlyGrant c rs) s = declines u x 6) ∧
      (w &&& 0xFFFFF8FE = 0 → g = true → 5 ≤ lcState u → exec (.rlyGrant c rs) s = declines u x 7) ∧
      (w &&& 0xFFFFF8FE = 0 → ¬(g = true ∧ 5 ≤ lcState u) →
        let lost := u.hl.grantLost && !g
        exec (.rlyGrant c rs) s = .next (answers { u with grant := g, hl := { u.hl with grantLost := lost } } x a
          [(1, w32 (256 * b2n lost + 512 * b2n (ldgHold u) + 1024 * b2n (decide (5 ≤ lcState u)) + b2n g))]))) ∧
    (Issues s c rs .rly .read 4 x ws →
      (w &&& 0xFFFFFFE0 ≠ 0 → exec (.rlyRdst c rs) s = declines u x 6) ∧
      (w &&& 0xFFFFFFE0 = 0 → ∃ st, exec (.rlyRdst c rs) s = .next (answers u x a [(2, st), (3, w32 y.closes)]) ∧
        (y.st < 8 → y.trigger < 8 → bits st 3 0 = y.st ∧ bits st 6 4 = y.trigger ∧ (st.getLsbD 7 = true ↔ coil) ∧ (st.getLsbD 8 = true ↔ fa) ∧ (st.getLsbD 9 = true ↔ fb) ∧
          (st.getLsbD 10 = true ↔ y.reduce ≠ 0) ∧ (st.getLsbD 11 = true ↔ ¬coil) ∧ (st.getLsbD 12 = true ↔ permit) ∧
          (y.pilot < 8 → bits st 15 13 = y.pilot ∧
            ((∀ k, y.graceAt = some k → (k - now u) / 4000000 < 256) →
              bits st 23 16 = (match y.graceAt with | some k => (k - now u) / 4000000 | none => 0) ∧ bits st 31 24 = y.fault % 256))))))

/-- R268, R269, R275 to R279, R281, R285; time stands at the events' instants (log 6). -/
def Obligations.RelaySequencesConfirmFailAndFault : Prop :=
  ∀ (s : State) (rid : RelayId), alive s = true → s.rly.length = 32 → absentUnit s .rly = false →
    let r := rid.val
    let y := rel s r
    let others (t : State) : Prop := ∀ k, k ≠ r → rel t k = rel s k
    let told (t : State) : Prop := t.legal.ctl.evpend.getLsbD 5 = true
    let ends (t : State) (op out : Nat) : Prop := ∀ (i : Nat) (p : Posted), s.posts[i]? = some p → p.unit = .rly → p.op = op → bits (p.words.getD 1 0) 4 0 = r → p.outcome = none →
      t.posts[i]? = some { p with outcome := some out }
    let openAt (u : State) : Nat :=
      if mpKind s r = 2 then now u
      else match predict u (iRef s r) (now u + 4 * y.openT + 48) with | some z => z - (4 * y.openT + 40) | none => now u
    let waits (u t : State) (trig : Nat) : Prop :=
      (rel t r).st = 5 ∧ (rel t r).trigger = trig ∧ (rel t r).graceAt = none ∧ (rel t r).cmd = openAt u ∧ (rel t r).cmdDone = false ∧ (rel t r).coils = y.coils ∧ told t
    (∀ u t1, y.graceAt = some t1 → 2 ≤ y.st → y.st ≤ 4 → Reaches s u t1 →
      Completes (exec (.graceExpiry rid) s) fun t => waits u t 2 ∧ others t ∧ t.ldg = u.ldg) ∧
    (∀ u, s.clk.pfw = none → y.st = 1 ∨ y.st = 5 → y.cmdDone = false → Reaches s u y.cmd →
      exec (.relayCommandInstant rid) s = .next { u with rly := u.rly.modify r fun z => { z with cmdDone := true } }) ∧
    (s.clk.pfw.isSome → exec (.relayCommandInstant rid) s = .next s) ∧
    (∀ u, y.cmdDone = true → y.st = 1 ∨ y.st = 5 → Reaches s u (y.cmd + 40) →
      Completes (exec (.coilChange rid) s) fun t =>
        let on : Bool := decide (y.st = 1)
        (rel t r).st = (if y.st = 1 then 2 else 6) ∧ coilOn (rel t r) = on ∧ (rel t r).m = now u ∧ (rel t r).coils.head? = some (now u, on) ∧
        (rel t r).cmdDone = false ∧ (rel t r).vMet = false ∧
        ((rel t r).fbMet = true ↔ if y.st = 1 then y.a ≠ y.polA ∧ y.b ≠ y.polB else y.a = y.polA ∧ y.b = y.polB) ∧
        others t ∧ told t ∧ t.posts = u.posts ∧ t.ldg = u.ldg) ∧
    (∀ (inputB level : Bool),
      let na := if inputB then y.a else level
      let nb := if inputB then level else y.b
      Completes (exec (.feedbackChange rid inputB level) s) fun t =>
        (rel t r).a = na ∧ (rel t r).b = nb ∧ others t ∧
        (y.st = 2 → na ≠ y.polA → nb ≠ y.polB → now s < y.m + 240000 → y.vMet = true →
          (rel t r).st = (if y.graceAt.isSome then 4 else 3) ∧ (rel t r).closes = min (2 ^ 32 - 1) (y.closes + 1) ∧ told t ∧ ends t 1 0 ∧
          Recorded s t .rly 0x38 (w32 r :: two y.m ++ two (y.cross.getD y.cmd))) ∧
        (y.st = 2 → na ≠ y.polA → nb ≠ y.polB → now s < y.m + 240000 → y.vMet = false → (rel t r).st = 2 ∧ (rel t r).fbMet = true) ∧
        (y.st = 6 → na = y.polA → nb = y.polB → now s < y.m + 400000 → y.vMet = true →
          (rel t r).st = (if y.faultDue = 0 then 0 else 7) ∧ (rel t r).fault = y.fault ∧ told t ∧ ends t 2 0 ∧
          Recorded s t .rly 0x39 (w32 r :: w32 y.trigger :: two y.m)) ∧
        (y.st = 6 → na = y.polA → nb = y.polB → now s < y.m + 400000 → y.vMet = false → (rel t r).st = 6 ∧ (rel t r).fbMet = true) ∧
        (y.st = 0 ∨ y.st = 3 ∨ y.st = 4 →
          let bad : Prop := if y.st = 0 then na ≠ y.polA ∨ nb ≠ y.polB else ¬(na ≠ y.polA ∧ nb ≠ y.polB)
          (rel t r).st = y.st ∧ (bad → (rel t r).badSince = some (y.badSince.getD (now s))) ∧ (¬bad → (rel t r).badSince = none))) ∧
    (∀ u, y.st = 2 → y.fbMet = false → Reaches s u (y.m + 240000) →
      Completes (exec (.closeDeadline rid) s) fun t =>
        (rel t r).st = 7 ∧ (rel t r).fault = 1 ∧ (rel t r).coils.head? = some (now u, false) ∧ others t ∧ told t ∧ ends t 1 9 ∧
        Recorded u t .rly 0x3A [w32 r, 1]) ∧
    (∀ u, y.st = 6 → y.vMet = true → y.fbMet = false → Reaches s u (y.m + 400000) →
      Completes (exec (.openDeadline rid) s) fun t =>
        (rel t r).st = 7 ∧ (rel t r).fault = 3 ∧ (rel t r).coils = y.coils ∧ others t ∧ told t ∧ ends t 2 9 ∧ Recorded u t .rly 0x3B [w32 r, 3]) ∧
    (∀ u, y.st = 6 → y.vMet = false → Reaches s u (y.m + 400000) → exec (.openDeadline rid) s = .next u) ∧
    (∀ u t1, y.badSince = some t1 → Reaches s u (t1 + 40000) →
      (y.st = 0 → Completes (exec (.feedbackSteadyTimeout rid) s) fun t =>
        (rel t r).st = 7 ∧ (rel t r).fault = 9 ∧ others t ∧ told t ∧ Recorded u t .rly 0x3D [w32 r, 9]) ∧
      (y.st = 3 ∨ y.st = 4 → Completes (exec (.feedbackSteadyTimeout rid) s) fun t =>
        waits u t 5 ∧ (rel t r).fault = 7 ∧ (rel t r).faultDue = 7 ∧ others t ∧ Recorded u t .rly 0x3D [w32 r, 7]))

/-- R286 to R289, R292, R293, R295, R296, R298 to R300, R302. -/
def Obligations.LedgerChainsDropsProgramsAndAnswers : Prop :=
  (∀ (s : State) (ty : Nat) (par : Bool) (es : List Nat) (parts : List (List Byte)),
    let n := parts.length
    let free := 2048 - s.ldg.recs.length
    let unauth : Prop := s.key.ks.getD 0 none = none ∧ s.key.scuttle ≠ 0
    let c0 := if s.ldg.next = 0 then sha256 (le 4 s.fuse.uidLo.toNat ++ le 4 s.fuse.uidHi.toNat) else s.ldg.chain
    let k0 := if s.ldg.next = 0 then 1 else 0
    let ck := if 255 ≤ (if s.ldg.next = 0 then 0 else s.ldg.since) + n then 1 else 0
    let t := ldgGroup s ty par es parts
    (free < 128 → ty ≠ 1 → s.ldg.fullSeen = true → t.ldg = { s.ldg with dropped := s.ldg.dropped.modify ty (· + 1), gapDue := true }) ∧
    (128 ≤ free ∨ ty = 1 → n ≤ free → 1 ≤ n → s.ldg.fullSeen = true ∨ s.ldg.capacity = 0 ∨ s.ldg.next + n + 2 < s.ldg.capacity →
      t.ldg.next = s.ldg.next + k0 + n + ck ∧ t.ldg.dropped = s.ldg.dropped ∧
      (ck = 1 → t.ldg.lastCkpt = s.ldg.next + k0 + n ∧ t.ldg.since = 0) ∧ (ck = 0 → t.ldg.since = (if s.ldg.next = 0 then 0 else s.ldg.since) + n) ∧
      ∃ (new : List PendRec) (chain : Nat → List Byte), t.ldg.recs = s.ldg.recs ++ new ∧ new.length = k0 + n + ck ∧ chain 0 = c0 ∧ t.ldg.chain = chain new.length ∧
        ∀ i r, new[i]? = some r → r.index = s.ldg.next + i ∧ chain (i + 1) = sha256 (chain i ++ r.bytes.take 112) ∧ fld 0 4 r.bytes = (s.ldg.next + i) % 2 ^ 32 ∧
          (∀ k, s.key.ks.getD 0 none = some k → r.bytes.drop 112 = (hmac k (chain (i + 1))).take 16) ∧
          (s.key.ks.getD 0 none = none → r.bytes.drop 112 = List.replicate 16 0) ∧
          (k0 ≤ i → i < k0 + n → fld 4 1 r.bytes = ty % 256 ∧ fld 5 1 r.bytes = (i - k0 + 16 * (n - 1)) % 256 ∧
            ((fld 6 1 r.bytes).testBit 0 = s.tmp.mark) ∧ ((fld 6 1 r.bytes).testBit 1 = par) ∧ ((fld 6 1 r.bytes).testBit 2 = true ↔ unauth) ∧
            ((fld 6 1 r.bytes).testBit 3 = s.key.test) ∧ fld 8 8 r.bytes = btNow s % 2 ^ 64 ∧ slice 16 32 r.bytes = fit 32 (parts.getD (i - k0) []) ∧ r.eseqs = es ∧
            (¬(ty = 1 ∧ i = k0 + 1) → slice 48 64 r.bytes = (fit 96 (parts.getD (i - k0) [])).drop 32) ∧
            (ty = 1 → i = k0 + 1 → ∀ k, s.key.ks.getD 1 none = some k →
              ∃ fr, slice 48 64 r.bytes = fit 64 (ecdsaSign k (sha256 (chain i ++ r.bytes.take 48)) fr))) ∧
          (¬(k0 ≤ i ∧ i < k0 + n) → fld 4 1 r.bytes = 8 ∧ slice 16 32 r.bytes = fit 32 (chain i) ∧
            (∀ k, s.key.ks.getD 1 none = some k → ∃ fr, slice 48 64 r.bytes = fit 64 (ecdsaSign k (sha256 (r.bytes.take 48)) fr)) ∧
            (s.key.ks.getD 1 none = none → slice 48 64 r.bytes = List.replicate 64 0)))) ∧
  (∀ (s : State) (un : UnitId) (code : Nat) (ps : List Word), 128 ≤ 2048 - s.ldg.recs.length → s.ldg.next ≠ 0 → s.ldg.since < 254 → s.ldg.fullSeen = true →
    ∃ r, (event s un code ps).ldg.recs = s.ldg.recs ++ [r] ∧ fld 4 1 r.bytes = 3 ∧
      slice 16 96 r.bytes = fit 96 ([BitVec.ofNat 8 code, BitVec.ofNat 8 (unitCode un), 0, BitVec.ofNat 8 (if s.ldg.subTick = now s then s.ldg.subSeq else 0)] ++
        le 8 (now s % 2 ^ 56) ++ [0, 0, 0, 0] ++ ps.flatMap fun p => le 4 p.toNat)) ∧
  (∀ (s : State) (c : CoreId) (rs : Reg) (x : Ctx) (ws : List Word),
    let u := issued s x rs
    let a := getG u x rs
    let w := rw ws 1
    let full : Prop := 2048 - u.ldg.recs.length < 128
    (Issues s c rs .ldg .more 34 x ws →
      let good : Prop := (w = 3 ∨ w = 6) ∧ ∀ i < 7, rw ws (27 + i) = 0
      (¬good → exec (.ldgAppend c rs) s = declines u x 6) ∧
      (good → full ∨ ¬Room u x .ldg → exec (.ldgAppend c rs) s = declines u x 8) ∧
      (good → ¬full → Room u x .ldg → exec (.ldgAppend c rs) s = .next (accepts
        (ldgGroup u w.toNat false [] [((List.range 24).map fun i => rw ws (2 + i)).flatMap fun v => le 4 v.toNat]) u x a .ldg 0 ws (some 0)
        [(26, w32 (if u.ldg.next = 0 then 1 else u.ldg.next))]))) ∧
    (Issues s c rs .ldg .read 35 x ws → rw ws 2 &&& 0xFFFFFFFE ≠ 0 → exec (.ldgRead c rs) s = declines u x 6) ∧
    (Issues s c rs .ldg .read 35 x ws → rw ws 2 &&& 0xFFFFFFFE = 0 → ¬Room u x .ldg → exec (.ldgRead c rs) s = declines u x 8) ∧
    (Issues s c rs .ldg .read 35 x ws → rw ws 2 &&& 0xFFFFFFFE = 0 → Room u x .ldg →
      let i := w.toNat
      let whole (b : List Byte) : List (Nat × Word) := (List.range 32).map fun j => (3 + j, w32 (fld (4 * j) 4 b))
      (u.ldg.next ≤ i → exec (.ldgRead c rs) s = .next (accepts u u x a .ldg 1 ws (some 6) [])) ∧
      (∀ r, i < u.ldg.next → u.ldg.recs.find? (fun r => r.index == i) = some r →
        exec (.ldgRead c rs) s = .next (accepts u u x a .ldg 1 ws (some 0) ((2, 1) :: whole r.bytes))) ∧
      (∀ r, i < u.ldg.next → u.ldg.recs.find? (fun r => r.index == i) = none → u.ldg.fault = false → u.ldg.nodev = false →
        u.ldg.flash.find? (fun r => r.1 == i) = some r → exec (.ldgRead c rs) s = .next (accepts u u x a .ldg 1 ws (some 0) ((2, 0) :: whole r.2))) ∧
      (i < u.ldg.next → u.ldg.recs.find? (fun r => r.index == i) = none → u.ldg.fault = true ∨ u.ldg.nodev = true →
        exec (.ldgRead c rs) s = .next (accepts u u x a .ldg 1 ws (some 9) []))) ∧
    (Issues s c rs .ldg .more 4 x ws →
      let cap := 8388608 * 2 ^ bits w 2 0
      let good : Prop := w &&& 0xFFFFFEF8 = 0 ∧ bits w 2 0 ≤ 3 ∧ u.ldg.next ≤ cap ∧ rw ws 2 &&& 0xFF000000 = 0 ∧ rw ws 3 = 0
      let ready : Prop := u.ldg.setIn ≠ some (lcState u) ∧ u.ldg.device = some (rw ws 2).toNat
      (¬good → exec (.ldgFlash c rs) s = declines u x 6) ∧
      (good → ¬ready → exec (.ldgFlash c rs) s = declines u x 7) ∧
      (good → ready → Completes (exec (.ldgFlash c rs) s) fun t =>
        t.ldg.capacity = cap ∧ t.ldg.dtr = w.getLsbD 8 ∧ t.ldg.jedec = (rw ws 2).toNat ∧ t.ldg.setIn = some (lcState u) ∧ t.ldg.nodev = false ∧
        t.ldg.flash = u.ldg.flash ∧ (u.ldg.gapDue = false → t.ldg.recs = u.ldg.recs ∧ t.ldg.next = u.ldg.next ∧ t.ldg.chain = u.ldg.chain) ∧
        t.legal.ctl.evpend.getLsbD 6 = true)) ∧
    (Issues s c rs .ldg .read 8 x ws →
      let good : Prop := rw ws 3 &&& 0xFFFF0000 = 0 ∧ rw ws 6 &&& 0xFFFF0000 = 0 ∧ rw ws 7 = 0
      (¬good → exec (.ldgRdst c rs) s = declines u x 6) ∧
      (good → ∃ st, exec (.ldgRdst c rs) s = .next (answers u x a
          [(1, w32 u.ldg.next), (2, w32 u.ldg.capacity), (3, w32 u.ldg.recs.length), (4, st), (5, w32 u.ldg.lastCkpt), (6, w32 (min 65535 u.ldg.dropped.sum))]) ∧
        let full : Prop := u.ldg.capacity ≠ 0 ∧ u.ldg.capacity ≤ u.ldg.next
        let unauth : Prop := u.key.ks.getD 0 none = none ∧ u.key.scuttle ≠ 0
        (st.getLsbD 0 = true ↔ u.ldg.setIn = some (lcState u)) ∧ st.getLsbD 1 = u.ldg.nodev ∧ st.getLsbD 2 = u.ldg.fault ∧ (st.getLsbD 3 = true ↔ full) ∧
        (st.getLsbD 4 = true ↔ 2048 - u.ldg.recs.length < 128) ∧
        (st.getLsbD 5 = true ↔ u.ldg.fault = true ∨ u.ldg.nodev = true ∨ u.ldg.capacity = 0 ∨ full ∨ unauth ∨ 2048 - u.ldg.recs.length < 512) ∧
        (st.getLsbD 6 = true ↔ unauth) ∧ st.getLsbD 7 = u.key.test ∧ bits st 31 8 = 0))) ∧
  (∀ s : State, alive s = true →
    let again (u : State) : State := { u with ldg := { u.ldg with tries := u.ldg.tries + 1, prog := some u.clk.ref } }
    let down (u : State) : State := { u with ldg := { u.ldg with prog := none, fault := true, tries := 3, retryAt := some (u.clk.ref + 240000000) } }
    let index (u : State) : Nat := match u.ldg.recs with | r :: _ => r.index | [] => 0
    let failed (u : State) (o : Host.Outcome State Fault Refusal) : Prop :=
      (u.ldg.fault = false → u.ldg.tries < 2 → o = .next (again u)) ∧
      (u.ldg.fault = false → 2 ≤ u.ldg.tries → Completes o fun t => t.ldg = (event (down u) .ldg 0x41 [0xFFFFFFFF, w32 (index u), 3]).ldg ∧
        t.ldg.fault = true ∧ t.ldg.prog = none ∧ (absentUnit s .ldg = false → t.legal.ctl.evpend.getLsbD 6 = true)) ∧
      (u.ldg.fault = true → o = .next { u with ldg := { u.ldg with prog := none, retryAt := some (u.clk.ref + 240000000) } })
    (s.ldg.prog.isSome → failed s (exec (.flashProgramDone false) s)) ∧
    (∀ u t1, s.ldg.prog = some t1 → ReachesRef s u (t1 + 240000) → failed u (exec .flashProgramTimeout s)) ∧
    (∀ r rest, s.ldg.prog.isSome → s.ldg.recs = r :: rest →
      Completes (exec (.flashProgramDone true) s) fun t =>
        t.ldg.flash = (r.index, r.bytes) :: s.ldg.flash.filter (fun x => x.1 != r.index) ∧ t.ldg.fault = false ∧
        ∃ more, t.ldg.recs = rest ++ more ∧
          (s.ldg.gapDue = true → s.ldg.next ≠ 0 → 512 ≤ 2048 - rest.length →
            ∃ g, more.head? = some g ∧ g.index = s.ldg.next ∧ fld 4 1 g.bytes = 3 ∧ fld 16 1 g.bytes = 0x40 ∧
              ∀ i < 6, fld (36 + 4 * i) 4 g.bytes = s.ldg.dropped.getD (i + 2) 0 % 2 ^ 32)) ∧
    (∀ u t1, s.ldg.retryAt = some t1 → s.ldg.fault = true → s.ldg.prog = none → s.clk.pfw = none → ReachesRef s u t1 →
      exec .flashRetry s = .next { u with ldg := { u.ldg with prog := some u.clk.ref, retryAt := none } }))

/-- R305, R308 to R312; time stands at the events' instants (log 6). -/
def Obligations.ObjectOperationsTakeReplyLoadAndTimeOut : Prop :=
  (∀ (s : State) (c : CoreId) (rs : Reg) (x : Ctx) (ws : List Word),
    let u := issued s x rs
    let a := getG u x rs
    let w := rw ws 1
    let buf := w32 (bits (rw ws 2) 19 0)
    let kind (o : Nat) : Nat := if o % 256 < 0x80 then 1 else if o % 256 < 0xC0 then 2 else 3
    let resp (r : ObjReq) (st : Nat) (d : List Byte) : List Byte :=
      let e := if st = 0 then d.take 1024 else []
      [BitVec.ofNat 8 ((if r.exec then 3 else kind r.oid) + 0x80), BitVec.ofNat 8 st] ++ le 2 r.reqid ++ le 4 r.oid ++ le 4 r.offset ++ le 2 e.length ++ [0, 0] ++ e
    (Issues s c rs .obj .more 4 x ws → isWorld x = true →
      let opn := w.getLsbD 0
      let good : Prop := w &&& 0x00E008FE = 0 ∧ rw ws 2 &&& 0x80000000 = 0 ∧ bufOk u (worldOfCtx x) buf 1024 = true
      let q := if opn then u.obj.openQ else u.obj.legalQ
      (x = .world .opn → opn = false → exec (.objTake c rs) s = declines u x 2) ∧
      (¬(x = .world .opn ∧ opn = false) → ¬good → exec (.objTake c rs) s = declines u x 6) ∧
      (¬(x = .world .opn ∧ opn = false) → good →
        (q = [] → exec (.objTake c rs) s = .next (answers u x a [(1, w32 (b2n opn)), (2, buf), (3, 0)])) ∧
        (∀ r t, q = r :: t → exec (.objTake c rs) s = .next (answers
          (dataWrite { u with obj := { u.obj with taken := u.obj.taken ++ [r], openQ := if opn then t else u.obj.openQ, legalQ := if opn then u.obj.legalQ else t } }
            x buf r.data) x a
          [(1, w32 (r.handle * 2 ^ 24 + q.length * 65536 + 32768 * b2n r.exec + 4096 * r.role + 256 * r.master + b2n opn)),
            (2, w32 (r.data.length * 2 ^ 20 + buf.toNat)), (3, w32 r.oid)])))) ∧
    (Issues s c rs .obj .more 4 x ws → isWorld x = true →
      let n := bits (rw ws 2) 30 20
      let st := bits w 3 0
      let hit (r : ObjReq) : Bool := r.handle == bits w 31 24
      let good : Prop := w &&& 0x00FFFFF0 = 0 ∧ rw ws 2 &&& 0x80000000 = 0 ∧ rw ws 3 = 0 ∧ st ≤ 9 ∧ n ≤ 1024 ∧ bufOk u (worldOfCtx x) buf n = true
      (∀ r, u.obj.taken.find? hit = some r → x = .world .opn → r.opn = false → exec (.objReply c rs) s = declines u x 2) ∧
      (¬good → (∀ r, u.obj.taken.find? hit = some r → x = .world .opn → r.opn = true) → exec (.objReply c rs) s = declines u x 6) ∧
      (good → u.obj.taken.find? hit = none → exec (.objReply c rs) s = declines u x 4) ∧
      (∀ r, good → u.obj.taken.find? hit = some r → (x = .world .opn → r.opn = true) → ¬Room u x .obj → exec (.objReply c rs) s = declines u x 8) ∧
      (∀ r, good → u.obj.taken.find? hit = some r → (x = .world .opn → r.opn = true) → Room u x .obj →
        exec (.objReply c rs) s = .next (accepts
          (objAnswer { u with obj := { u.obj with taken := u.obj.taken.eraseP hit } } r.master r.node (resp r st (dataRead u x buf n)))
          u x a .obj 1 ws (some 0) []))) ∧
    (Issues s c rs .obj .more 3 x ws →
      let img := w32 (bits w 19 0)
      let n := unle (dataRead u x img 4)
      let b := dataRead u x img (20 + 12 * n)
      let f (i k : Nat) : Nat := fld (16 + 12 * i + 4 * k) 4 b
      let entry (i : Nat) : Prop := f i 1 / 2 ^ 24 = 0 ∧ f i 2 < 2 ^ 18 ∧ nbits (f i 0) 23 8 ≤ nbits (f i 1) 23 8 ∧ f i 0 % 256 ≤ f i 1 % 256 ∧
        ∀ role < 6, ∀ k < 3, (f i 2).testBit (3 * role + k) = true →
          ∀ at1, f i 0 % 256 ≤ at1 → at1 ≤ f i 1 % 256 → kind at1 = k + 1 → ceiling role (nbits (f i 0) 31 24) at1 = true
      let good : Prop := w &&& 0xFFF00000 = 0 ∧ bufOk u .legal img 4 = true ∧ 1 ≤ n ∧ n ≤ 2048 ∧ bufOk u .legal img (20 + 12 * n) = true ∧
        slice 9 7 b = List.replicate 7 0 ∧ (∀ i < 5, fld (4 + i) 1 b < 64 ∨ fld (4 + i) 1 b = 0xFF) ∧ (∀ i < n, entry i) ∧
        fld (16 + 12 * n) 4 b = (crc32c (b.take (16 + 12 * n))).toNat
      (x = .world .opn → exec (.objAcl c rs) s = declines u x 2) ∧
      (x = .world .legal → ¬good → exec (.objAcl c rs) s = declines u x 6) ∧
      (x = .world .legal → good → u.clk.mode ≠ 4 → exec (.objAcl c rs) s = declines u x 7) ∧
      (x = .world .legal → good → u.clk.mode = 4 → Room u x .obj → Completes (exec (.objAcl c rs) s) fun t =>
        t.obj.aclGen = u.obj.aclGen + 1 ∧ t.obj.aclImage = b ∧ t.obj.acl.length = n ∧ t.obj.keySlots = (List.range 5).map (fun i => fld (4 + i) 1 b) ∧
        (∀ i < n, t.obj.acl[i]? = some { cls := nbits (f i 0) 31 24, instLo := nbits (f i 0) 23 8, attrLo := f i 0 % 256, instHi := nbits (f i 1) 23 8,
                                         attrHi := f i 1 % 256, rights := f i 2 }) ∧
        t.obj.ports = u.obj.ports ∧ t.obj.site = u.obj.site ∧ t.obj.legalQ = u.obj.legalQ ∧ t.obj.openQ = u.obj.openQ ∧
        Recorded u t .obj 0x43 ([0xFFFFFFFF, w32 (u.obj.aclGen + 1)] ++ (List.range 8).map fun i => w32 (fld (4 * i) 4 (sha256 b))) ∧
        t.posts = u.posts ++ [{ unit := .obj, world := .legal, live := true, addr := a.toNat, op := 2, words := ws, outcome := some 0,
                                results := [(2, w32 (u.obj.aclGen + 1))] }])) ∧
    (Issues s c rs .obj .read 6 x ws →
      let role (i : Nat) : Nat := (u.obj.ports.getD i Assoc.zero).role
      let good : Prop := rw ws 1 &&& 0xFFFFE0E0 = 0 ∧ rw ws 2 &&& 0xFFE0F888 = 0
      (¬good → exec (.objRdst c rs) s = declines u x 6) ∧
      (good → exec (.objRdst c rs) s = .next (answers u x a [(1, w32 (256 * u.obj.openQ.length + u.obj.legalQ.length)),
        (2, w32 (65536 * u.obj.site.length + 256 * role 2 + 16 * role 1 + role 0)), (3, w32 u.obj.authFail), (4, w32 u.obj.abandoned), (5, w32 u.obj.aclGen)])))) ∧
  (∀ s : State, alive s = true →
    let kind (o : Nat) : Nat := if o % 256 < 0x80 then 1 else if o % 256 < 0xC0 then 2 else 3
    let busy (r : ObjReq) : List Byte :=
      [BitVec.ofNat 8 ((if r.exec then 3 else kind r.oid) + 0x80), 1] ++ le 2 r.reqid ++ le 4 r.oid ++ le 4 r.offset ++ [0, 0] ++ [0, 0]
    let more (o : Obj) : Nat := min 0xFFFFFFFF (o.abandoned + 1)
    (∀ (u : State) (w : World) (r : ObjReq),
      let mine (r : ObjReq) : Bool := r.opn == (w == .opn)
      (s.obj.taken.find? mine = some r → Reaches s u (r.born + 8000000) →
        exec (.requestTimeout w) s = .next (objAnswer { u with obj := { u.obj with taken := u.obj.taken.eraseP mine, abandoned := more u.obj } } r.master r.node (busy r))) ∧
      (∀ t, s.obj.taken.find? mine = none → (if w = .opn then s.obj.openQ else s.obj.legalQ) = r :: t → Reaches s u (r.born + 8000000) →
        exec (.requestTimeout w) s = .next (objAnswer { u with obj := { u.obj with
          abandoned := more u.obj, openQ := if w = .opn then t else u.obj.openQ, legalQ := if w = .opn then u.obj.legalQ else t } } r.master r.node (busy r)))) ∧
    (∀ (u : State) (m : ObjMaster) (node : Nat), m ≠ .site →
      let p := match m with | .hosta => 0 | .hostb => 1 | _ => 2
      Reaches s u ((s.obj.ports.getD p Assoc.zero).last + 1200000000) →
      exec (.associationIdleTimeout m node) s = .next { u with
        obj := { u.obj with ports := u.obj.ports.set p Assoc.zero }, hst := u.hst.modify p fun h => { h with sub := 0, subExt := false } }) ∧
    (∀ (u : State) (node : Nat) (b : Assoc), s.obj.site.find? (fun b => b.node == node) = some b → Reaches s u (b.last + 1200000000) →
      exec (.associationIdleTimeout .site node) s = .next { u with obj := { u.obj with site := u.obj.site.filter fun b => b.node != node } }))

/-- R303 to R307, R309 to R311, R313 and Tables 10.11 to 10.14. -/
def Obligations.ObjectRequestsAreJudgedServedAndQueued : Prop :=
  ∀ (s : State) (m : ObjMaster) (node reqid : Nat), alive s = true → s.clk.bootStage ≠ 3 → s.obj.ports.length = 3 → s.obj.fails.length = 4 → s.obj.lockEnd.length = 4 →
    reqid < 2 ^ 16 →
    (∀ oid off len d, absentUnit s .sit = true → ∀ i ∈ [Instr.read .site node reqid oid off len, .write .site node reqid oid d, .exec .site node reqid oid d,
      .authBegin .site node reqid d, .authProve .site node reqid d true, .logout .site node reqid], exec i s = .next s) ∧
    ((m = .site → absentUnit s .sit = false) →
    let k := match m with | .hosta => 0 | .hostb => 1 | .site => 2 | .optical => 3
    let p := match m with | .hosta => 0 | .hostb => 1 | _ => 2
    let here (b : Assoc) : Bool := b.node == node
    let new : Assoc := { Assoc.zero with node := node, last := now s }
    let site (l : List Assoc) : State := { s with obj := { s.obj with site := l } }
    let resp (opc oid off st : Nat) (d : List Byte) : List Byte :=
      [BitVec.ofNat 8 (opc + 0x80), BitVec.ofNat 8 st] ++ le 2 reqid ++ le 4 oid ++ le 4 off ++ le 2 d.length ++ [0, 0] ++ d
    let asks (opc oid off len : Nat) (d : List Nat) : Instr :=
      match opc with
      | 1 => .read m node reqid oid off len
      | 2 => .write m node reqid oid d
      | _ => .exec m node reqid oid d
    (m = .site → s.obj.site.find? here = none → 16 ≤ s.obj.site.length → (∀ b ∈ s.obj.site, b.role ≠ 0) → ∀ oid off len, oid < 2 ^ 32 → off < 2 ^ 32 →
      exec (.read m node reqid oid off len) s = .next (objAnswer s 2 node (resp 1 oid off 1 []))) ∧
    (∀ (v : State) (b : Assoc),
      ((m ≠ .site ∧ b = { s.obj.ports.getD p Assoc.zero with last := now s } ∧ v = { s with obj := { s.obj with ports := s.obj.ports.set p b } }) ∨
        (m = .site ∧ ∃ b0, s.obj.site.find? here = some b0 ∧ b = { b0 with last := now s } ∧ v = site (s.obj.site.map fun z => if here z then b else z)) ∨
        (m = .site ∧ s.obj.site.find? here = none ∧ s.obj.site.length < 16 ∧ b = new ∧ v = site (s.obj.site ++ [new])) ∨
        (m = .site ∧ s.obj.site.find? here = none ∧ 16 ≤ s.obj.site.length ∧ b = new ∧
          ∃ z ∈ s.obj.site, z.role = 0 ∧ (∀ y ∈ s.obj.site, y.role = 0 → z.last ≤ y.last) ∧ (∀ y ∈ s.obj.site, y.role = 0 → y.last = z.last → y = z) ∧
            v = site ((s.obj.site.filter fun y => y.node != z.node) ++ [new]))) →
      let open1 := (s.obj.legalQ ++ s.obj.openQ ++ s.obj.taken).filter fun r => r.master == k
      let dup : Prop := 16 ≤ open1.length ∨ ∃ r ∈ open1, r.reqid = reqid
      let boot : Prop := s.clk.bootStage < 2 ∧ s.clk.mode = 1
      let gives (t : State) (b' : Assoc) : Prop :=
        if m = .site then t.obj.site.find? here = some b' else t.obj.ports = s.obj.ports.set p b'
      (∀ (opc oid off len : Nat) (d : List Nat), 1 ≤ opc → opc ≤ 3 → oid < 2 ^ 32 → off < 2 ^ 32 → len < 2 ^ 16 → (opc ≠ 1 → off = 0 ∧ len = d.length) →
        let cls := oid / 2 ^ 24
        let inst := oid / 256 % 65536
        let at1 := oid % 256
        let q := if 0x80 ≤ cls then s.obj.openQ else s.obj.legalQ
        let waits : Prop := opc ≠ 1 ∨ 0x80 ≤ cls
        let absent : Prop := (cls = 0x0E ∧ s.fuse.variant.sit = false) ∨ (cls = 0x0F ∧ s.fuse.variant.dpy = false)
        let kind := if at1 < 0x80 then 0 else if at1 < 0xC0 then 1 else 2
        let driver : Prop := cls = 6 → inst = b.mp ∧ if at1 = 1 then (bp s inst).lastClose ≠ [] ∧ fld 16 4 (bp s inst).lastClose = b.sessid
          else ∃ z, (bp s inst).sess = some z ∧ z.id.toNat = b.sessid
        let right : Prop := (∃ e, s.obj.acl.find? (fun e => e.cls == cls && decide (e.instLo ≤ inst ∧ inst ≤ e.instHi ∧ e.attrLo ≤ at1 ∧ at1 ≤ e.attrHi)) = some e ∧
          e.rights.testBit (3 * b.role + kind) = true) ∧ ceiling b.role cls at1 = true ∧ (kind = 0 ∨ lcState s < 5) ∧ (b.role = 1 → driver)
        let unread : Prop :=
          if cls = 0x0B ∧ at1 = 1 then len % 128 ≠ 0 ∨ len = 0 ∨ s.ldg.next < off + len / 128
          else if cls = 0x0D ∧ inst = 0xFFFF then len % 32 ≠ 0 ∨ len = 0 ∨ ∃ i < len / 32, s.tmp.ring.find? (fun e => e.eseq == off + i) = none
          else (cls = 0x0E ∧ nbrKnown s inst = false) ∨ (objValue s k b cls inst at1).length < off + len
        let range : Prop := opc ≠ kind + 1 ∨ listed cls inst at1 = false ∨ 1024 < len ∨ (opc ≠ 1 ∧ 1024 < d.length) ∨ (¬waits ∧ unread)
        let busy : Prop := boot ∨ (waits ∧ (s.clk.mode = 1 ∨ s.hl.restarting = true ∨ s.legal.released = false))
        let full : Prop := waits ∧ 16 ≤ q.length
        let refuses (st : Nat) : Prop := exec (asks opc oid off len d) s = .next (objAnswer v k node (resp opc oid off st []))
        (absent → refuses 3) ∧ (¬absent → ¬right → refuses 2) ∧ (¬absent → right → range → refuses 6) ∧ (¬absent → right → ¬range → dup → refuses 7) ∧
        (¬absent → right → ¬range → ¬dup → busy → refuses 1) ∧ (¬absent → right → ¬range → ¬dup → ¬busy → full → refuses 8) ∧
        (¬absent → right → ¬range → ¬dup → ¬busy → ¬full →
          let gets (d : List Byte) : Prop := exec (asks opc oid off len []) s = .next (objAnswer v k node (resp 1 oid off 0 d))
          let cut (val : List Byte) : Prop := gets ((val.drop off).take len)
          (¬waits → cls = 0x0B → at1 = 1 →
            (∀ rs : List (List Byte), rs.length = len / 128 →
              (∀ i r, rs[i]? = some r → ∃ z, s.ldg.recs.find? (fun r => r.index == off + i) = some z ∧ z.bytes = r) → (∀ r ∈ rs, r.length = 128) → gets rs.flatten)) ∧
          (¬waits → ¬(cls = 0x0B ∧ at1 = 1) → ¬(cls = 0x0D ∧ inst = 0xFFFF) → ¬(cls = 0x0E) → cut (objValue s k b cls inst at1)) ∧
          (¬waits → cls = 4 → at1 ≤ 6 → cut ((List.range 9).flatMap fun i =>
            le 8 (((bp s (inst / 2)).regs.getD (at1 + 7 * (inst % 2)) []).getD i 0 / 256))) ∧
          (¬waits → cls = 1 → at1 = 1 → cut (le 4 (lcState s))) ∧ (¬waits → cls = 1 → at1 = 3 → cut (le 8 (btNow s))) ∧
          (waits → Completes (exec (asks opc oid off len d) s) fun t =>
            ∃ r, (if 0x80 ≤ cls then t.obj.openQ = s.obj.openQ ++ [r] ∧ t.obj.legalQ = s.obj.legalQ else t.obj.legalQ = s.obj.legalQ ++ [r] ∧ t.obj.openQ = s.obj.openQ) ∧
              r.master = k ∧ r.node = node ∧ r.reqid = reqid ∧ r.oid = oid ∧ r.offset = off ∧ (r.exec = true ↔ opc = 3) ∧ r.role = b.role ∧ r.born = now s ∧ (r.opn = true ↔ 0x80 ≤ cls) ∧
              r.data = (if opc = 1 then [] else d.map (BitVec.ofNat 8)) ∧
              ((s.obj.legalQ ++ s.obj.openQ ++ s.obj.taken).length < 256 → ∀ y ∈ s.obj.legalQ ++ s.obj.openQ ++ s.obj.taken, y.handle < 256 → s.obj.handle < 256 → y.handle ≠ r.handle) ∧
              t.hst = s.hst ∧ t.obj.taken = s.obj.taken ∧ t.legal.ctl.evpend.getLsbD 7 = true ∧ (0x80 ≤ cls → t.opn.ctl.evpend.getLsbD 7 = true)))) ∧
      (∀ d : List Nat,
        let role := d.getD 0 0 % 256
        let lc := lcState s
        let granted : Prop := (role = 1 ∧ (lc = 2 ∨ lc = 3)) ∨ ((role = 2 ∨ role = 3) ∧ 2 ≤ lc ∧ lc ≤ 4) ∨ (role = 4 ∧ 1 ≤ lc ∧ lc ≤ 5) ∨ (role = 5 ∧ (lc = 1 ∨ lc = 2 ∨ lc = 4))
        let named : Prop := s.obj.keySlots.getD ([9, 4, 2, 3, 1, 0].getD role 9) 0xFF < 64
        let valid : Prop := 1 ≤ role ∧ role ≤ 5
        let refuses (st : Nat) : Prop := exec (.authBegin m node reqid d) s = .next (objAnswer v k node (resp 4 0 0 st []))
        let wait : Prop := boot ∨ now s < s.obj.lockEnd.getD k 0 ∨ (s.key.drbgOk = true ∧ (65536 ≤ s.key.requests ∨ s.key.reseedAt + 1440000000 ≤ s.clk.ref))
        d.length < 2 ^ 16 →
        (valid → ¬(granted ∧ named) → d ≠ [] → refuses 2) ∧ (d.length ≠ 1 → valid → granted → named → refuses 6) ∧ (d.length = 1 → ¬valid → refuses 6) ∧
        (d.length = 1 → valid → granted → named → dup → refuses 7) ∧ (d.length = 1 → valid → granted → named → ¬dup → wait → refuses 1) ∧
        (d.length = 1 → valid → granted → named → ¬dup → ¬wait → s.key.drbgOk = false → refuses 9) ∧
        (d.length = 1 → valid → granted → named → ¬dup → ¬wait → s.key.drbgOk = true →
          ∃ n : List Byte, n.length = 16 ∧ Completes (exec (.authBegin m node reqid d) s) fun t =>
            gives t { b with nonce := some (n, role, now s) } ∧ t.key = { s.key with requests := s.key.requests + 1 } ∧
            t.hst = (objAnswer s k node (resp 4 0 0 0 n)).hst ∧ t.obj.siteOut = (objAnswer s k node (resp 4 0 0 0 n)).obj.siteOut)) ∧
      (∀ (n : List Byte) (role t1 : Nat) (d : List Nat) (agree : Bool), b.nonce = some (n, role, t1) → d.length < 2 ^ 16 →
        let proof : List Byte := d.map (BitVec.ofNat 8)
        let ok : Prop := roleGranted role (lcState s) = true ∧ proofOk s k role n proof = true
        let run := exec (.authProve m node reqid d agree) s
        let tells (t : State) (st : Nat) : Prop := t.hst = (objAnswer s k node (resp 5 0 0 st [])).hst ∧ t.obj.siteOut = (objAnswer s k node (resp 5 0 0 st [])).obj.siteOut
        let got : Assoc := { b with nonce := none, role := role, mp := if role = 1 then fld 4 1 proof else 0, sessid := if role = 1 then fld 0 4 proof else 0 }
        let f := s.obj.fails.getD k 0 + 1
        (∀ pub, 2 ≤ role → rolePub s role = some pub →
          proofOk s k role n proof = (decide (d.length = 64) && ecdsaVerify pub (sha256 (n ++ (le 4 s.fuse.uidLo.toNat ++ le 4 s.fuse.uidHi.toNat) ++
            [BitVec.ofNat 8 (4 + k), BitVec.ofNat 8 role])) proof)) ∧
        (t1 + 40000000 < now s → Completes run fun t => gives t { b with nonce := none } ∧ tells t 7) ∧
        (now s ≤ t1 + 40000000 → ok → dup → Completes run fun t => gives t { b with nonce := none } ∧ tells t 7) ∧
        (now s ≤ t1 + 40000000 → ok → ¬dup → boot → Completes run fun t => gives t { b with nonce := none } ∧ tells t 1) ∧
        (now s ≤ t1 + 40000000 → ok → ¬dup → ¬boot → role ≠ 4 → role ≠ 5 → Completes run fun t => gives t got ∧ t.obj.fails = s.obj.fails.set k 0 ∧ tells t 0 ∧ t.ldg = s.ldg) ∧
        (now s ≤ t1 + 40000000 → ok → ¬dup → ¬boot → role = 4 ∨ role = 5 → agree = true → Completes run fun t =>
          gives t got ∧ t.obj.fails = s.obj.fails.set k 0 ∧ tells t 0 ∧ Recorded s t .obj 0x45 [0xFFFFFFFF, w32 (4 + k), w32 role]) ∧
        (now s ≤ t1 + 40000000 → ok → ¬dup → ¬boot → role = 4 ∨ role = 5 → agree = false → Completes run fun t => gives t { b with nonce := none } ∧ tells t 9 ∧ s.clk.ref ∈ t.tmp.notes) ∧
        (now s ≤ t1 + 40000000 → ¬ok → Completes run fun t =>
          gives t { b with nonce := none } ∧ tells t 2 ∧ t.obj.fails = s.obj.fails.set k f ∧ t.obj.authFail = min 0xFFFFFFFF (s.obj.authFail + 1) ∧
          t.obj.lockEnd = s.obj.lockEnd.set k (now s + 4000000 * min 1024 (2 ^ (f - 1))) ∧ Recorded s t .obj 0x44 [0xFFFFFFFF, w32 (4 + k), w32 role, w32 f])) ∧
      (¬dup → ¬boot → Completes (exec (.logout m node reqid) s) fun t =>
        (if m = .site then t.obj.site.find? here = none ∧ t.obj.siteOut = s.obj.siteOut ++ [(node, resp 6 0 0 0 [])]
         else t.obj.ports = s.obj.ports.set p Assoc.zero ∧
          t.hst = s.hst.modify p fun h => { h with sub := 0, subExt := false, objs := h.objs ++ [resp 6 0 0 0 []] }))))

/-- R324, R326, R327, R329 to R331, R333, R334, R341, R342; the operations run when they complete (next statement). -/
def Obligations.KeyOperationsAreJudgedAndAccepted : Prop :=
  ∀ (s : State) (c : CoreId) (rs : Reg) (x : Ctx) (ws : List Word), isWorld x = true → s.key.recs.length = 64 → s.key.cache.length = 64 → s.key.pendKeys.length = 64 →
    let u := issued s x rs
    let a := getG u x rs
    let w := rw ws 1
    let wd := worldOfCtx x
    let n := bits w 5 0
    let r (i : Nat) : SlotRec := u.key.recs.getD i default
    let at1 := if (r n).bank then (r n).attr1 else (r n).attr0
    let k := u.key.cache.getD n none
    let up : Prop := if n < 4 then (u.key.ks.getD n none).isSome else k.isSome
    let may (v : Word) : Prop := if wd = .legal then v.getLsbD 2 = true ∧ v.getLsbD 8 = true else v.getLsbD 3 = true ∧ v.getLsbD 9 = true
    let dead : Prop := u.key.scuttle ≠ 0
    let buf (i len : Nat) : Prop := bufOk u wd (rw ws i) len = true
    let uses (i : Instr) (op bit : Nat) (types : Nat → Prop) (form : Prop) (late : Nat) : Prop :=
      let right : Prop := 4 ≤ n ∧ may at1 ∧ at1.getLsbD (9 + lcState u) = true ∧ at1.getLsbD bit = true ∧ types (bits at1 27 24)
      let seen : Prop := wd = .opn → may at1
      (up → ¬right → exec i s = declines u x 2) ∧ (¬seen → exec i s = declines u x 2) ∧ (up → right → ¬form → exec i s = declines u x 6) ∧
      (¬up → seen → ¬form → exec i s = declines u x 6) ∧ (¬up → seen → form → exec i s = declines u x 7) ∧
      (∀ z, k = some z → right → form →
        (z.gen ≠ (r n).gen → exec i s = declines u x 4) ∧ (z.gen = (r n).gen → ¬Room u x .key → exec i s = declines u x 8) ∧
        (z.gen = (r n).gen → Room u x .key → exec i s = if late = 0 then .next (accepts u u x a .key op ws none []) else declines u x late))
    let len := if (rw ws 3).getLsbD 16 then 32 else bits (rw ws 3) 15 0
    let msg (out : Nat) : Prop := w &&& 0xFFFFFFC0 = 0 ∧ rw ws 3 &&& 0xFFFE0000 = 0 ∧ 1 ≤ len ∧ len ≤ 4096 ∧ buf 2 len ∧ buf 4 out
    let answered (t : State) (op : Nat) (res : List (Nat × Word)) : Prop := t.posts.getLast? =
      some { unit := .key, world := wd, live := true, addr := a.toNat, op := op, words := ws, outcome := some 0, results := res }
    let revoked (t : State) : Prop := ∀ (i : Nat) (p : Posted), u.posts[i]? = some p → p.unit = .key → p.op ≤ 5 → bits (rw p.words 1) 5 0 = n → p.outcome = none →
      t.posts[i]? = some { p with outcome := some 5 }
    (Issues s c rs .key .more 6 x ws →
      (dead → exec (.keySign c rs) s = declines u x 2 ∧ exec (.keyMac c rs) s = declines u x 2 ∧ exec (.keyAttest c rs) s = declines u x 2) ∧
      (¬dead → uses (.keySign c rs) 0 19 (· = 3) (msg 64 ∧ rw ws 5 = 0) (if u.key.drbgOk then 0 else 9)) ∧
      uses (.keyVerify c rs) 1 19 (fun t => t = 3 ∨ t = 4) (msg 64 ∧ rw ws 5 &&& 0xFFFFFFFE = 0) 0 ∧
      (¬dead → uses (.keyMac c rs) 2 20 (· = 2) (msg 32 ∧ (rw ws 3).getLsbD 16 = false ∧ rw ws 5 = 0) 0) ∧
      (5 ≤ lcState u → exec (.keyAttest c rs) s = declines u x 2) ∧
      (¬dead → lcState u < 5 →
        let form : Prop := w &&& 0xFFFFFFFE = 0 ∧ rw ws 4 &&& 0xFFFF0000 = 0 ∧ rw ws 5 &&& 0xFFFF0000 = 0 ∧ buf 2 16 ∧ buf 3 (min 617 (bits (rw ws 4) 15 0))
        (¬form → exec (.keyAttest c rs) s = declines u x 6) ∧
        (form → Room u x .key → u.key.drbgOk = false → exec (.keyAttest c rs) s = declines u x 9) ∧
        (form → Room u x .key → u.key.drbgOk = true → exec (.keyAttest c rs) s = .next (accepts
          (if w.getLsbD 0 = true ∧ u.fuse.variant.dpy = true then { u with dpy := { u.dpy with attWait := true } } else u) u x a .key 11 ws none [])))) ∧
    (Issues s c rs .key .more 8 x ws → ∀ i ∈ [Instr.keyGcmEncrypt c rs, .keyGcmDecrypt c rs],
      (dead → exec i s = declines u x 2) ∧
      (¬dead → uses i 3 21 (· = 1) (w &&& 0xFFFFFEC0 = 0 ∧ bits (rw ws 4) 31 16 ≤ 4096 ∧ bits (rw ws 4) 15 0 ≤ 4096 ∧ buf 2 12 ∧ buf 3 (bits (rw ws 4) 31 16) ∧
        buf 5 (bits (rw ws 4) 15 0) ∧ buf 6 (bits (rw ws 4) 15 0) ∧ buf 7 16) 0)) ∧
    (Issues s c rs .key .more 5 x ws →
      (dead → exec (.keyDerive c rs) s = declines u x 2 ∧ exec (.keyWrap c rs) s = declines u x 2 ∧ exec (.keyUnwrap c rs) s = declines u x 2) ∧
      (¬dead →
        let any : Prop := w.getLsbD 14 = true
        let v := rw ws 4
        let m := bits (rw ws 3) 6 0
        uses (.keyDerive c rs) 4 22 (fun _ => True)
          (w &&& 0xFFFF80C0 = 0 ∧ rw ws 3 &&& 0x00FFFF80 = 0 ∧ m ≤ 64 ∧ 4 ≤ n ∧ attrValid v = true ∧ bits v 27 24 ≠ 4 ∧ (up → v &&& ~~~at1 &&& 0x00F8FFFF = 0) ∧
            (¬any → slotFree u (bits w 13 8) = true) ∧ buf 2 m)
          (if w.getLsbD 14 = true ∧ lowestFree u = none then 8 else 0)) ∧
      (¬dead →
        let form : Prop := w &&& 0xFFFFFFC0 = 0 ∧ rw ws 3 &&& 0xFF000000 = 0 ∧ 4 ≤ n ∧ rw ws 4 = 0 ∧ buf 2 72
        (∀ p, u.key.pendKeys.getD n none = some p →
          let v := if (r n).bank then (r n).attr0 else (r n).attr1
          let right : Prop := may v ∧ v.getLsbD (9 + lcState u) = true ∧ v.getLsbD 23 = true
          (¬right → exec (.keyWrap c rs) s = declines u x 2) ∧ (right → ¬form → exec (.keyWrap c rs) s = declines u x 6) ∧
          (right → form → ¬Room u x .key → exec (.keyWrap c rs) s = declines u x 8) ∧
          (right → form → Room u x .key → exec (.keyWrap c rs) s = .next (accepts u u x a .key 5 ws none []))) ∧
        (u.key.pendKeys.getD n none = none → uses (.keyWrap c rs) 5 23 (fun _ => True) form 0)) ∧
      (¬dead → ¬buf 2 72 → exec (.keyUnwrap c rs) s = declines u x 6) ∧
      (¬dead → buf 2 72 →
        let b := dataRead u x (rw ws 2) 16
        let v := w32 (fld 8 4 b)
        let mine : Prop := fld 2 1 b = (if wd = .legal then 1 else 2) ∧ (wd = .opn → may v)
        let form : Prop := fld 0 1 b = 1 ∧ fld 7 1 b = 0 ∧ fld 13 3 b = 0 ∧ v &&& 0xF0070000 = 0 ∧ (fld 1 1 b = 0xFF ∨ (4 ≤ fld 1 1 b ∧ fld 1 1 b < 64)) ∧
          (fld 12 1 b < 64 ∨ fld 12 1 b = 0x7F) ∧ w &&& 0xFFFFFFC0 = 0 ∧ rw ws 3 &&& 0xFF000000 = 0 ∧ rw ws 4 = 0
        (¬mine → exec (.keyUnwrap c rs) s = declines u x 2) ∧ (mine → ¬form → exec (.keyUnwrap c rs) s = declines u x 6) ∧
        (mine → form → Room u x .key → exec (.keyUnwrap c rs) s = .next (accepts u u x a .key 6 ws none [])))) ∧
    (Issues s c rs .key .more 12 x ws →
      let p := bits w 14 8
      let v := rw ws 2
      let form : Prop := w &&& 0xFEFF80C0 = 0 ∧ rw ws 11 &&& 0xFF000000 = 0 ∧ 4 ≤ n ∧ ((4 ≤ p ∧ p < 64) ∨ p = 0x7F) ∧ attrValid v = true
      let mat : List Byte := (List.range 8).flatMap fun j => le 4 (rw ws (3 + j)).toNat
      let g := (max (r n).gen (r n).pendGen + 1) % 2 ^ 24
      (dead ∨ wd = .opn → exec (.keyWrite c rs) s = declines u x 2) ∧
      (¬dead → wd = .legal → ¬form → exec (.keyWrite c rs) s = declines u x 6) ∧
      (¬dead → wd = .legal → form → (r n).pend = true → exec (.keyWrite c rs) s = declines u x 7) ∧
      (¬dead → wd = .legal → form → (r n).pend = false → Room u x .key → Completes (exec (.keyWrite c rs) s) fun t =>
        let z := t.key.recs.getD n default
        z.pend = true ∧ z.pendGen = g ∧ z.gen = (r n).gen ∧ z.st = (r n).st ∧ z.bank = (r n).bank ∧ z.vol = (r n).vol ∧
        (if (r n).bank then z.attr0 = v ∧ z.link0 = p ∧ z.attr1 = (r n).attr1 ∧ z.link1 = (r n).link1 ∧ z.pub1 = (r n).pub1
         else z.attr1 = v ∧ z.link1 = p ∧ z.attr0 = (r n).attr0 ∧ z.link0 = (r n).link0 ∧ z.pub0 = (r n).pub0) ∧
        (bits v 27 24 ≠ 4 → t.key.pendKeys = u.key.pendKeys.set n (some mat)) ∧
        (bits v 27 24 = 4 → t.key.pendKeys = u.key.pendKeys.set n (some (fit 64 (p256Decompress mat (w.getLsbD 24))))) ∧
        t.key.cache = u.key.cache ∧ (∀ i, i ≠ n → t.key.recs.getD i default = r i) ∧ answered t 7 [(11, w32 g)])) ∧
    (Issues s c rs .key .more 3 x ws →
      (dead ∨ wd = .opn → exec (.keyCommit c rs) s = declines u x 2) ∧
      (¬dead → wd = .legal → w &&& 0xFFFFFFC0 ≠ 0 ∨ rw ws 2 &&& 0xFF000000 ≠ 0 → exec (.keyCommit c rs) s = declines u x 6) ∧
      (¬dead → wd = .legal → w &&& 0xFFFFFFC0 = 0 → rw ws 2 &&& 0xFF000000 = 0 →
        ((r n).pend = false ∨ (rw ws 2).toNat ≠ (r n).pendGen → exec (.keyCommit c rs) s = declines u x 4) ∧
        ((r n).pend = true → (rw ws 2).toNat = (r n).pendGen → Room u x .key → Completes (exec (.keyCommit c rs) s) fun t =>
          let g := (r n).pendGen
          t.key.recs.getD n default = { r n with gen := g, bank := !(r n).bank, st := 1, pend := false, vol := false } ∧
          t.key.cache.getD n none = (u.key.pendKeys.getD n none).map (fun m => { key := m, gen := g }) ∧ t.key.pendKeys = u.key.pendKeys.set n none ∧
          (∀ i < 64, i ≠ n → (r i).vol = true → (u.key.cache.getD i none).isSome → (if (r i).bank then (r i).link1 else (r i).link0) = n →
            t.key.cache.getD i none = none ∧ t.key.recs.getD i default = SlotRec.zero) ∧
          revoked t ∧ answered t 8 [] ∧ Recorded u t .key 0x4A [0xFFFFFFFF, w32 n, w32 g, if (r n).bank then (r n).attr0 else (r n).attr1])) ∧
      (dead ∨ (wd = .opn ∧ ¬may at1) → exec (.keyInval c rs) s = declines u x 2) ∧
      (¬dead → (wd = .opn → may at1) → w &&& 0xFFFFFFC0 ≠ 0 ∨ rw ws 2 &&& 0xFFFFFF80 ≠ 0 ∨ n < 4 → exec (.keyInval c rs) s = declines u x 6) ∧
      (¬dead → (wd = .opn → may at1) → w &&& 0xFFFFFFC0 = 0 → rw ws 2 &&& 0xFFFFFF80 = 0 → 4 ≤ n → Room u x .key → Completes (exec (.keyInval c rs) s) fun t =>
        let gone := (List.range 64).filter fun i => (u.key.cache.getD i none).isSome && (t.key.cache.getD i none).isNone
        ((r n).vol = false → t.key.recs.getD n default = { r n with st := 2 }) ∧ t.key.cache.getD n none = none ∧ t.key.pendKeys = u.key.pendKeys.set n none ∧
        (∀ i < 64, (u.key.cache.getD i none).isSome → (if (r i).bank then (r i).link1 else (r i).link0) = n → t.key.cache.getD i none = none ∧
          (i ≠ n → (r i).vol = true → t.key.recs.getD i default = SlotRec.zero)) ∧
        revoked t ∧ answered t 9 [(2, w32 gone.length)] ∧ Recorded u t .key 0x4B [0xFFFFFFFF, w32 n, w32 gone.length])) ∧
    (Issues s c rs .key .more 4 x ws →
      let reseed : Prop := u.key.drbgOk = true ∧ (65536 ≤ u.key.requests ∨ u.key.reseedAt + 1440000000 ≤ u.clk.ref)
      (w ≠ 0 → exec (.keyRand c rs) s = declines u x 6) ∧ (w = 0 → reseed → exec (.keyRand c rs) s = declines u x 1) ∧
      (w = 0 → u.key.drbgOk = false → exec (.keyRand c rs) s = declines u x 9) ∧
      (w = 0 → ¬reseed → u.key.drbgOk = true → ∃ v1 v2, exec (.keyRand c rs) s =
        .next (answers { u with free := u.free + 1, key := { u.key with requests := u.key.requests + 1 } } x a [(2, v1), (3, v2)]))) ∧
    (Issues s c rs .key .more 2 x ws →
      (wd = .opn → exec (.keyMask c rs) s = declines u x 2) ∧
      (wd = .legal → w.toNat < 125 ∨ 8000 < w.toNat → exec (.keyMask c rs) s = declines u x 6) ∧
      (wd = .legal → 125 ≤ w.toNat → w.toNat ≤ 8000 → exec (.keyMask c rs) s = .next (answers { u with key := { u.key with period := w.toNat } } x a []))) ∧
    (Issues s c rs .key .more 6 x ws → rw ws 5 &&& 0x0000E000 ≠ 0 → exec (.keyRdst c rs) s = declines u x 6) ∧
    (Issues s c rs .key .more 6 x ws → rw ws 5 &&& 0x0000E000 = 0 → ∃ st lo hi,
      exec (.keyRdst c rs) s = .next (answers u x a [(1, st), (2, w32 u.key.shadow), (3, lo), (4, hi), (5, w32 (65536 * u.key.erases + u.key.period))]) ∧
      bits st 2 0 = lcState u ∧ st.getLsbD 3 = u.key.test ∧ (st.getLsbD 4 = true ↔ dead) ∧ (st.getLsbD 5 = true ↔ dead ∧ u.key.shadow.testBit 8 = false) ∧
      (u.key.ks.length = 4 → (st.getLsbD 6 = true ↔ ∀ i < 3, (u.key.ks.getD i none).isSome)) ∧ st.getLsbD 8 = u.key.drbgOk ∧ st.getLsbD 10 = u.key.entropyFail ∧
      (st.getLsbD 11 = true ↔ ∃ z ∈ u.key.recs, z.pend = true) ∧
      ∀ i < 32, 4 ≤ i → (lo.getLsbD i = (u.key.cache.getD i none).isSome ∧ hi.getLsbD i = (u.key.cache.getD (32 + i) none).isSome))

/-- R156, R158, R316 to R320, R330, R334 to R336, R341; time stands at the events' instants (log 6). -/
def Obligations.PostedOperationsRunAndKeysLiveAndDie : Prop :=
  (∀ (s : State) (un : UnitId) (w : World) (q : Posted), alive s = true →
    let mine (p : Posted) : Bool := p.unit == un && p.world == w
    let bit : Nat := unitCode un
    let flags (t : State) : Word := match w with | .legal => t.legal.ctl.evpend | .opn => t.opn.ctl.evpend
    let x := Ctx.world w
    let run := exec (.postedOperationComplete un w) s
    let ends (u : State) (o : Nat) (res : List (Nat × Word)) : State :=
      let t := { u with posts := s.posts.eraseP mine }
      if q.live then putDone (putWords t x (w32 q.addr) res) x (w32 q.addr) o else t
    let done (u : State) (o : Nat) (res : List (Nat × Word)) : Prop :=
      Completes run fun t => (q.live = false → t = ends u o res) ∧ (q.live = true → absentUnit s un = false → (flags t).getLsbD bit = true ∧
        t.posts = s.posts.eraseP mine ∧ t.key = u.key ∧ t.opn.bank = s.opn.bank ∧ t.legal.bank = s.legal.bank ∧
        ∀ i n, dataRead t x i n = dataRead (ends u o res) x i n)
    let out (u : State) (i : Nat) (b : List Byte) : State := if q.live then dataWrite u x (rw q.words i) b else u
    (s.posts.find? mine = none → run = .next s) ∧
    (∀ o, s.posts.find? mine = some q → q.outcome = some o → done s o q.results) ∧
    (s.posts.find? mine = some q → q.outcome = none → un ≠ .key → run = .next s) ∧
    (s.posts.find? mine = some q → q.outcome = none → un = .key →
      let n := bits (rw q.words 1) 5 0
      let k := s.key.cache.getD n none
      let r (i : Nat) : SlotRec := s.key.recs.getD i default
      let len := if (rw q.words 3).getLsbD 16 then 32 else bits (rw q.words 3) 15 0
      let m := dataRead s x (rw q.words 2) len
      let d := if (rw q.words 3).getLsbD 16 then m else sha256 m
      let gin := dataRead s x (rw q.words 5) (bits (rw q.words 4) 15 0)
      let aad := dataRead s x (rw q.words 3) (bits (rw q.words 4) 31 16)
      let iv := dataRead s x (rw q.words 2) 12
      (k = none → q.op < 5 → done s 5 []) ∧
      (∀ z, k = some z →
        (q.op = 0 → done (out { s with free := s.free + 1 } 4 (fit 64 (ecdsaSign z.key d s.free))) 0 []) ∧
        (q.op = 1 → done s 0 [(5, if ecdsaVerify (if (r n).bank then (r n).pub1 else (r n).pub0) d (dataRead s x (rw q.words 4) 64) then 1 else 0)]) ∧
        (q.op = 2 → done (out s 4 (hmac z.key m)) 0 []) ∧
        (q.op = 3 → (rw q.words 1).getLsbD 8 = false →
          let ct := fit gin.length (gcmCrypt z.key iv gin)
          done (out (out s 6 ct) 7 (fit 16 (gcmTag z.key iv aad ct))) 0 []) ∧
        (q.op = 3 → (rw q.words 1).getLsbD 8 = true →
          let good : Prop := fit 16 (gcmTag z.key iv aad gin) = dataRead s x (rw q.words 7) 16
          (good → done (out s 6 (fit gin.length (gcmCrypt z.key iv gin))) 0 []) ∧ (¬good → done s 9 [])) ∧
        (q.op = 4 → (rw q.words 1).getLsbD 14 = false → let i := bits (rw q.words 1) 13 8; s.key.recs.length = 64 → s.key.cache.length = 64 → slotFree s i = true →
          Completes run fun t => ∃ key, t.key.cache = s.key.cache.set i (some { key := key, gen := 0 }) ∧ (t.key.recs.getD i default).st = 1 ∧
            (t.key.recs.getD i default).vol = true ∧ (t.key.recs.getD i default).link0 = n ∧ (t.key.recs.getD i default).attr0 = rw q.words 4 ∧
            (bits (rw q.words 4) 27 24 ≠ 3 → key = kdf z.key 0x20 (if w = .legal then 1 else 2) (lcDomain (lcState s))
              (le 4 (rw q.words 4).toNat ++ dataRead s x (rw q.words 2) (bits (rw q.words 3) 6 0)) 256))) ∧
      (q.op = 5 → ∀ z, k = some z → s.key.pendKeys.getD n none = none → (r n).vol = false → ∃ b : List Byte,
        b.take 16 = [1, BitVec.ofNat 8 n, (if w = .legal then 1 else 2), BitVec.ofNat 8 (lcDomain (lcState s))] ++ le 4 (r n).gen ++
          le 4 (if (r n).bank then (r n).attr1 else (r n).attr0).toNat ++ [BitVec.ofNat 8 (if (r n).bank then (r n).link1 else (r n).link0), 0, 0, 0] ∧
        b.drop 16 = fit 56 (kwpWrap (kek s w) (b.take 16 ++ fit 32 z.key)) ∧ done (out s 2 b) 0 [(3, w32 (r n).gen)]) ∧
      (q.op = 6 → let b := dataRead s x (rw q.words 2) 72; let i := fld 1 1 b; i < 64 →
        let stale : Prop := (r i).st ≠ 1 ∨ (r i).gen ≠ fld 4 3 b ∨ chainLive s 64 (if (r i).bank then (r i).link1 else (r i).link0) = false
        (stale → done s 4 []) ∧ (¬stale → kwpUnwrap (kek s w) (slice 16 56 b) = none → done s 9 []) ∧
        (¬stale → ∀ p, kwpUnwrap (kek s w) (slice 16 56 b) = some p →
          (fld 3 1 b ≠ lcDomain (lcState s) ∨ p.take 16 ≠ b.take 16 → done s 9 []) ∧
          (fld 3 1 b = lcDomain (lcState s) → p.take 16 = b.take 16 →
            done { s with key := { s.key with cache := s.key.cache.set i (some { key := slice 16 32 p, gen := fld 4 3 b }) } } 0 [(1, w32 i), (3, w32 (fld 4 3 b))]))))) ∧
  (∀ (s : State) (c : CoreId) (rs : Reg) (x : Ctx) (ws : List Word), isWorld x = true → s.key.recs.length = 64 → s.key.cache.length = 64 →
    let u := issued s x rs
    let a := getG u x rs
    let wd := worldOfCtx x
    let hard (t : State) : Prop := (∀ b ∈ t.obj.ports, b = Assoc.zero) ∧ t.obj.site = [] ∧ t.legal.ctl.evpend.getLsbD 8 = true
    let answered (t : State) (op o : Nat) (res : List (Nat × Word)) : Prop := t.posts.getLast? =
      some { unit := .key, world := wd, live := true, addr := a.toNat, op := op, words := ws, outcome := some o, results := res }
    let erasedNow (t : State) : Prop := t.key.scuttle = 0xFFFFFFFF ∧ t.key.erases = min 65535 (u.key.erases + 1) ∧ hard t ∧ 5 ≤ lcState t ∧
      (∀ i < 3, t.key.ks.getD i none = none) ∧ (∀ p ∈ u.posts, p.unit = .key → p.outcome = none → { p with outcome := some 5 } ∈ t.posts) ∧
      (∀ i < 64, ∀ z, t.key.cache.getD i none = some z → let r := u.key.recs.getD i default
        let v := if r.bank then r.attr1 else r.attr0
        r.st = 1 ∧ bits v 27 24 = 4 ∧ v.getLsbD 14 = true ∧ z.key = if r.bank then r.pub1 else r.pub0) ∧ t.rly = u.rly
    (Issues s c rs .key .more 2 x ws →
      (wd = .opn → ∀ g, exec (.keyErase c rs g) s = declines u x 2) ∧ (wd = .legal → rw ws 1 ≠ 0 → ∀ g, exec (.keyErase c rs g) s = declines u x 6) ∧
      (wd = .legal → rw ws 1 = 0 → Room u x .key →
        (u.key.scuttle ≠ 0 → ∀ g, exec (.keyErase c rs g) s = .next (accepts u u x a .key 15 ws (some 0) [])) ∧
        (u.key.scuttle = 0 → exec (.keyErase c rs false) s = .next (accepts (notify9 u 6 1) u x a .key 15 ws (some 9) [])) ∧
        (u.key.scuttle = 0 → Completes (exec (.keyErase c rs true) s) fun t => erasedNow t ∧ answered t 15 0 []))) ∧
    (Issues s c rs .key .more 3 x ws →
      let tok := dataRead u x (rw ws 1) 80
      let goal := fld 0 1 tok
      let role := fld 1 1 tok
      let f := lcState u
      let named : Prop := (f = 1 ∧ goal = 2 ∧ role = 5) ∨ (f = 2 ∧ goal = 3 ∧ role = 4) ∨ (f = 3 ∧ goal = 4 ∧ role = 4) ∨ (f = 4 ∧ goal = 3 ∧ role = 4) ∨
        (f ≤ 4 ∧ goal = 5 ∧ (role = 4 ∨ role = 2)) ∨ (f ≠ 6 ∧ goal = 6 ∧ role = 4)
      let fit1 : Prop := fld 2 2 tok = 0 ∧ fld 4 4 tok = u.key.shadow ∧ slice 8 8 tok = le 4 u.fuse.uidLo.toNat ++ le 4 u.fuse.uidHi.toNat
      let signed : Prop := ∃ pub, rolePub u role = some pub ∧ ecdsaVerify pub (sha256 (tok.take 16)) (slice 16 64 tok) = true
      let good : Prop := named ∧ moveCond u goal = true ∧ fit1 ∧ signed
      let idle : Prop := u.key.scuttle ≠ 0 ∧ goal = 5
      (wd = .opn → ∀ g, exec (.keyLife c rs g) s = declines u x 2) ∧
      (wd = .legal → bufOk u .legal (rw ws 1) 80 = false → ∀ g, exec (.keyLife c rs g) s = declines u x 6) ∧
      (wd = .legal → bufOk u .legal (rw ws 1) 80 = true → ¬good → ¬idle → ∀ g, exec (.keyLife c rs g) s = declines u x 7) ∧
      (wd = .legal → bufOk u .legal (rw ws 1) 80 = true → idle → Room u x .key →
        ∀ g, exec (.keyLife c rs g) s = .next (accepts u u x a .key 10 ws (some 0) [(2, w32 u.key.shadow)])) ∧
      (wd = .legal → bufOk u .legal (rw ws 1) 80 = true → good → ¬idle → Room u x .key →
        exec (.keyLife c rs false) s = .next (accepts (notify9 u 6 2) u x a .key 10 ws (some 9) []) ∧
        (goal = 5 → Completes (exec (.keyLife c rs true) s) fun t => erasedNow t ∧ answered t 10 0 [(2, w32 t.key.shadow)]) ∧
        (goal = 6 → u.fuse.lc.length = 10 → Completes (exec (.keyLife c rs true) s) fun t =>
          lcState t = 6 ∧ t.fuse.lc = u.fuse.lc.set 9 3 ∧ t.key.scuttle ≠ 0 ∧ hard t ∧ answered t 10 0 [(2, w32 t.key.shadow)]) ∧
        (goal < 5 → u.fuse.lc.length = 10 → u.key.shadow = lcFuse u.fuse → Completes (exec (.keyLife c rs true) s) fun t =>
          (∃ i < 8, u.key.shadow.testBit i = false ∧ (∀ j < i, u.key.shadow.testBit j = true) ∧ t.fuse.lc = u.fuse.lc.set i 3 ∧ t.key.shadow = u.key.shadow + 2 ^ i) ∧
          lcState t = goal ∧ t.key.lastLc = t.key.shadow ∧ hard t ∧ t.key.recs = u.key.recs ∧ t.key.scuttle = u.key.scuttle ∧ answered t 10 0 [(2, w32 t.key.shadow)] ∧
          (f ≠ 1 → t.key.ks = u.key.ks) ∧
          ∀ i < 64, let r := u.key.recs.getD i default; let v := if r.bank then r.attr1 else r.attr0
            t.key.cache.getD i none = if v.getLsbD (9 + goal) = true ∧ (f = 1 → bits v 27 24 = 4) then u.key.cache.getD i none else none)))) ∧
  (∀ s : State, alive s = true →
    (∀ u, ReachesRef s u (s.key.remaskAt + 24 * s.key.period) →
      (lcFuse s.fuse = s.key.shadow →
        exec .remask s = .next { u with free := u.free + 1, key := { u.key with mask := u.free, remaskAt := u.clk.ref, misread := 0 } }) ∧
      (lcFuse s.fuse ≠ s.key.shadow → Completes (exec .remask s) fun t => u.clk.ref ∈ t.tmp.notes ∧ t.key.mask = u.free ∧ t.key.remaskAt = u.clk.ref ∧
        t.key.shadow = if s.key.misread = lcFuse s.fuse + 1 then lcFuse s.fuse else s.key.shadow)) ∧
    (∀ u, s.key.drbgOk = true → ReachesRef s u (if 65536 ≤ s.key.requests then s.clk.ref else s.key.reseedAt + 1440000000) →
      exec .drbgReseed s = .next { u with free := u.free + 1, key := { u.key with requests := 0, reseedAt := u.clk.ref } }) ∧
    (∀ adaptive : Bool, s.key.drbgOk = true → Completes (exec (.entropyFail adaptive) s) fun t =>
      t.key = { s.key with entropyFail := true, drbgOk := false, restartAt := s.clk.ref } ∧ t.legal.ctl.evpend.getLsbD 8 = true ∧
      Recorded s t .key 0x4C [0xFFFFFFFF, if adaptive then 2 else 1]) ∧
    (∀ (u : State) (pass : Bool), s.key.drbgOk = false → ReachesRef s u (s.key.restartAt + 240000000) →
      Completes (exec (.entropyRestartTest pass) s) fun t => t.key.drbgOk = pass ∧ t.key.entropyFail = s.key.entropyFail ∧ t.key.restartAt = u.clk.ref ∧
        t = { u with key := t.key }) ∧
    (s.key.tampPend = true → s.clk.pfw = none → s.fuse.lc.length = 10 → Completes (exec .tamperFuse s) fun t =>
      t.fuse.lc = s.fuse.lc.set 8 3 ∧ t.key.shadow.testBit 8 = true ∧ t.key.tampPend = false ∧ t.bk.ledge.lflags.getLsbD 1 = false ∧
      Recorded s t .key 0x4E (0xFFFFFFFF :: two (now s)) ∧ t.key.cache = s.key.cache ∧ t.key.ks = s.key.ks))

/-- R3, R388, R393, R405, R406, R409, R411, R412 and Table 14.9. -/
def Obligations.SiteOperationsJoinSendReceiveAndReport : Prop :=
  ∀ (s : State) (c : CoreId) (rs : Reg) (x : Ctx) (ws : List Word),
    let u := issued s x rs
    let a := getG u x rs
    let w := rw ws 1
    let me := bits (u.sit.cfg.getD 0 0) 7 0
    let open1 : Prop := x = .world .opn
    let told (t : State) : Prop := t.legal.ctl.evpend.getLsbD 10 = true
    let posted (t : State) (op : Nat) (o : Option Nat) (res : List (Nat × Word)) : Prop := t.posts.getLast? =
      some { unit := .sit, world := worldOfCtx x, live := true, addr := a.toNat, op := op, words := ws, outcome := o, results := res }
    (absentUnit u .sit = true → Runs s c x → recExc (fetched s x) x (getG (fetched s x) x rs) = none →
      ∀ i ∈ [Instr.sitCfg c rs, .sitCfgJoin c rs, .sitCfgLeave c rs, .sitSend c rs, .sitRecv c rs, .sitTmap c rs, .sitTswap c rs, .sitNbr c rs, .sitRdst c rs],
        exec i s = declines u x 3) ∧
    (Issues s c rs .sit .more 8 x ws → ∀ i ∈ [Instr.sitCfg c rs, .sitCfgJoin c rs, .sitCfgLeave c rs],
      let b := rw ws 2
      let leave : Prop := w.getLsbD 31 = true
      let join : Prop := w.getLsbD 30 = true
      let rank := bits w 23 20
      let good : Prop := w &&& 0x0700FF00 = 0 ∧ b &&& 0xFF003FC0 = 0 ∧ rw ws 4 &&& 0xFFFFC0C0 = 0 ∧ (∀ j < 3, rw ws (5 + j) = 0) ∧ bits w 7 0 ≤ 253 ∧ 4 ≤ bits b 5 0 ∧
        bits (rw ws 4) 13 8 ≤ 60 ∧ bits (rw ws 4) 5 0 ≤ 60 ∧ (bits b 23 16 ≤ 127 ∨ bits b 23 16 = 0xFF) ∧
        (rank ≠ 0 → w.getLsbD 28 = true ∧ bits b 23 16 ≠ 0xFF ∧ 1 ≤ bits w 19 16 ∧ bits w 19 16 ≤ 8) ∧ ¬(leave ∧ join)
      let r := u.key.recs.getD (bits b 5 0) default
      let v := if r.bank then r.attr1 else r.attr0
      let usable : Prop := (∃ k, u.key.cache.getD (bits b 5 0) none = some k ∧ k.gen = r.gen) ∧ u.key.scuttle = 0 ∧ v.getLsbD 6 = true ∧ v.getLsbD 22 = true ∧
        v.getLsbD (9 + lcState u) = true
      (open1 → exec i s = declines u x 2) ∧ (¬open1 → ¬good → exec i s = declines u x 6) ∧
      (¬open1 → good → 3 ≤ u.sit.st → u.sit.st ≤ 7 → ¬leave → exec i s = declines u x 7) ∧
      (¬open1 → good → leave ∨ u.sit.st < 3 ∨ 7 < u.sit.st → Completes (exec i s) fun t =>
        t.sit.cfg = [w, b, rw ws 3, rw ws 4] ∧ t.sit.resume = false ∧ t.sit.since = now u ∧ (u.sit.st ≠ t.sit.st → told t) ∧ t.sit.q = u.sit.q ∧
        (¬join → t.sit.st = 0) ∧ (leave → t.sit.flight = none) ∧
        (join → u.clk.fallback.isSome ∨ u.clk.mode = 3 → t.sit.st = 8) ∧
        (join → u.clk.fallback = none → u.clk.mode ≠ 3 → (usable → t.sit.st = 2) ∧ (¬usable → t.sit.st = 1)))) ∧
    (Issues s c rs .sit .more 6 x ws →
      let k := bits w 17 16
      let n := bits w 10 0
      let d := bits w 31 24
      let pay := dataRead u x (rw ws 2) n
      let good : Prop := w &&& 0x00FCF800 = 0 ∧ rw ws 3 &&& 0xFFFC0000 = 0 ∧ rw ws 4 &&& 0xFFFFFF00 = 0 ∧ rw ws 5 = 0 ∧ k ≠ 3 ∧ 1 ≤ n ∧ n ≤ (if k = 0 then 384 else 1024) ∧ d ≠ me ∧ d ≠ 0xFE ∧ ¬(d = 0xFF ∧ k = 2) ∧
        memOk u x (rw ws 2) n false = true
      let no := (nbr u d).lseq
      (open1 → k = 0 → exec (.sitSend c rs) s = declines u x 2) ∧ (¬(open1 ∧ k = 0) → ¬good → exec (.sitSend c rs) s = declines u x 6) ∧
      (¬(open1 ∧ k = 0) → good → ¬Room u x .sit → exec (.sitSend c rs) s = declines u x 8) ∧
      (¬(open1 ∧ k = 0) → good → Room u x .sit → Completes (exec (.sitSend c rs) s) fun t =>
        t.sit.q = u.sit.q ++ [{ dest := d, typ := if k = 0 then 5 else if k = 1 then 7 else 6, payload := pay, world := some (worldOfCtx x), lseq := no,
                                born := now u, atP := 0, atT := 0, acked := 0, draw := none }] ∧
        (nbr t d).lseq = (no + 1) % 65536 ∧ posted t 1 none [(3, w32 no)] ∧
        t.sit.reqs = (if k = 2 ∧ fld 0 1 pay < 128 then (d, fld 2 2 pay, worldOfCtx x) :: u.sit.reqs else u.sit.reqs)) ∧
      (let g := bits w 3 0
       let seg := dataRead u x (rw ws 2) 32
       let code (i : Nat) : Nat := (seg.getD (i / 2) 0).toNat / 16 ^ (i % 2) % 16
       let form : Prop := w &&& 0xFFFFFFF0 = 0 ∧ g ≤ 11 ∧ rw ws 4 = 0 ∧ rw ws 5 = 0 ∧ memOk u x (rw ws 2) 32 false = true ∧
         ∀ i < 64, code i ∈ [0, 1, 2, 3, 4, 6, 8, 10] ∧ (g = 11 → 6 ≤ i → code i = 0)
       (open1 → exec (.sitTmap c rs) s = declines u x 2) ∧ (¬open1 → ¬form → exec (.sitTmap c rs) s = declines u x 6) ∧
       (¬open1 → form → u.sit.swap = true → exec (.sitTmap c rs) s = declines u x 1) ∧
       (¬open1 → form → u.sit.swap = false → Room u x .sit → exec (.sitTmap c rs) s = .next (accepts
         { u with sit := { u.sit with shadow := u.sit.shadow.set g (some seg), sgen := u.sit.sgen + 1 } } u x a .sit 3 ws (some 0) [(3, w32 (u.sit.sgen + 1))])))) ∧
    (Issues s c rs .sit .more 3 x ws →
      let full : Prop := ∀ z ∈ u.sit.shadow, z.isSome
      (open1 → exec (.sitTswap c rs) s = declines u x 2) ∧ (¬open1 → rw ws 2 ≠ 0 → exec (.sitTswap c rs) s = declines u x 6) ∧
      (¬open1 → rw ws 2 = 0 → ¬full → exec (.sitTswap c rs) s = declines u x 7) ∧
      (¬open1 → rw ws 2 = 0 → full → Room u x .sit → exec (.sitTswap c rs) s = .next (accepts { u with sit := { u.sit with swap := true } } u x a .sit 4 ws none []))) ∧
    (Issues s c rs .sit .more 5 x ws →
      let k := bits w 17 16
      let form : Prop := w &&& 0x00FCF800 = 0 ∧ rw ws 3 &&& 0xFFFC0000 = 0 ∧ rw ws 4 = 0 ∧ k ≠ 3 ∧ memOk u x (rw ws 2) 1024 true = true
      let q := if k = 0 then u.sit.legalQ else if k = 1 then u.sit.openQ else if x = .world .opn then u.sit.objO else u.sit.objL
      (open1 → k = 0 → exec (.sitRecv c rs) s = declines u x 2) ∧ (¬(open1 ∧ k = 0) → ¬form → exec (.sitRecv c rs) s = declines u x 6) ∧
      (¬(open1 ∧ k = 0) → form → q = [] → exec (.sitRecv c rs) s = .next (answers u x a [(1, w32 (65536 * k))])) ∧
      (∀ m rest, ¬(open1 ∧ k = 0) → form → q = m :: rest → exec (.sitRecv c rs) s = .next (answers
        (dataWrite { u with sit := { u.sit with
          legalQ := if k = 0 then rest else u.sit.legalQ, openQ := if k = 1 then rest else u.sit.openQ
          objO := if k = 2 ∧ x = .world .opn then rest else u.sit.objO, objL := if k = 2 ∧ x ≠ .world .opn then rest else u.sit.objL } } x (rw ws 2) m.data)
        x a [(1, w32 (m.src * 2 ^ 24 + 65536 * k + m.data.length)), (3, w32 (131072 * b2n m.robust + 65536 * b2n m.trk + m.lseq))]))) ∧
    (Issues s c rs .sit .more 8 x ws →
      let n := bits w 7 0
      let y := nbr u n
      let known : Prop := n = me ∨ (n < 254 ∧ u.sit.members.testBit n = true)
      let form : Prop := w &&& 0xFFFFFF00 = 0 ∧ rw ws 2 &&& 0x0F0F0000 = 0
      (¬form ∨ ¬known → exec (.sitNbr c rs) s = declines u x 6) ∧
      (form → known → n ≠ me → exec (.sitNbr c rs) s = .next (answers u x a
        ([(2, w32 (y.flags / 2 ^ 20 * 2 ^ 20 + min 65535 (bpiNow u - y.heardBpi)))] ++ ((List.range 4).map fun i => (3 + i, w32 (fld (4 * i) 4 y.pmap))) ++
          [(7, w32 (65536 * y.snrT + y.snrP % 65536))]))) ∧
      (form → n = me → ∃ fl p0 p1 p2 p3, exec (.sitNbr c rs) s = .next (answers u x a [(2, fl), (3, p0), (4, p1), (5, p2), (6, p3), (7, 0)]) ∧
        (fl.getLsbD 31 = true ↔ u.sit.st = 6) ∧ (fl.getLsbD 30 = true ↔ u.sit.st = 5) ∧ bits fl 23 20 = bits (u.sit.cfg.getD 0 0) 23 20 ∧ bits fl 15 0 = 0 ∧
        ∀ i < 8, bits p0 (4 * i + 3) (4 * i) = sitNib u i ∧ bits p3 (4 * i + 3) (4 * i) = sitNib u (24 + i))) ∧
    (Issues s c rs .sit .read 8 x ws → rw ws 4 &&& 0x0000FE00 ≠ 0 → exec (.sitRdst c rs) s = declines u x 6) ∧
    (Issues s c rs .sit .read 8 x ws → rw ws 4 &&& 0x0000FE00 = 0 → ∃ st id,
      exec (.sitRdst c rs) s = .next (answers u x a [(1, st), (2, id), (3, w32 (match u.sit.bcn with | some b => b.bpi | none => 0)),
        (4, w32 (u.sit.sgen % 65536 * 65536 + ((List.range 254).filter fun n => u.sit.members.testBit n).length)), (5, w32 (65536 * u.sit.twinMiss + u.sit.retries)),
        (6, w32 (65536 * u.sit.fcsFail + u.sit.limitN)), (7, w32 (65536 * u.sit.replay + u.sit.dropQ))]) ∧
      (u.sit.st < 16 → bits st 3 0 = u.sit.st ∧ st.getLsbD 4 = u.sit.limit ∧ (st.getLsbD 10 = true ↔ ∀ z ∈ u.sit.shadow, z.isSome) ∧ st.getLsbD 11 = u.sit.swap ∧
        st.getLsbD 9 = (u.sit.cfg.getD 0 0).getLsbD 29) ∧
      ∀ b, u.sit.bcn = some b → id = w32 (b.coord * 2 ^ 24 + b.backup * 2 ^ 16 + b.epoch))

/-- R384, R390 to R393, R397, R399, R402, R404 to R406 and Tables 14.3 to 14.5; counting unknown sources with FCSFAIL is the model's choice (log 21). -/
def Obligations.LinkFramesAreCheckedTakenAndAcknowledged : Prop :=
  ∀ (s : State) (p : Coupling) (snr : Nat) (frame : List Nat), alive s = true → absentUnit s .sit = false → s.sit.st ≠ 8 → s.clk.fallback = none →
    let v := onPreamble (sitTick s) p
    let f : List Byte := frame.map (BitVec.ofNat 8)
    let m := f.drop 16
    let me := bits (v.sit.cfg.getD 0 0) 7 0
    let trk : Bool := p == .trk
    let on : Prop := 2 ≤ v.sit.st ∧ v.sit.st ≤ 6 ∧ (p = .trk → (v.sit.cfg.getD 0 0).getLsbD 28 = true)
    let n := fld 10 2 m
    let src := fld 4 1 m
    let lseq := fld 8 2 m
    let ctr := fld 12 4 m
    let pay := slice 16 n m
    let control : Prop := 16 ≤ f.length ∧ fld 14 2 f = (crc32c (f.take 14)).toNat % 65536
    let toHere (_ : Nat) : Prop := control ∧ fld 0 1 f % 16 = 1 ∧ fld 0 4 m = (v.sit.cfg.getD 2 0).toNat ∧ src ≠ me ∧ src ≤ 253
    let fcs : Prop := m.length = 36 + n ∧ fld (32 + n) 4 m = (crc32c (m.take (32 + n))).toNat
    let mine (ty : Nat) : Prop := fld 6 1 m = ty ∧ (fld 5 1 m = me ∨ fld 5 1 m = 0xFF)
    let y := nbr v src
    let own (ty : Nat) : Prop := ty = 1 ∨ ty = 3
    let uid (ty : Nat) : List Byte := if ty = 1 ∨ ty = 3 then pay.take 8 else y.uid
    let jn (ty : Nat) : List Byte := if ty = 1 ∨ ty = 3 then slice 8 16 pay else y.jn
    let tag (k : List Byte) (ty : Nat) : List Byte :=
      let iv := le 4 ctr ++ List.replicate 8 0
      fit 16 (if ty ≤ 4 then gcmTag k iv (m.take 16 ++ pay) [] else gcmTag k iv (m.take 16) pay)
    let data (k : List Byte) (ty : Nat) : List Byte := if ty ≤ 4 then pay else fit n (gcmCrypt k (le 4 ctr ++ List.replicate 8 0) pay)
    let badCrc : State := { v with sit := { v.sit with fcsFail := min 65535 (v.sit.fcsFail + 1) } }
    let again : State := { v with sit := { v.sit with replay := min 65535 (v.sit.replay + 1) } }
    let cmds : List (Nat × Instr) := [(1, .joinFrame p snr frame), (2, .joinReplyFrame p snr frame), (3, .phaseFrame p snr frame), (4, .tmapFrame p snr frame),
      (5, .legalFrame p snr frame), (6, .siteObjectFrame p snr frame true), (7, .openFrame p snr frame)]
    let fresh (c : Nat) : Prop := y.hi = none ∨ ∃ h, y.hi = some h ∧ (later 32 c h = true ∨ ((h + 2 ^ 32 - c) % 2 ^ 32 ≤ 64 ∧ c ∉ y.seen))
    let acked (t : State) : Prop := ∃ k b, t.sit.air = [(k, b)] ∧ (p = .trk → k = 0) ∧ fld 0 1 b % 16 = 2 ∧ (fld 0 1 b).testBit 4 = trk ∧ fld 2 1 b = me ∧
      fld 3 1 b = src ∧ fld 4 2 b = lseq ∧ fld 6 1 b = 0 ∧ b.length = 16
    let heard (t : State) : Prop := (nbr t src).heard = now v ∧ (nbr t src).viaTrk = trk ∧ ctr ∈ (nbr t src).seen
    let msg (d : List Byte) : SMsg := { src := src, lseq := lseq, trk := trk, robust := (fld 7 1 m).testBit 1, data := d }
    let good (ty : Nat) (k : List Byte) : Prop := on ∧ toHere ty ∧ fcs ∧ mine ty ∧ jn ty ≠ [] ∧ sitKey v (uid ty) (jn ty) = some k ∧ slice (16 + n) 16 m = tag k ty ∧
      (¬own ty → fresh ctr) ∧ (own ty → jn ty ∉ y.old ∧ (jn ty = y.jn → uid ty = y.uid ∧ fresh ctr))
    (¬on → ∀ i ∈ cmds, exec i.2 s = .next v) ∧
    (on → ∀ i ∈ cmds, toHere i.1 →
      (¬fcs → exec i.2 s = .next badCrc) ∧
      (fcs → mine i.1 →
        (¬own i.1 → y.jn = [] → exec i.2 s = .next badCrc) ∧
        (own i.1 → jn i.1 ∈ y.old → exec i.2 s = .next again) ∧
        (∀ k, jn i.1 ≠ [] → (own i.1 → jn i.1 ∉ y.old) → sitKey v (uid i.1) (jn i.1) = some k →
          (slice (16 + n) 16 m ≠ tag k i.1 → exec i.2 s = .next badCrc) ∧
          (slice (16 + n) 16 m = tag k i.1 → ¬own i.1 → ¬fresh ctr → exec i.2 s = .next again)))) ∧
    (∀ k, good 1 k → v.sit.st = 6 →
      let other : Prop := v.sit.members.testBit src = true ∧ y.uid ≠ [] ∧ y.uid ≠ pay.take 8
      (∀ r, good 1 k → (if other then r = 1 else r = 0) → Completes (exec (.joinFrame p snr frame) s) fun t =>
        (∃ e, t.sit.q.getLast? = some e ∧ e.dest = src ∧ e.typ = 2 ∧ e.payload = [BitVec.ofNat 8 r]) ∧ (fld 5 1 m = me → acked t) ∧
        (other → t.sit.members = v.sit.members ∧ (nbr t src).uid = y.uid) ∧
        (¬other → t.sit.members = v.sit.members ||| 2 ^ src ∧ (nbr t src).uid = pay.take 8 ∧ (nbr t src).jn = slice 8 16 pay ∧ (nbr t src).crank = fld 24 1 pay ∧ heard t))) ∧
    (∀ k, good 1 k → v.sit.st ≠ 6 → Completes (exec (.joinFrame p snr frame) s) fun t => t.sit.members = v.sit.members ∧ t.sit.air = v.sit.air ∧ t.sit.st = v.sit.st) ∧
    (∀ k, good 2 k → let z := if fld 5 1 m = me then maskSwap v else v
      Completes (exec (.joinReplyFrame p snr frame) s) fun t => heard t ∧ (fld 5 1 m = me → acked t) ∧
      (v.sit.st = 3 → pay.getD 0 0 = 1 → t.sit.st = 7 ∧ t.legal.ctl.evpend.getLsbD 10 = true ∧ Recorded z t .sit 0x5A [0xFFFFFFFF, w32 me, w32 src]) ∧
      (¬(v.sit.st = 3 ∧ pay.getD 0 0 = 1) → t.sit.st = v.sit.st ∧ t.ldg = z.ldg)) ∧
    (∀ k, good 3 k → Completes (exec (.phaseFrame p snr frame) s) fun t =>
      (nbr t src).pmap = slice 24 16 pay ∧ (nbr t src).flags = fld 40 4 pay ∧ (nbr t src).crank = fld 40 4 pay / 2 ^ 20 % 16 ∧ (fld 5 1 m = me → acked t) ∧
      t.sit.members = v.sit.members) ∧
    (∀ k, good 4 k → Completes (exec (.tmapFrame p snr frame) s) fun t => heard t ∧ (fld 5 1 m = me → acked t) ∧
      ∃ mp, (if trk then (nbr t src).tk.next else (nbr t src).ph.next) = some (fld 1 1 pay, mp) ∧
        ∀ i < 710, carrierCode mp i = min (carrierCode (slice 2 355 pay) i)
          (if (v.sit.cfg.getD 0 0).getLsbD 29 ∧ notched (55 + i) then 0 else carrierCode v.sit.mask i)) ∧
    (∀ k ty, good ty k →
      let d := data k ty
      let dup : Prop := lseq ∈ y.seqs
      (ty = 5 → Completes (exec (.legalFrame p snr frame) s) fun t => heard t ∧
        (dup → t.sit.legalQ = v.sit.legalQ ∧ (fld 5 1 m = me → acked t)) ∧
        (¬dup → 16 ≤ v.sit.legalQ.length → t.sit.legalQ = v.sit.legalQ ∧ t.sit.dropQ = min 65535 (v.sit.dropQ + 1) ∧ t.sit.air = v.sit.air) ∧
        (¬dup → v.sit.legalQ.length < 16 → t.sit.legalQ = v.sit.legalQ ++ [msg d] ∧ lseq ∈ (nbr t src).seqs ∧ (fld 5 1 m = me → acked t) ∧
          t.legal.ctl.evpend.getLsbD 10 = true ∧ (v.sit.twin = none → t.sit.twinMiss = v.sit.twinMiss) ∧ ((fld 7 1 m).testBit 3 = false → t.sit.twin = none))) ∧
      (ty = 7 → Completes (exec (.openFrame p snr frame) s) fun t => heard t ∧
        (dup → t.sit.openQ = v.sit.openQ ∧ (fld 5 1 m = me → acked t)) ∧
        (¬dup → 16 ≤ v.sit.openQ.length → t.sit.openQ = v.sit.openQ ∧ t.sit.dropQ = min 65535 (v.sit.dropQ + 1) ∧ t.sit.air = v.sit.air) ∧
        (¬dup → v.sit.openQ.length < 16 → t.sit.openQ = v.sit.openQ ++ [msg d] ∧ lseq ∈ (nbr t src).seqs ∧ (fld 5 1 m = me → acked t) ∧
          t.opn.ctl.evpend.getLsbD 10 = true)) ∧
      (ty = 6 → 128 ≤ fld 0 1 d → ¬dup → ∀ w, (v.sit.reqs.find? fun q => q.1 == src && q.2.1 == fld 2 2 d) = some (src, fld 2 2 d, w) →
        let q := if w = .legal then v.sit.objL else v.sit.objO
        let q2 (t : State) := if w = .legal then t.sit.objL else t.sit.objO
        Completes (exec (.siteObjectFrame p snr frame true) s) fun t =>
          (16 ≤ q.length → q2 t = q ∧ t.sit.dropQ = min 65535 (v.sit.dropQ + 1) ∧ t.sit.air = v.sit.air ∧ t.sit.reqs = v.sit.reqs) ∧
          (q.length < 16 → q2 t = q ++ [msg d] ∧ (fld 5 1 m = me → acked t) ∧
            (if w = .legal then t.legal.ctl.evpend.getLsbD 10 = true else t.opn.ctl.evpend.getLsbD 10 = true))) ∧
      (ty = 6 → fld 0 1 d < 128 → ¬dup → ∃ z, exec (.siteObjectFrame p snr frame true) s = .next (objRequest z 2 src (parseObj d) true) ∧
        z.obj = v.obj ∧ z.fuse = v.fuse ∧ z.clk = v.clk ∧ (fld 5 1 m = me → acked z))) ∧
    (on → control → fld 0 1 f % 16 = 2 → fld 3 1 f = me → ∀ e, v.sit.q.find? (fun e => e.dest == fld 2 1 f && e.lseq == fld 4 2 f) = some e →
      Completes (exec (.ackFrame p snr frame) s) fun t =>
        (∀ tr dl, v.sit.flight = some (fld 2 1 f, fld 4 2 f, tr, dl) → tr = (fld 0 1 f).testBit 4 → t.sit.flight = none) ∧
        (e.typ ≠ 5 → t.sit.q = v.sit.q.eraseP fun e => e.dest == fld 2 1 f && e.lseq == fld 4 2 f) ∧
        (∀ (i : Nat) (q : Posted), e.world.isSome → e.acked = 0 → v.posts[i]? = some q → q.outcome = none → q.unit = .sit → q.op = 1 →
          bits (q.words.getD 1 0) 31 24 = e.dest → q.results = [(3, w32 e.lseq)] →
          (∀ j < i, ∀ z, v.posts[j]? = some z → ¬(z.unit = .sit ∧ z.op = 1 ∧ bits (z.words.getD 1 0) 31 24 = e.dest ∧ z.results = [(3, w32 e.lseq)])) →
          t.posts[i]? = some { q with outcome := some 0, results :=
            [(3, w32 (65536 * (e.acked ||| if (fld 0 1 f).testBit 4 then 2 else 1) + e.lseq)), (4, w32 (e.atP + e.atT))] })) ∧
    (∀ stamp : Nat,
      let start := stamp - 393216 * fld 6 1 m
      let z := nbr v src
      let sound : Prop := on ∧ control ∧ fld 0 1 f % 16 = 0 ∧ fld 0 4 m = (v.sit.cfg.getD 2 0).toNat ∧
        (fld 7 1 m).testBit 1 = (v.sit.cfg.getD 0 0).getLsbD 29 ∧ src ≤ 253 ∧ src ≠ me
      let whole : Prop := m.length = 112 ∧ fld 108 4 m = (crc32c (m.take 108)).toNat
      let bctr := fld 88 4 m
      let new : Prop := z.uid ≠ slice 64 8 m ∨ z.jn ≠ slice 72 16 m
      let ok : Prop := new ∨ z.hi = none ∨ ∃ h, z.hi = some h ∧ (later 32 bctr h = true ∨ ((h + 2 ^ 32 - bctr) % 2 ^ 32 ≤ 64 ∧ bctr ∉ z.seen))
      let tagOk (k : List Byte) : Prop := slice 92 16 m = fit 16 (gcmTag k (le 4 bctr ++ List.replicate 8 0) (m.take 92) [])
      let run := exec (.beacon p snr stamp frame) s
      let bit : Bool := (fld 32 32 m).testBit me
      let role := if fld 5 1 m = me then 5 else 4
      (¬on → run = .next v) ∧ (sound → ¬whole → run = .next badCrc) ∧ (sound → whole → slice 72 16 m ∈ z.old → run = .next again) ∧
      (∀ k, sound → whole → slice 72 16 m ∉ z.old → sitKey v (slice 64 8 m) (slice 72 16 m) = some k →
        (¬tagOk k → run = .next badCrc) ∧ (tagOk k → ¬ok → run = .next again) ∧
        (tagOk k → ok → v.sit.st ≠ 6 → Completes run fun t =>
          t.sit.members = fld 32 32 m ∧ t.sit.since = now v ∧ (nbr t src).crank = fld 14 1 m ∧ (nbr t src).uid = slice 64 8 m ∧
          (∃ b, t.sit.bcn = some b ∧ b.bpi = fld 8 4 m ∧ b.epoch = fld 12 2 m ∧ b.coord = src) ∧
          ((∀ o, v.sit.bcn = some o → ¬(o.bpi = fld 8 4 m ∧ o.coord = src ∧ o.epoch = fld 12 2 m)) →
            ∃ b, t.sit.bcn = some b ∧ b.start = start ∧ b.period = fld 20 4 m ∧ b.backup = fld 5 1 m) ∧
          (v.sit.st = 3 ∨ v.sit.st = 4 ∨ v.sit.st = 5 → bit = true → t.sit.st = role) ∧ (v.sit.st = 4 ∨ v.sit.st = 5 → bit = false → t.sit.st = 2) ∧
          (v.sit.st = 3 → bit = false → t.sit.st = 3) ∧ (v.sit.st = 2 → v.sit.resume = true → bit = true → t.sit.st = role) ∧
          (v.sit.st = 2 → v.sit.resume = false → v.key.drbgOk = true → t.sit.st = 3 ∧ t.sit.txctr = 0 ∧
            ∃ e ∈ t.sit.q, e.dest = src ∧ e.typ = 1 ∧ e.payload.take 24 = le 4 v.fuse.uidLo.toNat ++ le 4 v.fuse.uidHi.toNat ++ t.sit.jn)) ∧
        (tagOk k → ok → v.sit.st = 6 →
          let yields : Prop := later 16 (fld 12 2 m) (sitEpoch v) = true ∨ (fld 12 2 m = sitEpoch v ∧ src < me)
          (¬yields → Completes run fun t => t.sit.st = 6 ∧ t.sit.bcn = v.sit.bcn ∧ t.sit.members = v.sit.members) ∧
          (yields → v.sit.resume = false → v.key.drbgOk = true → Completes run fun t => t.sit.st = 3 ∧ t.sit.members = fld 32 32 m))))

/-- R388, R390, R393 to R396, R398 to R401, R404, R405; time stands at the events' instants (log 6). -/
def Obligations.LinkStepsSendRetryJoinAndTakeOver : Prop :=
  ∀ s : State, alive s = true → absentUnit s .sit = false → s.sit.st ≠ 8 → s.clk.fallback = none →
    let v := sitTick s
    let cfg (z : State) (i : Nat) : Word := z.sit.cfg.getD i 0
    let me := bits (cfg v 0) 7 0
    let told (t : State) : Prop := t.legal.ctl.evpend.getLsbD 10 = true
    let settled (b t : State) (e : SOut) (out : Nat) (acked tries : Nat) : Prop :=
      ∀ (i : Nat) (q : Posted), e.world.isSome → b.posts[i]? = some q → q.outcome = none → q.unit = .sit → q.op = 1 → bits (q.words.getD 1 0) 31 24 = e.dest →
        q.results = [(3, w32 e.lseq)] →
        (∀ j < i, ∀ z, b.posts[j]? = some z → ¬(z.unit = .sit ∧ z.op = 1 ∧ bits (z.words.getD 1 0) 31 24 = e.dest ∧ z.results = [(3, w32 e.lseq)])) →
        t.posts[i]? = some { q with outcome := some out, results := [(3, w32 (65536 * acked + e.lseq)), (4, w32 tries)] }
    let tone (z : State) (d : Nat) (trk : Bool) : Tone := if trk then (nbr z d).tk else (nbr z d).ph
    let sends (z t : State) (i : Nat) (e : SOut) (trk limit : Bool) : Prop :=
      t.sit.txctr = z.sit.txctr + 1 ∧ t.sit.limit = limit ∧ t.sit.limitN = min 65535 (z.sit.limitN + b2n limit) ∧
      (∃ k b, t.sit.air = [(k, b)] ∧ (trk = true → k = 0) ∧ (trk = false → bits (cfg z 1) 15 14 ≠ 0 → k = bits (cfg z 1) 15 14) ∧ fld 0 1 b % 16 = 1 ∧
        (fld 0 1 b).testBit 4 = trk ∧ fld 2 1 b = bits (cfg z 0) 7 0 ∧ fld 3 1 b = e.dest % 256 ∧ fld 4 2 b = e.lseq % 65536 ∧
        fld 16 4 b = (cfg z 2).toNat ∧ fld 20 1 b = bits (cfg z 0) 7 0 ∧ fld 22 1 b = e.typ % 256 ∧ fld 26 2 b = e.payload.length % 65536 ∧ fld 28 4 b = z.sit.txctr % 2 ^ 32 ∧
        (e.typ ≤ 4 → (b.drop 32).take e.payload.length = e.payload) ∧
        (let at1 := if trk then e.atT else e.atP
         2 ≤ at1 ∨ e.dest = 0xFF → fld 1 1 b = 0 ∧ fld 0 1 b / 32 = 0)) ∧
      (e.dest ≠ 0xFF → e.typ ≠ 5 → t.sit.q = z.sit.q.set i { e with atT := if trk then e.atT + 1 else e.atT, atP := if trk then e.atP else e.atP + 1, draw := none } ∧
        ∃ dl, t.sit.flight = some (e.dest, e.lseq, trk, dl) ∧ now z < dl) ∧
      (e.dest = 0xFF → t.sit.flight = none ∧ (e.typ ≠ 5 → t.sit.q = z.sit.q.eraseIdx i ∧ settled z t e 0 e.acked (e.atP + e.atT + 1)))
    let keyed (z : State) : Prop := ∃ k, sitKey z (uidBytes z) z.sit.jn = some k
    (∀ z : State, (netKey z).isSome → z.sit.st ≠ 1 → z.sit.twin = none → z.obj.siteOut = [] → sweepSpent z = z → csmaHead z = none → sitTick z = z) ∧
    (∀ (u : State) (limit : Bool), s.clk.pfw = none → sitIn v.sit.st = true → Reaches v u (slotNext v) →
      let w := sitTick u
      ∀ bpi k trk i e, cfpSlot w = some (bpi, k, trk) → slotMine w bpi k trk = true → sitIn w.sit.st = true → findAt (fun (e : SOut) => e.typ == 5) w.sit.q 0 = some (i, e) →
        w.sit.swap = false →
        (legalDue trk e = true → keyed w → Completes (exec (.cfpSlotStart limit) s) fun t => sends w t i e trk limit ∧ t.sit.lastSlot = slotId bpi k trk) ∧
        (legalDue trk e = false → exec (.cfpSlotStart limit) s = .next w)) ∧
    (∀ (u : State) (limit : Bool) (i n t0 : Nat) (e : SOut), s.clk.pfw = none → csmaHead v = some (i, e) → e.draw = some (n, t0) → v.sit.flight = none →
      Reaches v u (t0 + 128 * n) → u.sit.swap = false →
      (csmaFits u e = true → keyed u → Completes (exec (.csmaBackoffEnd limit) s) fun t => sends u t i e (csmaTrk u e) limit) ∧
      (csmaFits u e = false → exec (.csmaBackoffEnd limit) s = .next u)) ∧
    (s.clk.pfw.isSome → ∀ limit, exec (.cfpSlotStart limit) s = .next s ∧ exec (.csmaBackoffEnd limit) s = .next s) ∧
    (∀ (u : State) (d l dl : Nat) (trk : Bool), s.sit.flight = some (d, l, trk, dl) → Reaches s u dl →
      let w := sitTick u
      Completes (exec .ackTimeout s) fun t =>
        t.sit.flight = none ∧ (tone t d trk).fails = (tone w d trk).fails + 1 ∧ (1 ≤ (tone w d trk).fails → (tone t d trk).stale = true) ∧
        (∀ i e, findAt (fun (e : SOut) => e.dest == d && e.lseq == l) w.sit.q 0 = some (i, e) →
          let spent : Prop := if e.typ = 5 then 4 ≤ e.atP ∧ ((cfg w 0).getLsbD 28 = true → 4 ≤ e.atT) else 4 ≤ max e.atP e.atT
          (e.acked = 0 → spent → t.sit.q = w.sit.q.eraseIdx i ∧ settled w t e 9 0 (e.atP + e.atT)) ∧ (¬(e.acked = 0 ∧ spent) → t.sit.q = w.sit.q ∧ t.posts = w.posts))) ∧
    (∀ u, v.sit.st = 3 → Reaches v u (v.sit.joinAt + 2000000) → Completes (exec .joinRetry s) fun t =>
      t.sit.joinAt = now u ∧ t.sit.st = 3 ∧ ∃ e, t.sit.q = (u.sit.q.filter fun e => e.typ != 1) ++ [e] ∧ e.typ = 1 ∧ e.dest = sitCoord u ∧
        e.payload = uidBytes u ++ u.sit.jn ++ [BitVec.ofNat 8 (bits (cfg u 0) 23 20), if (cfg u 0).getLsbD 28 then 1 else 0]) ∧
    (∀ u, sitIn v.sit.st = true → Reaches v u (bpiTick v (v.sit.phaseBpi + 16)) → Completes (exec .phaseReportDue s) fun t =>
      t.sit.phaseBpi = bpiNow u ∧ ∃ e, t.sit.q = (u.sit.q.filter fun e => e.typ != 3) ++ [e] ∧ e.typ = 3 ∧ e.dest = 0xFF ∧
        e.payload = uidBytes u ++ fit 16 u.sit.jn ++ ownPmap u ++ le 4 (ownFlags u)) ∧
    (∀ (u : State) (node : Nat), v.sit.st = 6 → v.sit.members.testBit node = true → node ≠ me → Reaches v u ((nbr v node).heard + 40000000) →
      Completes (exec (.memberTimeout node) s) fun t => t = { u with sit := { u.sit with members := t.sit.members } } ∧
        ∀ n, t.sit.members.testBit n = if n = node then false else u.sit.members.testBit n) ∧
    (∀ u, (cfg v 0).getLsbD 28 = true → bits (cfg v 0) 23 20 ≠ 0 → 2 ≤ v.sit.st → v.sit.st ≤ 5 →
      Reaches v u (v.sit.since + (3 + 2 * bits (cfg v 0) 23 20) * (2 * if (cfg v 0).getLsbD 27 then 66667 else 80000)) → sitIn v.sit.st = true ∨ v.key.drbgOk = true →
      Completes (exec .coordinatorStart s) fun t => t.sit.st = 6 ∧ told t ∧ t.sit.since = v.sit.since ∧
        t.sit.members = (if sitIn v.sit.st = true ∧ v.sit.bcn.isSome then v.sit.members else 2 ^ me) ∧
        ∃ b, t.sit.bcn = some b ∧ b.coord = me ∧ b.epoch = (match v.sit.bcn with | some o => (o.epoch + 1) % 65536 | none => 0) ∧ b.bpi = 2 ^ 32 - 1 ∧
          (v.sit.bcn = none → t.sit.zok = true)) ∧
    (∀ (u : State) (o : Bcn), v.sit.bcn = some o → v.sit.st = 5 → Reaches v u ((o.start + 3 * (2 * o.period) + 256 * 6144 + 255) / 256) →
      Completes (exec .backupTakeover s) fun t => t.sit.st = 6 ∧ told t ∧ t.sit.members = v.sit.members ∧ t.sit.txctr = v.sit.txctr ∧ t.sit.jn = v.sit.jn ∧
        ∃ b, t.sit.bcn = some b ∧ b.coord = me ∧ b.epoch = (o.epoch + 1) % 65536 ∧ b.bpi = (o.bpi + 3) % 2 ^ 32) ∧
    (sitIn v.sit.st = true → 2 ^ 32 - 1 ≤ v.sit.txctr → Completes (exec .txctrExhausted s) fun t => t.sit.st = 2 ∧ told t) ∧
    (∀ (u : State) (i : Nat) (e : SOut), sitIn s.sit.st = false →
      findAt (fun (e : SOut) => e.world.isSome && (match s.sit.memUntil with | some m => decide (m ≤ e.born) | none => true)) s.sit.q 0 = some (i, e) →
      Reaches s u (e.born + 40000000) → Completes (exec .sendMemberTimeout s) fun t =>
        t.sit.q = u.sit.q.eraseIdx i ∧ settled u t { e with atP := 0, atT := 0 } 9 e.acked 0 ∧ t.sit.st = s.sit.st) ∧
    (∀ (u : State) (limit : Bool) (z p : Nat) (track : Bool), s.clk.pfw = none → v.sit.st = 6 → zRef v = some (z, p, track) → Reaches v u (z + 4000) →
      let w := sitTick u
      ∀ o, w.sit.bcn = some o → keyed w → w.sit.swap = false → Completes (exec (.beaconTransmit limit) s) fun t =>
        t.sit.txctr = w.sit.txctr + 4 ∧ t.sit.zref = z ∧ t.sit.limit = limit ∧ t.sit.st = w.sit.st ∧
        (∃ b, t.sit.bcn = some b ∧ b.bpi = (o.bpi + 1) % 2 ^ 32 ∧ b.epoch = o.epoch ∧ b.coord = bits (cfg w 0) 7 0 ∧ b.period = 256 * p ∧ b.members = w.sit.members ∧
          b.crank = bits (cfg w 0) 23 20 ∧ (b.flags.testBit 0 = true ↔ track = true ∧ w.sit.zok = true)) ∧
        t.sit.air.length = 4 ∧ ∀ k < 4, ∃ m, t.sit.air[k]? = some (k, m) ∧ fld 0 1 m % 16 = 0 ∧ (fld 0 1 m).testBit 4 = decide (k = 0) ∧ fld 3 1 m = 0xFF ∧
          fld 6 1 m = 11 ∧ fld 16 4 m = (cfg w 2).toNat ∧ fld 22 1 m = k ∧ fld 24 4 m = (o.bpi + 1) % 2 ^ 32 ∧ fld 104 4 m = (w.sit.txctr + k) % 2 ^ 32 ∧ m.length = 128)

/-- R414, R416 to R421, R423 to R429, R433, R434; time stands at the events' instants (log 6), a row is written from memory as it is at that moment (log 22). -/
def Obligations.DisplayOperationsAndFramesDrawTheQueuedRows : Prop :=
  (∀ (s : State) (c : CoreId) (rs : Reg) (x : Ctx) (ws : List Word), isWorld x = true →
    let u := issued s x rs
    let a := getG u x rs
    let w := rw ws 1
    let v := rw ws 2
    let d := u.dpy
    let legal : Prop := x = .world .legal
    let opn : Prop := x = .world .opn
    let reduced : Prop := u.clk.mode = 3
    let held (done : Bool) : Prop := done = true ∧ u.clk.mode ≠ 4
    let rect : Prop := bits w 6 0 ≤ bits w 14 8 ∧ bits w 20 16 ≤ bits w 28 24
    let ended (t : State) (o : DEntry) (out rows cut : Nat) : Prop := (∀ z ∈ d.q, z.world = o.world → z.addr = o.addr → z = o) →
      ∀ (i : Nat) (p : Posted), u.posts[i]? = some p → dOp o p = true → p.outcome = none → (∀ j < i, ∀ z, u.posts[j]? = some z → dOp o z = true → z.outcome ≠ none) →
        t.posts[i]? = some { p with outcome := some out, results := [(5, w32 (65536 * o.frame + 256 * cut + rows))] }
    (Issues s c rs .dpy .more 8 x ws →
      let form : Prop := w &&& 0x0000FE00 = 0 ∧ v &&& 0xFF000000 = 0 ∧ rw ws 3 &&& 0xFF000000 = 0 ∧ rw ws 4 = 0 ∧ rw ws 5 = 0 ∧ rw ws 6 = 0 ∧ rw ws 7 = 0 ∧
        bits v 7 0 ≤ 200 ∧ bits v 15 8 ≤ 200 ∧ bits v 23 16 ≤ 200 ∧ 16 ≤ bits w 8 0 ∧ bits w 8 0 ≤ 488
      (opn → exec (.dpyCfg c rs) s = declines u x 2) ∧ (legal → ¬form → exec (.dpyCfg c rs) s = declines u x 6) ∧
      (legal → form → held d.cfgDone → exec (.dpyCfg c rs) s = declines u x 7) ∧
      (legal → form → ¬held d.cfgDone → Completes (exec (.dpyCfg c rs) s) fun t => ∃ z, t = answers z x a [] ∧
        z.dpy = { d with cfg1 := w, cfg2 := v, cfg3 := rw ws 3, cfgDone := true, acc := [] } ∧
        Recorded u z .dpy 0x60 [0xFFFFFFFF, d.cfg1, d.cfg2, d.cfg3, w, v, rw ws 3])) ∧
    (Issues s c rs .dpy .more 6 x ws →
      let k := bits v 1 0
      let n := bits w 14 8 - bits w 6 0 + 1
      let h := bits w 28 24 - bits w 20 16 + 1
      let source : Prop := (k ≠ 1 → srcOk u x (rw ws 3) ((3 * n + 3) / 4 * 4 * h) = true) ∧ (k ≠ 0 → srcOk u x (rw ws 4) (((n + 3) / 4 + 3) / 4 * 4 * h) = true)
      let form : Prop := w &&& 0x60E08080 = 0 ∧ v &&& 0xFFFFFFFC = 0 ∧ rw ws 5 &&& 0x0000FEC0 = 0 ∧ k ≠ 3 ∧ rect ∧ (k = 1 → rw ws 3 = 0) ∧ (k = 0 → rw ws 4 = 0) ∧ source
      let shut : Prop := opn ∧ d.lock.getLsbD 31 = true ∧ bits d.lock 6 0 ≤ bits w 14 8 ∧ bits w 6 0 ≤ bits d.lock 14 8 ∧
        bits d.lock 20 16 ≤ bits w 28 24 ∧ bits w 20 16 ≤ bits d.lock 28 24
      let full : Prop := 8 ≤ d.q.length ∨ (opn ∧ 6 ≤ (d.q.filter fun e => e.world == .opn).length)
      let e : DEntry := { world := worldOfCtx x, addr := a.toNat, x0 := bits w 6 0, y0 := bits w 20 16, x1 := bits w 14 8, y1 := bits w 28 24, what := k, src := rw ws 3,
                          bsrc := rw ws 4, rows := 0, st := 0, stop := none, frame := 0 }
      let hit (o : DEntry) : Bool := decide (o.x0 ≤ e.x1 ∧ e.x0 ≤ o.x1 ∧ o.y0 ≤ e.y1 ∧ e.y0 ≤ o.y1) && (o.world == e.world || e.world == .legal) && o.stop.isNone
      (shut → exec (.dpyUpd c rs) s = declines u x 2) ∧ (¬shut → ¬form → exec (.dpyUpd c rs) s = declines u x 6) ∧
      (¬shut → form → reduced → exec (.dpyUpd c rs) s = declines u x 7) ∧ (¬shut → form → ¬reduced → full → exec (.dpyUpd c rs) s = declines u x 8) ∧
      (¬shut → form → ¬reduced → ¬full → Room u x .dpy →
        (w.getLsbD 31 = false → exec (.dpyUpd c rs) s = .next (accepts { u with dpy := { d with q := d.q ++ [e] } } u x a .dpy 1 ws none [])) ∧
        (w.getLsbD 31 = true → Completes (exec (.dpyUpd c rs) s) fun t =>
          t.dpy = { d with q := ((d.q.filter fun o => !(hit o && o.st != 1)).map fun o => if hit o then { o with stop := some 4 } else o) ++ [e]
                           cuts := min 65535 (d.cuts + (d.q.filter hit).length) } ∧
          ∀ o ∈ d.q, hit o = true → o.st ≠ 1 → ended t o 4 o.rows 1))) ∧
    (Issues s c rs .dpy .more 5 x ws →
      let g : List Nat := (List.range 16).map fun i => unle (dataRead u x (v + w32 (2 * i)) 2)
      let form : Prop := w.toNat ≤ 47 ∧ rw ws 4 = 0 ∧ srcOk u x v 32 = true ∧ ∀ z ∈ g, z ≤ 1023
      (opn → exec (.dpyGamma c rs) s = declines u x 2) ∧ (legal → ¬form → exec (.dpyGamma c rs) s = declines u x 6) ∧
      (legal → form → reduced → exec (.dpyGamma c rs) s = declines u x 7) ∧ (legal → form → ¬reduced → d.gswap = true → exec (.dpyGamma c rs) s = declines u x 1) ∧
      (legal → form → ¬reduced → d.gswap = false → Room u x .dpy → exec (.dpyGamma c rs) s = .next (accepts
        { u with dpy := { d with shadow := d.shadow.set w.toNat (some g), gsgen := d.gsgen + 1 } } u x a .dpy 2 ws (some 0) [(3, w32 (d.gsgen + 1))]))) ∧
    (Issues s c rs .dpy .more 2 x ws →
      let full : Prop := ∀ z ∈ d.shadow, z.isSome
      (opn → exec (.dpyGswap c rs) s = declines u x 2) ∧ (legal → reduced ∨ ¬full → exec (.dpyGswap c rs) s = declines u x 7) ∧
      (legal → ¬reduced → full → Room u x .dpy → exec (.dpyGswap c rs) s = .next (accepts { u with dpy := { d with gswap := true } } u x a .dpy 3 ws none []))) ∧
    (Issues s c rs .dpy .more 4 x ws →
      let form : Prop := w &&& 0xFFFFFFFC = 0 ∧ v &&& 0xFF000000 = 0 ∧ rw ws 3 = 0 ∧ bits v 7 0 ≠ 0 ∧ bits v 15 8 ≤ bits v 7 0 ∧ bits v 23 16 < bits v 7 0
      let lform : Prop := w &&& 0x60E08080 = 0 ∧ rect ∧ rw ws 3 = 0
      let gone (o : DEntry) : Prop := o.world = .opn ∧ w.getLsbD 31 = true ∧ bits w 6 0 ≤ o.x1 ∧ o.x0 ≤ bits w 14 8 ∧ bits w 20 16 ≤ o.y1 ∧ o.y0 ≤ bits w 28 24
      (opn → bits w 1 0 < 2 → exec (.dpyBlink c rs) s = declines u x 2) ∧ (legal ∨ 2 ≤ bits w 1 0 → ¬form → exec (.dpyBlink c rs) s = declines u x 6) ∧
      (legal ∨ 2 ≤ bits w 1 0 → form → exec (.dpyBlink c rs) s = .next (answers
        { u with dpy := { d with blinkNew := d.blinkNew.set (bits w 1 0) (bits v 7 0, bits v 15 8, bits v 23 16) } } x a [])) ∧
      (opn → exec (.dpyLock c rs) s = declines u x 2) ∧ (legal → ¬lform → exec (.dpyLock c rs) s = declines u x 6) ∧
      (legal → lform → held d.lockDone → exec (.dpyLock c rs) s = declines u x 7) ∧
      (legal → lform → ¬held d.lockDone → (∀ o ∈ d.q, o.x0 < 128 ∧ o.x1 < 128 ∧ o.y0 < 32 ∧ o.y1 < 32) → Completes (exec (.dpyLock c rs) s) fun t =>
        ∃ z, t = answers z x a [(2, d.lock)] ∧ z.dpy.lock = w ∧ z.dpy.lockDone = true ∧ (∀ o, o ∈ z.dpy.q ↔ o ∈ d.q ∧ ¬gone o) ∧
          (∀ o ∈ d.q, gone o → ended z o 2 0 0) ∧ Recorded u z .dpy 0x61 [0xFFFFFFFF, d.lock, w])) ∧
    (Issues s c rs .dpy .read 6 x ws → d.q.length ≤ 8 → d.row ≤ 32 → ∃ st,
      exec (.dpyRdst c rs) s = .next (answers u x a [(1, st), (2, w32 d.frames), (3, w32 (65536 * d.cuts + d.gsgen % 65536)), (4, d.lock), (5, w32 d.doneN)]) ∧
      bits st 19 16 = d.q.length ∧ bits st 23 20 = (d.q.filter fun e => e.world == .opn).length ∧ st.getLsbD 15 = d.cfg1.getLsbD 31 ∧ st.getLsbD 14 = d.gswap ∧
      (st.getLsbD 13 = true ↔ ∀ z ∈ d.shadow, z.isSome) ∧ st.getLsbD 12 = d.lock.getLsbD 31 ∧ st.getLsbD 11 = u.clk.fallback.isSome ∧
      (st.getLsbD 10 = true ↔ ∃ e ∈ d.q, e.st = 1) ∧ (st.getLsbD 9 = true ↔ ∃ e ∈ d.q, e.st = 2) ∧ st.getLsbD 8 = d.bal ∧
      (d.scan = true → d.row < 32 → bits st 4 0 = d.row) ∧ st &&& 0xFF0000E0 = 0)) ∧
  (∀ s u : State, alive s = true → absentUnit s .dpy = false → s.dpy.dark = false →
    let len (r : Nat) : Nat := (if r % 8 = 7 then 1954 else 1953) * if u.clk.fallback.isSome then 25 else 24
    let ended (b t : State) (o : DEntry) (frame out rows cut : Nat) : Prop := (∀ z ∈ b.dpy.q, z.world = o.world → z.addr = o.addr → z = o) →
      ∀ (i : Nat) (p : Posted), b.posts[i]? = some p → dOp o p = true → p.outcome = none → (∀ j < i, ∀ z, b.posts[j]? = some z → dOp o z = true → z.outcome ≠ none) →
        t.posts[i]? = some { p with outcome := some out, results := [(5, w32 (65536 * frame + 256 * cut + rows))] }
    let free (e o : DEntry) : Prop := ¬(e.x0 ≤ o.x1 ∧ o.x0 ≤ e.x1 ∧ e.y0 ≤ o.y1 ∧ o.y0 ≤ e.y1)
    let ready (q : List DEntry) (i : Nat) : Prop := ∃ e, q[i]? = some e ∧ e.world = .legal ∧ ∀ j < i, ∀ o, q[j]? = some o → o.world = .opn → free e o
    let busy (q : List DEntry) (i : Nat) : Prop := ∃ e, q[i]? = some e ∧ e.world = .legal ∧ e.st = 1
    let picks (q : List DEntry) (i : Nat) : Prop :=
      (busy q i ∧ ∀ j < i, ¬busy q j) ∨
      ((∀ j, ¬busy q j) ∧ ready q i ∧ ∀ j < i, ¬ready q j) ∨
      ((∀ j, ¬busy q j ∧ ¬ready q j) ∧ (∃ e, q[i]? = some e ∧ e.st ≠ 0) ∧ ∀ j < i, ∀ e, q[j]? = some e → e.st = 0) ∨
      ((∀ j, ¬busy q j ∧ ¬ready q j) ∧ i = 0 ∧ q ≠ [] ∧ ∀ e ∈ q, e.st = 0)
    let attr (m : Mem) (x y : Nat) : Nat := (Mem.read m (32 * y + x / 4)).toNat / 2 ^ (2 * (x % 4)) % 4
    let boundary (b t : State) : Prop :=
      let q := b.dpy.q.filter fun e => e.stop.isNone
      (∀ o ∈ b.dpy.q, ∀ k, o.stop = some k → ended b t o o.frame k o.rows (if k = 4 then 1 else 0)) ∧
      (q = [] → t.dpy.q = [] ∧ t.dpy.fm = b.dpy.fm ∧ t.dpy.bm = b.dpy.bm) ∧
      ∀ i e, picks q i → q[i]? = some e → Mem.wf b.dpy.fm = true → Mem.wf b.dpy.bm = true → e.x0 ≤ e.x1 → e.x1 < 128 → e.y0 + e.rows < 32 →
        let n := e.x1 - e.x0 + 1
        let y := e.y0 + e.rows
        let src (k : Nat) : Byte := (dataRead b (.world e.world) (e.src + w32 (e.rows * ((3 * n + 3) / 4 * 4))) (3 * n)).getD k 0
        let bsrc (k : Nat) : Byte := (dataRead b (.world e.world) (e.bsrc + w32 (e.rows * (((n + 3) / 4 + 3) / 4 * 4))) ((n + 3) / 4)).getD k 0
        (∀ k < 12288, Mem.read t.dpy.fm k =
          if e.what ≠ 1 ∧ 3 * (128 * y + e.x0) ≤ k ∧ k < 3 * (128 * y + e.x1 + 1) then src (k - 3 * (128 * y + e.x0)) else Mem.read b.dpy.fm k) ∧
        (∀ px < 128, ∀ py < 32, attr t.dpy.bm px py =
          if e.what ≠ 0 ∧ py = y ∧ e.x0 ≤ px ∧ px ≤ e.x1 then (bsrc ((px - e.x0) / 4)).toNat / 2 ^ (2 * ((px - e.x0) % 4)) % 4 else attr b.dpy.bm px py) ∧
        (e.y1 = y → t.dpy.doneN = min 0xFFFFFFFF (b.dpy.doneN + 1) ∧ t.dpy.q.length + 1 = q.length ∧ ended b t e (b.dpy.frames % 65536) 0 (e.rows + 1) 0) ∧
        (y < e.y1 → t.dpy.q[i]? = some { e with rows := e.rows + 1, st := 1, frame := b.dpy.frames % 65536 } ∧ t.dpy.q.length = q.length ∧
          ∀ j o, j ≠ i → q[j]? = some o → t.dpy.q[j]? = some { o with st := if o.st = 1 then 2 else o.st })
    let started (t : State) (n e : Nat) : Prop :=
      t.dpy.scan = true ∧ t.dpy.row = 0 ∧ t.dpy.frames = n % 2 ^ 32 ∧ t.dpy.at' = e + len 0 ∧ t.dpy.blink = u.dpy.blinkNew ∧ t.dpy.bal = u.dpy.balNow ∧ t.dpy.balNow = false ∧
      t.dpy.acc = u.dpy.acc ∧ t.dpy.attWait = false ∧ (u.dpy.attWait = true → t.dpy.attRead = some u.dpy.fm) ∧
      (u.dpy.gswap = false → t.dpy.gamma = u.dpy.gamma ∧ boundary { u with dpy := { u.dpy with frames := n % 2 ^ 32 } } t) ∧
      (u.dpy.gswap = true → (∀ i < 768, u.dpy.shadow.length = 48 → ∀ g, u.dpy.shadow[i / 16]? = some (some g) → (∀ k ∈ u.dpy.shadow, ∀ z, k = some z → z.length = 16) →
          (∀ k ∈ u.dpy.shadow, k.isSome) → t.dpy.gamma[i]? = g[i % 16]?) ∧
        t.dpy.shadow = List.replicate 48 none ∧ t.dpy.gswap = false ∧ t.legal.ctl.evpend.getLsbD 11 = true ∧
        (∃ k, Recorded u t .dpy 0x62 [0xFFFFFFFF, w32 (n % 2 ^ 32), k]) ∧
        ∀ (i : Nat) (p : Posted), u.posts[i]? = some p → p.unit = .dpy → p.op = 3 → p.outcome = none →
          t.posts[i]? = some { p with outcome := some 0, results := [(1, w32 (n % 2 ^ 32))] })
    (s.dpy.scan = false → s.dpy.cfg1.getLsbD 31 = true → u = s → Completes (exec .frameStart s) fun t => started t s.dpy.frames (75 * now s)) ∧
    (s.dpy.scan = true → s.dpy.row = 32 → Reaches s u ((s.dpy.at' + 74) / 75) → Completes (exec .frameStart s) fun t => started t (u.dpy.frames + 1) u.dpy.at') ∧
    (s.dpy.scan = true → s.dpy.row < 32 → Reaches s u ((s.dpy.at' + 74) / 75) → Completes (exec .rowTimeBoundary s) fun t =>
      let r := s.dpy.row
      let y := if u.dpy.cfg1.getLsbD 29 then 31 - r else r
      let acc (m : Mem) (k : Nat) : Nat := (Mem.read m (2 * (384 * y + k))).toNat + 256 * (Mem.read m (2 * (384 * y + k) + 1)).toNat
      t.dpy.row = r + 1 ∧ (r = 31 → t.dpy.q = u.dpy.q ∧ t.dpy.fm = u.dpy.fm) ∧ (r < 31 → t.dpy.at' = u.dpy.at' + len (r + 1) ∧ boundary u t) ∧
      (u.dpy.cfg1.getLsbD 31 = false → t.dpy.acc = u.dpy.acc) ∧
      (u.dpy.cfg1.getLsbD 31 = true → Mem.wf u.dpy.acc = true → (∀ g < 4, 1 ≤ (u.dpy.blink.getD g (1, 1, 0)).1) →
        (∀ k, k < 2 * 384 * y ∨ 2 * 384 * (y + 1) ≤ k → Mem.read t.dpy.acc k = Mem.read u.dpy.acc k) ∧
        (t.dpy.balNow = true ↔ u.dpy.balNow = true ∨ ∃ k < 384, bits u.dpy.cfg3 15 0 < acc t.dpy.acc k) ∧
        ∀ x < 128, ∀ cl < 3,
          let o := attr u.dpy.bm x y
          let l := u.dpy.lock
          let inside : Prop := l.getLsbD 31 = true ∧ bits l 6 0 ≤ x ∧ x ≤ bits l 14 8 ∧ bits l 20 16 ≤ y ∧ y ≤ bits l 28 24
          ∀ g, (inside ∧ 2 ≤ o → g = 0) → (¬(inside ∧ 2 ≤ o) → g = o) →
          let b := u.dpy.blink.getD g (1, 1, 0)
          let fwd := 1465 - bits u.dpy.cfg1 23 16
          let pulse := if (u.dpy.frames + b.2.2) % b.1 < b.2.1 then u.dpy.gamma.getD (256 * cl + (Mem.read u.dpy.fm (3 * (128 * y + x) + cl)).toNat) 0 * fwd / 1023 else 0
          let a := acc u.dpy.acc (3 * x + cl)
          let rev := if a ≤ bits u.dpy.cfg3 15 0 then bits u.dpy.cfg1 8 0 else if r % 8 = 7 then 489 else 488
          acc t.dpy.acc (3 * x + cl) = min 65535 (a + pulse * bits u.dpy.cfg2 (8 * cl + 7) (8 * cl) / 2048 - rev * bits u.dpy.cfg3 23 16 / 256))))

/-- R437, R438, R441, R442, R449, R450, R453, R454, 11 R315; when several requests for REDUCED wait, the first enters and the others end with ORDER (log 23, the model's choice). -/
def Obligations.ClockOperationsChangeModesAndFreeze : Prop :=
  (∀ (s : State) (c : CoreId) (rs : Reg) (x : Ctx) (ws : List Word),
    let u := issued s x rs
    let a := getG u x rs
    let w := rw ws 1
    let old := u.clk.mode
    let m := bits w 2 0
    let role := bits w 10 8
    let lc := lcState u
    let ended (t : State) (op : Nat) (out : Option Nat) : Prop := getG t x 1 = 0 ∧ t.posts.length = u.posts.length + 1 ∧ t.posts.getLast? =
      some { unit := .clk, world := worldOfCtx x, live := true, addr := a.toNat, op := op, words := ws, outcome := out, results := [] }
    (Issues s c rs .clk .more 3 x ws → ∀ i ∈ [Instr.clkModeRun c rs, .clkModeReduced c rs, .clkModeService c rs],
      let form : Prop := w &&& 0xFFFFF8F8 = 0 ∧ 2 ≤ m ∧ m ≤ 4 ∧ (m = 3 ∨ rw ws 2 = 0)
      let runs (p n : Nat) : Prop := let z := chan u n; z.input.getLsbD 7 = true ∧ z.chain.st ≠ 0 ∧ z.chain.preset = p
      let toRun : Prop := (old = 1 ∧ u.legal.released = true) ∨ old = 3 ∨ (old = 4 ∧ ∀ mp < 32, mpDefined u mp = true →
        (∀ n ∈ pointChans u mp, runs 1 n) ∨ (isDc u mp = true ∧ ∀ n ∈ pointChans u mp, runs 2 n))
      let toService : Prop := (old = 1 ∨ old = 2) ∧ (lc = 1 ∨ lc = 4 ∨ (lc = 3 ∧ role = 4 ∧ (∃ z ∈ u.obj.ports ++ u.obj.site, z.role = 4) ∧
        ∀ z ∈ u.rly, coilOn z = false))
      let toReduced : Prop := old = 2 ∧ 1 ≤ (maskChans u (rw ws 2)).length ∧ (maskChans u (rw ws 2)).length ≤ 24 ∧
        (∀ n ∈ maskChans u (rw ws 2), (chan u n).chain.st ≠ 0 ∧ (chan u n).chain.preset = 1) ∧
        ∀ r < 32, (rw ws 2).getLsbD r = false → coilOn (rel u r) = false
      (¬form → exec i s = declines u x 6) ∧
      (form → Room u x .clk →
        ((m = 2 ∧ toRun) ∨ (m = 4 ∧ toService) → Completes (exec i s) fun t =>
          t.clk.mode = m ∧ t.clk.prevMode = old ∧ t.clk.modechg = min 65535 (u.clk.modechg + 1) ∧ t.clk.redmask = 0 ∧ ended t 0 (some 0) ∧
          t.legal.ctl.evpend.getLsbD 12 = true ∧ (old ≠ 3 → Recorded u t .clk 0x66 [0xFFFFFFFF, w32 old, w32 m, w32 role, 0])) ∧
        (m = 3 → toReduced → exec i s =
          .next (accepts { u with clk := { u.clk with reduceTo := some ((now u / 8192 + 1) * 8192) } } u x a .clk 0 ws none [])) ∧
        (¬((m = 2 ∧ toRun) ∨ (m = 4 ∧ toService) ∨ (m = 3 ∧ toReduced)) → exec i s = .next (accepts u u x a .clk 0 ws (some 7) [])))) ∧
    (Issues s c rs .clk .more 2 x ws → ∀ agree : Bool,
      let live : Prop := old = 2 ∨ old = 3 ∨ old = 4
      let refused : Prop := ((lc = 3 ∨ 5 ≤ lc) ∧ ∃ z ∈ u.rly, coilOn z = true) ∨ u.clk.pfw.isSome ∨ ∃ e, u.clk.freezeEnd = some e ∧ u.clk.ref < e + 2400000
      (w = 0 ∨ 60000 < w.toNat → exec (.clkSlack c rs agree) s = declines u x 6) ∧
      (w ≠ 0 → w.toNat ≤ 60000 → Room u x .clk →
        (¬live → exec (.clkSlack c rs agree) s = .next (accepts u u x a .clk 1 ws (some 7) [])) ∧
        (live → agree = false → Completes (exec (.clkSlack c rs agree) s) fun t => ended t 1 (some 9) ∧ t.clk.freeze = u.clk.freeze ∧ t.clk.mode = old) ∧
        (live → agree = true → refused → Completes (exec (.clkSlack c rs agree) s) fun t =>
          ended t 1 (some 7) ∧ t.clk = { u.clk with refused := min 65535 (u.clk.refused + 1) }) ∧
        (live → agree = true → ¬refused → Completes (exec (.clkSlack c rs agree) s) fun t =>
          ended t 1 none ∧ t.clk.mode = 5 ∧ t.clk.prevMode = old ∧ t.clk.grants = min 65535 (u.clk.grants + 1) ∧ t.clk.modtick = u.clk.modtick ∧
          t.clk.freeze = some { tick := now u, rtc := u.bk.rtc, cause := 2, endRef := some (u.clk.ref + 24000 * w.toNat), chains := 0, mode := old })) ∧
      (w &&& 0xFFFFFFFE ≠ 0 ∨ w = 0 → exec (.clkDbg c rs) s = declines u x 6) ∧
      (w = 1 → lc ≠ 1 → lc ≠ 4 → exec (.clkDbg c rs) s = declines u x 7) ∧
      (w = 1 → lc = 1 ∨ lc = 4 → Room u x .clk → Completes (exec (.clkDbg c rs) s) fun t =>
        ended t 3 (some 0) ∧ t.clk = { u.clk with dbg := true } ∧ t.key.test = true ∧ (∀ z ∈ t.key.cache, z = none) ∧ (∀ z ∈ t.key.pendKeys, z = none) ∧
        (∀ z ∈ t.key.ks, z.isSome) ∧ (2 ≤ u.sit.st → u.sit.st ≤ 6 → t.sit.st = 1) ∧ ∃ v, v.key.test = true ∧ t.ldg = (event v .key 0x4D [0xFFFFFFFF, w32 lc]).ldg)) ∧
    (Issues s c rs .clk .read 6 x ws →
      let k := u.clk
      let total := k.fbRef + (match k.fallback with | some f => k.ref - f | none => 0)
      k.mode < 16 → k.prevMode < 16 → ∃ st, exec (.clkRdst c rs) s = .next (answers u x a
          [(1, st), (2, w32 (65536 * k.pllLoss + k.grants)), (3, w32 (65536 * k.refused + k.modechg)), (4, k.redmask), (5, w32 (min 0xFFFFFFFF (total / 24000)))]) ∧
        bits st 3 0 = k.mode ∧ bits st 7 4 = k.prevMode ∧ st.getLsbD 10 = k.lock ∧ st.getLsbD 11 = k.fallback.isSome ∧ st.getLsbD 16 = k.slackPin ∧
        st.getLsbD 17 = k.pfw.isSome ∧ st.getLsbD 18 = k.dbg ∧ st.getLsbD 19 = k.refOk ∧ st &&& 0xFFF0F300 = 0)) ∧
  (∀ s : State,
    let told (t : State) : Prop := t.legal.ctl.evpend.getLsbD 12 = true
    let released (u t : State) (f : Freeze) : Prop :=
      t.clk.freeze = none ∧ t.clk.mode = f.mode ∧ t.clk.prevMode = 5 ∧ t.clk.freezeEnd = some u.clk.ref ∧ t.clk.modtick = u.clk.modtick ∧ told t ∧
      (∃ v, t.ldg = (event v .clk 0x67 ([0xFFFFFFFF] ++ two f.tick ++ [w32 (u.bk.rtc - f.rtc), w32 f.cause, w32 f.chains])).ldg) ∧
      (2000000 < (tref u - btNow u).natAbs → t.tim.segs.head? = some { m0 := now u, b0 := (tref u).toNat, r := 0 }) ∧
      ∀ (i : Nat) (p : Posted), u.posts[i]? = some p → p.unit = .clk → p.op = 1 → p.outcome = none →
        (∀ j < i, ∀ z, u.posts[j]? = some z → z.unit = .clk → z.op = 1 → z.outcome ≠ none) → t.posts[i]? = some { p with outcome := some 0, results := [] }
    (∀ agree : Bool,
      let asks : Prop := alive s = true ∧ s.clk.slackPin = false ∧ s.clk.slackArmed = true ∧ (s.clk.mode = 2 ∨ s.clk.mode = 3 ∨ s.clk.mode = 4)
      let refused : Prop := ((lcState s = 3 ∨ 5 ≤ lcState s) ∧ ∃ z ∈ s.rly, coilOn z = true) ∨ s.clk.pfw.isSome ∨ ∃ e, s.clk.freezeEnd = some e ∧ s.clk.ref < e + 2400000
      (¬asks → exec (.slackNFall agree) s = .next { s with clk := { s.clk with slackPin := true } }) ∧
      (asks → agree = true → refused → Completes (exec (.slackNFall agree) s) fun t =>
        t.clk = { s.clk with slackPin := true, refused := min 65535 (s.clk.refused + 1) }) ∧
      (asks → agree = true → ¬refused → Completes (exec (.slackNFall agree) s) fun t =>
        t.clk.slackPin = true ∧ t.clk.mode = 5 ∧ t.clk.prevMode = s.clk.mode ∧ t.clk.grants = min 65535 (s.clk.grants + 1) ∧ told t ∧
        t.clk.freeze = some { tick := now s, rtc := s.bk.rtc, cause := 1, endRef := none, chains := 0, mode := s.clk.mode })) ∧
    ((∀ f, s.clk.freeze = some f → f.cause ≠ 1) → exec .slackNRise s = .next { s with clk := { s.clk with slackPin := false, slackArmed := true } }) ∧
    (∀ f, s.clk.freeze = some f → f.cause = 1 → Completes (exec .slackNRise s) fun t => released s t f ∧ t.clk.slackPin = false ∧ t.clk.slackArmed = true) ∧
    (∀ f u r, s.clk.freeze = some f → f.endRef = some r → ReachesRef s u r → Completes (exec .slackDurationEnd s) fun t => released u t f) ∧
    (s.clk.powered = true → s.clk.t0.isSome → s.clk.pfw = none → s.clk.fallback = none → ∀ cause, Completes (exec (.pllLoss cause) s) fun t =>
      let near := (s.clk.ref :: s.clk.losses).filter fun r => decide (s.clk.ref < r + 1440000000)
      t.clk = { s.clk with fallback := some s.clk.ref, lock := false, pllLoss := min 65535 (s.clk.pllLoss + 1), losses := near
                           holdoff := if 8 ≤ near.length then some (s.clk.ref + 1440000000) else none } ∧ told t ∧
      (∀ n < 128, (chan s n).chain.st ≠ 0 → (chan s n).chain.preset = 0 → (chan s n).chain.wait = false → (chan t n).chain.st = 0 ∧ (chan t n).chain.again = if (chan s n).chain.ending.isSome then 0 else 1) ∧
      (2 ≤ s.sit.st → s.sit.st ≤ 6 → t.sit.st = 8) ∧ ∃ v, t.ldg = (event v .clk 0x64 ([0xFFFFFFFF] ++ two (now s) ++ [w32 (cause % 3 + 1)])).ldg) ∧
    (∀ f u, alive s = true → s.clk.fallback = some f → s.clk.holdoff = none → s.clk.pfw = none → ReachesRef s u (f + 24000) → Completes (exec .pllRelock s) fun t =>
      t.clk = { u.clk with fallback := none, lock := true, fbRef := u.clk.fbRef + (u.clk.ref - f) } ∧ told t ∧
      (u.clk.mode ≠ 3 → u.sit.st = 8 → t.sit.st = 2) ∧ ∃ v, t.ldg = (event v .clk 0x65 ([0xFFFFFFFF] ++ two (now u) ++ [w32 ((u.clk.ref - f) / 24)])).ldg) ∧
    (∀ h u, s.clk.powered = true → s.clk.holdoff = some h → ReachesRef s u h →
      exec .relockHoldoffEnd s = .next { u with clk := { u.clk with holdoff := none } }) ∧
    (∀ b u, alive s = true → s.clk.reduceTo = some b → Reaches s u b → Completes (exec .reducedEntry s) fun t =>
      let asked (p : Posted) : Prop := p.unit = .clk ∧ p.op = 0 ∧ bits (rw p.words 1) 2 0 = 3 ∧ p.outcome = none
      t.clk.reduceTo = none ∧
      (u.clk.mode ≠ 2 → t.clk.mode = u.clk.mode ∧ ∀ (i : Nat) (p : Posted), u.posts[i]? = some p → asked p → t.posts[i]? = some { p with outcome := some 7, results := [] }) ∧
      ∀ (i : Nat) (p : Posted), u.clk.mode = 2 → u.posts[i]? = some p → asked p → (∀ j < i, ∀ z, u.posts[j]? = some z → ¬asked z) →
        t.clk.mode = 3 ∧ t.clk.prevMode = 2 ∧ t.clk.redmask = rw p.words 2 ∧ told t ∧ t.posts[i]? = some { p with outcome := some 0, results := [] } ∧
        (∀ j z, j ≠ i → u.posts[j]? = some z → asked z → t.posts[j]? = some { z with outcome := some 7, results := [] }) ∧
        (∀ n < 128, n ∉ maskChans u (rw p.words 2) → (chan t n).chain.st = 0) ∧ (2 ≤ u.sit.st → u.sit.st ≤ 6 → t.sit.st = 8) ∧
        ∀ e ∈ t.dpy.q, e.stop.isSome))

/-- R455 to R467, R469, R478, R479; ASEQ before the first frame, the frame number of RESET and the answers to LEGAL messages are the model's reading (log 24, 25, 30). -/
def Obligations.HostPortsExchangeFramesInOrder : Prop :=
  (∀ (s : State) (c : CoreId) (rs : Reg) (x : Ctx) (ws : List Word), isWorld x = true → s.hst.length = 3 →
    let u := issued s x rs
    let a := getG u x rs
    let w := rw ws 1
    let v := rw ws 2
    let wd := worldOfCtx x
    let n := bits w 26 16
    let ch := bits w 9 8
    let pt := bits w 1 0
    let named (i : Nat) : Bool := if pt = 2 then decide (i < 2) else i == pt
    let denied : Prop := wd = .opn ∧ ch ≠ 0
    (Issues s c rs .hst .more 5 x ws →
      let form : Prop := w &&& 0xF800FCFC = 0 ∧ rw ws 4 = 0 ∧ pt ≠ 3 ∧ ch ≠ 3 ∧ bufOk u wd v n = true ∧
        (if ch = 2 then n = 4 ∧ 0x80 ≤ ((dataRead u x v 1).getD 0 0).toNat else 1 ≤ n ∧ n ≤ 1024)
      let crowd (i : Nat) : Prop := 8 ≤ ((port u i).msgs.filter fun f => f.world == some wd).length
      let fr (k : Nat) (b : List Byte) : OutFrame := { kind := k, tseq := 0, payload := b, world := some wd, addr := a.toNat }
      let e := fr 3 (dataRead u x v 4 ++ le 4 0 ++ le 8 (now u) ++ le 8 (btNow u))
      (denied → exec (.hstSend c rs) s = declines u x 2) ∧ (¬denied → ¬form → exec (.hstSend c rs) s = declines u x 6) ∧
      (¬denied → form → ch ≠ 2 → (∃ i < 2, named i = true ∧ crowd i) → exec (.hstSend c rs) s = declines u x 8) ∧
      (¬denied → form → ch ≠ 2 → (∀ i < 2, named i = true → ¬crowd i) → Room u x .hst → exec (.hstSend c rs) s = .next (accepts
        { u with hst := u.hst.mapIdx fun i q => if named i then { q with msgs := q.msgs ++ [fr 2 ([BitVec.ofNat 8 ch, 0, 0, 0] ++ dataRead u x v n)] } else q }
        u x a .hst 0 ws none [])) ∧
      (¬denied → form → ch = 2 → Room u x .hst →
        ((∀ i < 2, named i = true → (port u i).events.length < 31) → exec (.hstSend c rs) s = .next (accepts
          { u with hst := u.hst.mapIdx fun i q => if named i then { q with events := q.events ++ [e] } else q } u x a .hst 0 ws none [])) ∧
        ∀ i < 2, named i = true → 31 ≤ (port u i).events.length → Completes (exec (.hstSend c rs) s) fun t =>
          let z := min 65535 ((port u i).evLost + 1)
          (port t i).evLost = z ∧ ∃ o, (port t i).events = (port u i).events.take 31 ++ [o] ∧ o.kind = 3 ∧
            o.payload.take 4 = [6, 0xFF, BitVec.ofNat 8 z, BitVec.ofNat 8 (z / 256)])) ∧
    (Issues s c rs .hst .more 5 x ws →
      let p := bits w 0 0
      let form : Prop := w &&& 0xF800FCFE = 0 ∧ rw ws 3 &&& 0xFFFF0000 = 0 ∧ rw ws 4 = 0 ∧ ch ≤ 1 ∧ bufOk u wd v 1024 = true
      (denied → exec (.hstRecv c rs) s = declines u x 2) ∧ (¬denied → ¬form → exec (.hstRecv c rs) s = declines u x 6) ∧
      (¬denied → form → (∀ z ∈ (port u p).inbox, z.chan ≠ ch) → exec (.hstRecv c rs) s = .next (answers u x a [(1, w32 (256 * ch + p)), (3, 0)])) ∧
      ∀ (i : Nat) (z : InMsg), ¬denied → form → (port u p).inbox[i]? = some z → z.chan = ch → (∀ j < i, ∀ y, (port u p).inbox[j]? = some y → y.chan ≠ ch) →
        exec (.hstRecv c rs) s = .next (answers (dataWrite { u with hst := u.hst.modify p fun q => { q with inbox := q.inbox.eraseIdx i } } x v z.data) x a
          [(1, w32 (65536 * z.data.length + 256 * ch + p)), (3, w32 z.tseq)])) ∧
    (Issues s c rs .hst .read 6 x ws →
      let p := bits w 0 0
      let q := port u p
      (w &&& 0xFFFFFFFE ≠ 0 → exec (.hstRdst c rs) s = declines u x 6) ∧
      (w &&& 0xFFFFFFFE = 0 → q.unacked.length ≤ 8 → (u.obj.ports.getD p Assoc.zero).role < 8 → ∃ st, exec (.hstRdst c rs) s = .next (answers u x a
          [(2, st), (3, w32 (65536 * q.crcErr + q.retx)), (4, w32 (65536 * q.overrun + q.strDrop)), (5, w32 (65536 * q.evLost + q.trunc))]) ∧
        bits st 15 12 = 8 - q.inbox.length ∧ bits st 11 8 = q.unacked.length ∧ bits st 7 5 = (u.obj.ports.getD p Assoc.zero).role ∧
        (st.getLsbD 4 = true ↔ u.clk.freeze.isSome ∧ p = 0) ∧ (st.getLsbD 3 = true ↔ u.clk.mode = 1) ∧ (st.getLsbD 2 = true ↔ q.sub ≠ 0) ∧ st.getLsbD 0 = q.synced))) ∧
  (∀ (s : State) (p : PortId) (frame : List Nat) (agree : Bool), s.hst.length = 3 → s.clk.powered = true → s.clk.t0.isSome → s.clk.pfw = none →
    (∀ f ∈ (port s (portNo p)).unacked, f.tseq < 65536) →
    let P := portNo p
    let q := port s P
    let b : List Byte := natBytes frame
    let n := fld 6 2 b
    let kind := fld 1 1 b
    let tseq := fld 2 2 b
    let fits : Prop := match kind with
      | 0 => n = 0
      | 1 => 16 ≤ n
      | 2 => p ≠ .optical ∧ 5 ≤ n ∧ n ≤ 1028
      | 5 => p ≠ .optical ∧ n = 8
      | 7 => p = .hosta ∧ n = 12
      | 9 => p = .hosta ∧ n = 0
      | 10 => n = 0
      | _ => False
    let good : Prop := 16 ≤ b.length ∧ b.getD 0 0 = 0xA5 ∧ n ≤ 1040 ∧ 16 + n ≤ b.length ∧ fld (12 + n) 4 b = (crc32c (b.take (12 + n))).toNat ∧ fits
    let up : Prop := s.clk.freeze = none ∨ p = .hosta
    let aseq := fld 4 2 b
    let kept := q.unacked.filter fun f => decide (32768 ≤ (aseq + 65536 - f.tseq % 65536) % 65536)
    let noted (t : State) : Prop := (port t P).synced = true ∧ (port t P).unacked = kept ∧ (port t P).hostCredit = fld 8 1 b ∧
      ((fld 9 1 b).testBit 0 = true → kept ≠ [] → (port t P).rep = some 0) ∧ (kept = [] → (port t P).rep = none)
    let held (t : State) (wd : World) (ad : Nat) : Prop := ∃ z ∈ t.hst, ∃ f ∈ z.events ++ z.msgs ++ z.unacked, f.world = some wd ∧ f.addr = ad
    let sendEnds (t : State) (wd : World) (ad out : Nat) : Prop := ∀ (i : Nat) (d : Posted), s.posts[i]? = some d → d.unit = .hst → d.op = 0 → d.world = wd → d.addr = ad →
      d.outcome = none → (∀ j < i, ∀ z, s.posts[j]? = some z → z.unit = .hst → z.op = 0 → z.world = wd → z.addr = ad → z.outcome ≠ none) →
        t.posts[i]? = some { d with outcome := some out }
    let fresh : Prop := q.rxSeq = none ∧ tseq = 0 ∨ ∃ r, q.rxSeq = some r ∧ tseq = (r + 1) % 65536
    let credit : Prop := q.lastCredit ≠ 0 ∧ q.inbox.length < 8
    let took (t : State) : Prop := noted t ∧ (port t P).rxSeq = some tseq ∧ (port t P).nak = false
    let open0 : Prop := good ∧ s.clk.freeze = none ∧ s.clk.bootStage ≠ 3
    (up → ¬good → exec (.crcerr p frame) s = .next { s with hst := s.hst.modify P fun z => { z with crcErr := min 65535 (z.crcErr + 1), nak := true } }) ∧
    (up → good → kind = 0 → Completes (exec (.idle p frame) s) fun t => noted t ∧ (port t P).rxSeq = q.rxSeq ∧
      ∀ f ∈ q.unacked, f ∉ kept → ∀ wd, f.world = some wd → ¬held t wd f.addr → sendEnds t wd f.addr 0) ∧
    (open0 → ¬credit → ∀ i ∈ [Instr.message p frame agree, .stream p frame], (kind = 2 ∧ i = .message p frame agree) ∨ (kind = 5 ∧ i = .stream p frame) →
      Completes (exec i s) fun t => noted t ∧ (port t P).overrun = min 65535 (q.overrun + 1) ∧ (port t P).rxSeq = q.rxSeq ∧ (port t P).inbox = q.inbox ∧
        (port t P).sub = q.sub) ∧
    (open0 → credit → ¬fresh → ∀ i ∈ [Instr.message p frame agree, .stream p frame], (kind = 2 ∧ i = .message p frame agree) ∨ (kind = 5 ∧ i = .stream p frame) →
      Completes (exec i s) fun t => noted t ∧ (port t P).rxSeq = q.rxSeq ∧ (port t P).inbox = q.inbox ∧ (port t P).sub = q.sub ∧
        (let late : Prop := ∃ r, q.rxSeq = some r ∧ ¬(0 < (tseq + 65536 - r % 65536) % 65536 ∧ (tseq + 65536 - r % 65536) % 65536 < 32768)
         (late → (port t P).nak = q.nak) ∧ (¬late → (port t P).nak = true))) ∧
    (open0 → credit → fresh → kind = 2 →
      let ch := fld 12 1 b
      let data := (b.drop 16).take (n - 4)
      (ch = 0 ∨ (ch = 1 ∧ s.legal.released = false) → Completes (exec (.message p frame agree) s) fun t => took t ∧
        (port t P).inbox = q.inbox ++ [{ chan := ch, tseq := tseq, data := data }] ∧
        (if ch = 0 then t.opn.ctl.evpend.getLsbD 13 = true else t.legal.ctl.evpend.getLsbD 13 = true)) ∧
      (ch = 1 → s.legal.released = true → data.length ≠ 80 → Completes (exec (.message p frame agree) s) fun t => took t ∧ (port t P).inbox = q.inbox ∧
        ∃ f, (port t P).msgs = q.msgs ++ [f] ∧ f.kind = 2 ∧ f.payload = [1, 0, 0, 0, 6, 0, 0, 0] ++ le 4 s.key.shadow)) ∧
    (open0 → credit → fresh → kind = 5 → Completes (exec (.stream p frame) s) fun t => took t ∧ (port t P).subExt = (fld 16 4 b).testBit 0 ∧
      ∀ mp < 32, (port t P).sub.getLsbD mp = ((fld 12 4 b).testBit mp && allowed s (s.obj.ports.getD P Assoc.zero) 3 mp 1)) ∧
    (good → kind = 7 → credit → fresh → s.clk.bootStage ≠ 3 ∨ s.clk.freeze.isSome → Completes (exec (.readout p frame) s) fun t =>
      let ci := fld 12 1 b
      let o := fld 16 4 b
      let k := fld 20 4 b
      took t ∧ ∃ f, (port t P).boots = q.boots ++ [f] ∧ f.kind = 8 ∧
        (s.clk.freeze = none → f.payload = [7, 0, 0, 0]) ∧
        ∀ z, s.clk.freeze = some z → ci < 15 →
          let absent : Prop := (ci = 8 ∧ s.fuse.variant.sit = false) ∨ (ci = 9 ∧ s.fuse.variant.dpy = false)
          let right : Prop := ((ci = 5 ∨ 11 ≤ ci ∧ ci ≤ 13) → lcState s = 1 ∨ lcState s = 4) ∧ (ci = 14 → lcState s = 1 ∨ lcState s = 2 ∨ lcState s = 4)
          let inside : Prop := 1 ≤ k ∧ k ≤ 8192 ∧ o + k ≤ chainLen ci
          (absent → f.payload = [3, 0, 0, 0]) ∧ (¬absent → ¬right → f.payload = [2, 0, 0, 0]) ∧ (¬absent → right → ¬inside → f.payload = [6, 0, 0, 0]) ∧
          (¬absent → right → inside → f.payload.take 4 = [0, 0, 0, 0] ∧ f.payload.length = 4 + (k + 7) / 8 ∧
            (∃ y, t.clk.freeze = some y ∧ y.chains.testBit ci = true ∧ y.tick = z.tick ∧ y.mode = z.mode) ∧
            (let m (d : Mem) (base : Nat) : Prop := ∀ i < k, (f.payload.getD (4 + i / 8) 0).getLsbD (i % 8) = (Mem.read d (base + (o + i) / 8)).getLsbD ((o + i) % 8)
             (ci = 11 → m s.ebb.dmem 0) ∧ (ci = 12 → m s.flood.dmem 0) ∧ (ci = 13 → m s.hl.dmem 0) ∧ (ci = 14 → m s.hl.dmem 0x80000)))) ∧
    (∀ z, good → kind = 9 → credit → fresh → s.clk.freeze = some z → Completes (exec (.release p frame) s) fun t => t.clk.freeze = none ∧ t.clk.mode = z.mode) ∧
    (good → kind = 10 → s.clk.freeze = none → Completes (exec (.reset p frame) s) fun t => let r := port t P
      r.txSeq = 0 ∧ r.rxSeq = some 0 ∧ r.resetOut = true ∧ r.unacked = [] ∧ r.events = [] ∧ r.boots = [] ∧ r.objs = [] ∧ r.msgs = [] ∧ r.frames = [] ∧ r.inbox = [] ∧
      r.sub = 0 ∧ r.nak = false ∧ r.rep = none ∧ r.crcErr = q.crcErr ∧ r.overrun = q.overrun ∧ r.trunc = q.trunc ∧ (t.obj.ports.length = s.obj.ports.length) ∧
      (P < s.obj.ports.length → t.obj.ports[P]? = some Assoc.zero) ∧
      ∀ f ∈ q.events ++ q.msgs ++ kept, ∀ wd, f.world = some wd →
        (∀ g ∈ q.unacked, g ∉ kept → ¬(g.world = some wd ∧ g.addr = f.addr)) → sendEnds t wd f.addr 4) ∧
    (let z2 := port s 2
     exec .opticalCharTimeout s = .next { s with hst := s.hst.set 2 { z2 with part := [] } } ∧
     (s.clk.freeze = none → ∀ clocks, (z2.part ++ b).length < 16 → (z2.part ++ b).head? = some 0xA5 →
       exec (.hostTransaction .optical clocks frame agree) s = .next { s with hst := s.hst.set 2 { z2 with part := z2.part ++ b } })) ∧
    (∀ clocks, up → p ≠ .optical → s.clk.bootStage ≠ 3 →
      let head (k ts : Nat) (rt : Bool) (pl : List Byte) : List Byte := [0xA5, BitVec.ofNat 8 k] ++ le 2 ts ++ le 2 (q.rxSeq.getD 0xFFFF) ++ le 2 pl.length ++
        [BitVec.ofNat 8 (8 - q.inbox.length), BitVec.ofNat 8 (b2n q.nak + 2 * b2n rt)] ++ le 2 0 ++ pl
      let full (k ts : Nat) (rt : Bool) (pl : List Byte) : List Byte := head k ts rt pl ++ le 4 (crc32c (head k ts rt pl)).toNat
      let clear : Prop := q.unacked.length < min 8 q.hostCredit
      let sent (t : State) (f : List Byte) : Prop := (port t P).sent = f.take clocks ∧ (f.length ≤ clocks → (port t P).lastCredit = 8 - q.inbox.length) ∧
        (clocks < f.length → (port t P).txSeq = q.txSeq ∧ (port t P).unacked = q.unacked ∧ (port t P).retx = q.retx ∧ (port t P).lastCredit = q.lastCredit)
      let fresh (t : State) (f : OutFrame) : Prop := sent t (full f.kind q.txSeq false f.payload) ∧
        (16 + f.payload.length ≤ clocks → (port t P).txSeq = (q.txSeq + 1) % 65536 ∧ (port t P).unacked = q.unacked ++ [{ f with tseq := q.txSeq }])
      let plain (k : Nat) (pl : List Byte) : OutFrame := { kind := k, tseq := 0, payload := pl, world := none, addr := 0 }
      Completes (exec (.hostTransaction p clocks [] agree) s) fun t =>
        (q.resetOut = true → fresh t (plain 10 [])) ∧
        (q.resetOut = false → ∀ i f, q.rep = some i → q.unacked[i]? = some f → sent t (full f.kind f.tseq true f.payload) ∧
          (16 + f.payload.length ≤ clocks → (port t P).retx = min 65535 (q.retx + 1) ∧ (port t P).txSeq = q.txSeq)) ∧
        (q.resetOut = false → q.rep = none → s.clk.freeze = none →
          (¬clear → sent t (full 0 0 false [])) ∧
          (clear → (∀ f l, q.events = f :: l → fresh t f ∧ (16 + f.payload.length ≤ clocks → (port t P).events = l)) ∧
            (q.events = [] → ∀ f l, q.boots = f :: l → fresh t f ∧ (16 + f.payload.length ≤ clocks → (port t P).boots = l)) ∧
            (q.events = [] → q.boots = [] → ∀ m l, q.objs = m :: l → fresh t (plain 1 m) ∧ (16 + m.length ≤ clocks → (port t P).objs = l)) ∧
            (q.events = [] → q.boots = [] → q.objs = [] → ∀ f l, q.msgs = f :: l → fresh t f ∧ (16 + f.payload.length ≤ clocks → (port t P).msgs = l)) ∧
            (q.events = [] → q.boots = [] → q.objs = [] → q.msgs = [] → ∀ m l, q.frames = m :: l →
              fresh t (plain 4 m) ∧ (16 + m.length ≤ clocks → (port t P).frames = l)) ∧
            (q.events = [] → q.boots = [] → q.objs = [] → q.msgs = [] → q.frames = [] → sent t (full 0 0 false [])))) ∧
        (q.unacked ≠ [] → (3 ≤ q.idleTx → (port t P).rep = some 0 ∧ (port t P).idleTx = 0) ∧ (q.idleTx < 3 → (port t P).idleTx = q.idleTx + 1))))

/-- R471 to R473, R477, R479, R449; a pulse's instants are those of R472 (log 6). -/
def Obligations.PulsesFollowTheirConfigurationAndTheTestPortItsState : Prop :=
  (∀ (s : State) (c : CoreId) (rs : Reg) (x : Ctx) (ws : List Word), s.pls.length = 8 →
    let u := issued s x rs
    let a := getG u x rs
    let w := rw ws 1
    let k := (rw ws 2).toNat
    let n := bits (rw ws 3) 31 8
    let o := bits w 2 0
    let src := bits w 9 8
    let p := pulse u o
    let abort : Bool := w.getLsbD 24
    let form : Prop := w &&& 0xFE600CF8 = 0 ∧ (abort = false → bits w 14 12 ≠ 7 ∧ src ≠ 3 ∧ 1 ≤ k ∧ k ≤ 10000000 ∧ bits (rw ws 3) 7 0 ≠ 0 ∧ (src = 2 ↔ n ≠ 0))
    let new : Pulse := if abort then
        { p with acc := 0, backlog := 0, overrate := false, pulses := 0, started := 0, run := p.run && p.level, stopping := p.run && p.level }
      else
        { p with src := src, mp := bits w 20 16, basis := w.getLsbD 15, qty := bits w 14 12, pol := w.getLsbD 23, k := k, count := n, width := bits (rw ws 3) 7 0
                 acc := 0, backlog := 0, overrate := false, pulses := 0, started := 0, run := src == 2, runDone := p.runDone && src != 2, stopping := false
                 level := p.level && src != 0, lastEnd := if p.level && src == 0 then (now u : Int) else p.lastEnd }
    (Issues s c rs .pls .more 4 x ws → ∀ i ∈ [Instr.plsCfg c rs, .plsCfgRun c rs, .plsCfgAbort c rs],
      (¬form → exec i s = declines u x 6) ∧ (form → p.run = true → abort = false → exec i s = declines u x 7) ∧
      (form → p.run = false ∨ abort = true → Completes (exec i s) fun t => ∃ z, t = answers z x a [] ∧ z.pls = u.pls.set o new ∧ z.rly = u.rly ∧ z.bil = u.bil ∧
        (p.overrate = true → z.legal.ctl.evpend.getLsbD 14 = true) ∧ (p.overrate = false → z.legal = u.legal))) ∧
    (Issues s c rs .pls .read 3 x ws →
      (w &&& 0x0000F0F8 ≠ 0 → exec (.plsRdst c rs) s = declines u x 6) ∧
      (w &&& 0x0000F0F8 = 0 → ∃ st, exec (.plsRdst c rs) s = .next (answers u x a [(1, st), (2, w32 p.pulses)]) ∧
        bits st 31 16 = min 65535 p.backlog ∧ st.getLsbD 11 = p.level ∧ st.getLsbD 10 = p.overrate ∧ st.getLsbD 9 = p.runDone ∧ st.getLsbD 8 = p.run ∧ bits st 7 0 = o))) ∧
  (∀ (s u : State) (n : PulseId), alive s = true → n.val < s.pls.length →
    let p := pulse s n.val
    let waits : Prop := (p.src = 1 ∨ (p.src = 2 ∧ p.run = true ∧ p.stopping = false)) ∧ 0 < p.backlog ∧ p.level = false
    let last : Bool := p.src == 2 && p.started + 1 == p.count
    (s.clk.pfw = none → waits → Reaches s u (max (p.lastStart + p.spacing) (p.lastEnd + 200 * p.width)).toNat → Completes (exec (.pulseStart n) s) fun t =>
      t.pls = u.pls.set n.val { p with
        backlog := p.backlog - 1, level := true, lastStart := now u, pulses := p.pulses + 1, started := p.started + 1, overrate := p.overrate && p.backlog != 1
        run := p.run && !last, runDone := p.runDone || last } ∧
      ((p.overrate = true ∧ p.backlog = 1) ∨ (p.runDone = false ∧ last = true) → t.legal.ctl.evpend.getLsbD 14 = true) ∧ t.rly = u.rly) ∧
    (¬waits → exec (.pulseStart n) s = .next s) ∧
    (p.level = true → Reaches s u (p.lastStart + 200 * p.width).toNat → 
      exec (.pulseEnd n) s = .next { u with pls := u.pls.set n.val { p with level := false, lastEnd := now u, run := p.run && !p.stopping, stopping := false } }) ∧
    (p.level = false → exec (.pulseEnd n) s = .next s)) ∧
  ∀ s : State,
    let loads (i : Instr) (code : Byte) : Prop :=
      exec i s = .next (if s.clk.powered then { s with clk := { s.clk with tap := if s.clk.dbg then code else 0xFF } } else s)
    let refused : Prop := ((lcState s = 3 ∨ 5 ≤ lcState s) ∧ ∃ z ∈ s.rly, coilOn z = true) ∨ s.clk.pfw.isSome ∨ ∃ e, s.clk.freezeEnd = some e ∧ s.clk.ref < e + 2400000
    let live : Prop := s.clk.mode = 2 ∨ s.clk.mode = 3 ∨ s.clk.mode = 4
    loads .extest 0x00 ∧ loads .samplePreload 0x01 ∧ loads .clamp 0x02 ∧ loads .highz 0x03 ∧ loads .bypass 0xFF ∧
    (s.clk.powered = true → exec .idcode s = .next { s with clk := { s.clk with tap := 0xFE } }) ∧ (s.clk.powered = false → exec .idcode s = .next s) ∧
    bits (idcode s) 27 0 = 0x712855D ∧ bits (idcode s) 31 28 = s.fuse.stepMajor.toNat % 16 ∧
    (s.clk.dbg = false ∨ alive s = false ∨ ¬live → ∀ g, loads (.dbgacc g) 0x20) ∧
    (s.clk.dbg = true → alive s = true → live → ¬refused → Completes (exec (.dbgacc true) s) fun t => t.clk.tap = 0x20 ∧ t.clk.mode = 5 ∧
      t.clk.freeze = some { tick := now s, rtc := s.bk.rtc, cause := 1, endRef := none, chains := 0, mode := s.clk.mode }) ∧
    (s.clk.dbg = true → alive s = true → live → refused → Completes (exec (.dbgacc true) s) fun t => t.clk = { s.clk with tap := 0x20, refused := min 65535 (s.clk.refused + 1) })

/-- R230 to R233, R235, R447, R448; time stands at the events' instants (log 6); a second VBAKLOW in one BACKUP means that the cell is gone (log 23, the model's choice). -/
def Obligations.BillingTimeIsReadSetDisciplinedAndTrimmed : Prop :=
  let corrects (u t : State) (d : Int) (first : Bool) : Prop :=
    let f := btNow u
    let r : Int := max (-500) (min 500 d)
    let sum := u.tim.slewSum + (absorbed u).natAbs
    let step : Prop := 2000000 < d.natAbs ∨ (u.tim.unset = true ∧ first = true)
    let fresh : Prop := ∃ g, u.tim.segs.head? = some g ∧ now u < g.m0 + 400000 ∧ 0 < g.m0
    let sums : Prop := t.tim.slewSum = (if 2000000 < sum then 0 else sum) ∧ t.tim.slewNet = if 2000000 < sum then 0 else u.tim.slewNet + absorbed u
    (step → t.tim.segs.head? = some { m0 := now u, b0 := ((f : Int) + d).toNat, r := 0 } ∧ t.tim.unset = false ∧ t.tim.slew = 0 ∧ sums ∧ t.bil.hw = max u.bil.hw f ∧
      ∀ mp x, u.bil.pts[mp]? = some x → mpDefined u mp = true → t.bil.pts[mp]? = some { x with steps := x.steps ++ [(now u, f, ((f : Int) + d).toNat)] }) ∧
    (¬step → r = 0 ∧ rateNow u = 0 ∨ fresh → t.tim.segs = u.tim.segs ∧ t.tim.slew = u.tim.slew ∧ t.bil = u.bil) ∧
    (¬step → ¬(r = 0 ∧ rateNow u = 0) → ¬fresh → t.tim.segs.head? = some { m0 := now u, b0 := f, r := r } ∧ t.tim.slew = d ∧ t.tim.unset = u.tim.unset ∧ sums ∧ t.bil = u.bil)
  (∀ (s : State) (c : CoreId) (rs : Reg) (x : Ctx) (ws : List Word),
    let u := issued s x rs
    let a := getG u x rs
    let w := rw ws 1
    let v : Nat := (rw ws 2).toNat + 2 ^ 32 * (rw ws 3).toNat
    (Issues s c rs .tim .laneRead 5 x ws → rw ws 4 &&& 0x0000FFE0 ≠ 0 → exec (.timRead c rs) s = declines u x 6) ∧
    (Issues s c rs .tim .laneRead 5 x ws → rw ws 4 &&& 0x0000FFE0 = 0 → -500 ≤ rateNow u → rateNow u ≤ 500 → ∃ st,
      exec (.timRead c rs) s = .next (answers u x a [(1, w32 (btNow u)), (2, w32 (btNow u / 2 ^ 32)), (3, w32 (u.bk.rtc / 32768)), (4, st)]) ∧
      (bits st 31 16 : Int) = rateNow u % 65536 ∧ bits st 15 5 = 0 ∧ st.getLsbD 4 = u.tim.unset ∧ st.getLsbD 3 = false ∧ st.getLsbD 2 = u.tim.beacons ∧
      (st.getLsbD 1 = true ↔ rateNow u ≠ 0) ∧ st.getLsbD 0 = (u.tim.beacons && u.tim.locked)) ∧
    (Issues s c rs .tim .more 4 x ws → ∀ i ∈ [Instr.timSetAbsolute c rs, .timSetAdjust c rs],
      let d : Int := if w.getLsbD 0 then (if v < 2 ^ 63 then (v : Int) else (v : Int) - 2 ^ 64) else (v : Int) - btNow u
      let order : Prop := (u.tim.beacons = true ∧ u.tim.locked = true) ∨ (btNow u : Int) + d < 0 ∨ 2 ^ 63 ≤ (btNow u : Int) + d ∨ 2 ≤ bits w 9 8
      (w &&& 0xFFFFFCFE ≠ 0 → exec i s = declines u x 6) ∧
      (w &&& 0xFFFFFCFE = 0 → Room u x .tim → order → exec i s = .next (accepts u u x a .tim 1 ws (some 7) [])) ∧
      (w &&& 0xFFFFFCFE = 0 → Room u x .tim → ¬order → Completes (exec i s) fun t =>
        t.tim.rtcOff = u.tim.rtcOff + d ∧ t.bk = u.bk ∧ corrects u t d true ∧ getG t x 1 = 0 ∧ t.posts.getLast? =
          some { unit := .tim, world := worldOfCtx x, live := true, addr := a.toNat, op := 1, words := ws, outcome := some 0, results := [] })) ∧
    (Runs s c x → recExc (fetched s x) x a = none → recWords u x a = ws → permitted x .tim .more = true → bits (rw ws 0) 7 0 = 3 → bits (rw ws 0) 27 16 = 0 →
      (w.getLsbD 0 = true → absentUnit u .sit = true → exec (.timDisc c rs) s = declines u x 3) ∧
      (w.getLsbD 0 = false ∨ absentUnit u .sit = false → w &&& 0xFFFFFFFE ≠ 0 ∨ rw ws 2 &&& 0xFFFFFFFE ≠ 0 → exec (.timDisc c rs) s = declines u x 6) ∧
      (w.getLsbD 0 = false ∨ absentUnit u .sit = false → w &&& 0xFFFFFFFE = 0 → rw ws 2 &&& 0xFFFFFFFE = 0 → exec (.timDisc c rs) s =
        .next (answers { u with tim := { u.tim with beacons := w.getLsbD 0 } } x a [(2, if u.tim.beacons then 1 else 0)]))) ∧
    (Issues s c rs .tim .laneRead 18 x ws →
      let found := w.getLsbD 8
      let l := if found then u.bk.found else u.bk.ledge
      let b : List Byte := le 4 l.valid.toNat ++ le 2 l.lflags.toNat ++ le 2 l.pupcnt ++ le 8 l.pdBt ++ le 6 l.pdRtc ++ le 2 l.rtctrim.toNat ++ le 6 l.cellRtc ++
        List.replicate 30 0
      (w &&& 0xFFFFFEFC ≠ 0 → exec (.timLedge c rs) s = declines u x 6) ∧
      (w &&& 0xFFFFFEFC = 0 → ∃ st crc, exec (.timLedge c rs) s =
          .next (answers u x a ((1, st) :: ((List.range 15).map fun i => (2 + i, w32 (fld (4 * i) 4 b))) ++ [(17, crc)])) ∧
        st.getLsbD 8 = found ∧ (st.getLsbD 0 = true ↔ l.valid = 0x4C454447) ∧ (st.getLsbD 1 = true ↔ crc = crc32c b) ∧
        (found = false ∨ u.bk.rtcLost = false → crc = crc32c b)))) ∧
  (∀ s u : State, alive s = true →
    (Reaches s u (s.tim.lastDisc + 4000000) → Completes (exec .timDisciplineTick s) fun t =>
      t.tim.lastDisc = now u ∧ t.tim.rtcOff = u.tim.rtcOff ∧ t.bk = u.bk ∧
      (u.tim.beacons = true → u.tim.locked = true → t = { u with tim := { u.tim with lastDisc := now u } }) ∧
      (u.tim.beacons = false ∨ u.tim.locked = false → corrects u t (tref u - btNow u) false)) ∧
    (∀ b, s.tim.lastBeacon = some b → s.tim.locked = true → Reaches s u (b + 40000000) →
      exec .beaconLossTimeout s = .next { u with tim := { u.tim with locked := false } }) ∧
    (∀ (g : Seg) (m : Nat), s.tim.segs.head? = some g → 0 < s.tim.slew * g.r → m = g.m0 + (4000000 * s.tim.slew.natAbs + g.r.natAbs - 1) / g.r.natAbs →
      Reaches s u m → Completes (exec .slewComplete s) fun t =>
      let sum := u.tim.slewSum + u.tim.slew.natAbs
      t.tim.segs.head? = some { m0 := m, b0 := btAt u m, r := 0 } ∧ t.tim.slew = 0 ∧ t.tim.slewSum = (if 2000000 < sum then 0 else sum) ∧
      t.tim.slewNet = (if 2000000 < sum then 0 else u.tim.slewNet + u.tim.slew) ∧ t.bk = u.bk ∧ t.bil = u.bil)) ∧
  ∀ s : State,
    (s.clk.powered = true → exec .vbaklow s = .next s) ∧
    (s.clk.powered = false → s.bk.ledge.lflags.getLsbD 6 = false → Completes (exec .vbaklow s) fun t => t.bk.vbak = s.bk.vbak ∧ t.bk.rtc = s.bk.rtc ∧
      ∀ i < 16, t.bk.ledge.lflags.getLsbD i = (s.bk.ledge.lflags.getLsbD i || i == 6)) ∧
    (s.clk.powered = false → s.bk.ledge.lflags.getLsbD 6 = true → exec .vbaklow s = .next { s with bk := { s.bk with vbak := false } }) ∧
    (s.clk.powered = false → s.bk.vbak = false → exec .rtcTrim s = .next s) ∧
    ∀ u, s.clk.powered = true ∨ s.bk.vbak = true → (s.bk.trims ≠ 0 → u = s) → (s.bk.trims = 0 → u = elapse (24000000 - s.bk.phase) s) →
      Completes (exec .rtcTrim s) fun t => t = { u with bk := t.bk } ∧ t.bk.trims = u.bk.trims - 1 ∧ t.bk.ledge = u.bk.ledge ∧
        let f := u.bk.frac + u.bk.ledge.rtctrim.toInt * 70368744
        ∃ k : Int, f = k * 4294967296 + t.bk.frac ∧ t.bk.frac.natAbs < 4294967296 ∧ (0 ≤ f → 0 ≤ t.bk.frac) ∧ (f ≤ 0 → t.bk.frac ≤ 0) ∧
          (t.bk.rtc : Int) = (u.bk.rtc + k) % 2 ^ 48

/-- R134, R135, R138, R436, R439, R443, R445 to R447; the warning's sequence is taken at once (log 10, the model's choice). -/
def Obligations.SupplyAndBootSequencesStartAndStopThePart : Prop :=
  (∀ s : State,
    let begins (t : State) (v33 : Bool) : Prop :=
      t.clk = { Clk.zero with powered := true, vio33 := v33, ref := s.clk.ref, slackPin := s.clk.slackPin, sys := s.clk.sys } ∧ t.mram = s.mram ∧
      (s.bk.vbak = true → s.bk.ledge.valid = 0x4C454447 →
        t.bk = { s.bk with found := s.bk.ledge, rtcLost := false, ledge := { s.bk.ledge with cellRtc := 0 } }) ∧
      (s.bk.vbak = false ∨ s.bk.ledge.valid ≠ 0x4C454447 → t.bk.rtcLost = true ∧ t.bk.rtc = 0 ∧
        t.bk.ledge = { valid := 0x4C454447, lflags := 0, pupcnt := 0, pdBt := 0, pdRtc := 0, rtctrim := 0, cellRtc := 0 })
    let quiet (t : State) : Prop := (∀ z ∈ t.rly, coilOn z = false) ∧ t.grant = false ∧ t.clk.t0 = none ∧ t.clk.modRun = false ∧ t.clk.refStable = none
    let flags (t : State) (l : List Nat) : Prop := ∀ i < 16, t.bk.ledge.lflags.getLsbD i = (s.bk.ledge.lflags.getLsbD i || l.contains i)
    let dark (t : State) : Prop := t.dpy.dark = true ∧ t.dpy.q = [] ∧ (∀ z ∈ t.pls, z.level = false) ∧ t.pair.snap = none ∧ t.pair.bilIn = []
    (∀ v33 : Bool, s.clk.powered = true → exec (.powerOn v33) s = .next s) ∧
    (∀ v33 : Bool, s.clk.powered = false → Completes (exec (.powerOn v33) s) fun t => begins t v33) ∧
    (s.clk.powered = true → s.clk.pfw.isSome → s.clk.refLost = false → Completes (exec .supplyReturn s) fun t => begins t s.clk.vio33) ∧
    (s.clk.powered = true → s.clk.refLost = true → Completes (exec .refRestored s) fun t => begins t s.clk.vio33) ∧
    (s.clk.powered = true → s.clk.refStable = none → s.clk.pfw = none → exec .refStable s =
      .next { s with clk := { s.clk with refStable := some s.clk.ref, refOk := true }, aux := { Auxc.zero with calRun := true } }) ∧
    (s.clk.powered = true → s.clk.pfw = none → s.clk.t0.isSome → s.clk.freeze = none → Completes (exec .powerFailWarning s) fun t =>
      quiet t ∧ dark t ∧ t.clk.pfw = some s.clk.ref ∧ t.clk.refLost = false ∧ t.clk.mode = 1 ∧ t.bk.ledge.pdBt = btNow s ∧ t.bk.ledge.pdRtc = s.bk.rtc ∧
      t.bk.rtc = s.bk.rtc ∧ flags t [0, 2, 3] ∧ t.bil.hw = max s.bil.hw (btNow s)) ∧
    (s.clk.powered = true → s.clk.pfw = none → s.clk.t0.isSome → ∀ f, s.clk.freeze = some f → Completes (exec .powerFailWarning s) fun t =>
      quiet t ∧ dark t ∧ t.clk.freeze = none ∧ t.clk.pfw = some s.clk.ref ∧ t.bk.ledge.pdRtc = s.bk.rtc ∧ ∀ i ∈ [0, 2, 3, 4], t.bk.ledge.lflags.getLsbD i = true) ∧
    (s.clk.powered = true → s.clk.pfw = none → s.clk.t0 = none → s.clk.freeze = none → Completes (exec .powerFailWarning s) fun t =>
      quiet t ∧ t.clk.pfw = some s.clk.ref ∧ flags t [0, 2] ∧ t.bk.ledge.pdBt = s.bk.ledge.pdBt) ∧
    (s.clk.powered = true → s.clk.pfw = none → s.clk.refStable.isSome → Completes (exec .refLoss s) fun t =>
      quiet t ∧ t.clk.pfw = some s.clk.ref ∧ t.clk.refLost = true ∧ (∀ i ∈ [0, 2, 5], t.bk.ledge.lflags.getLsbD i = true) ∧
      (s.clk.t0.isSome → s.clk.freeze = none → t.bk.ledge.pdBt = btNow s ∧ t.bk.ledge.pdRtc = s.bk.rtc ∧ t.bk.ledge.lflags.getLsbD 3 = true ∧ dark t)) ∧
    (s.clk.powered = true → Completes (exec .supplyLoss s) fun t =>
      quiet t ∧ t.clk.powered = false ∧ t.clk.mode = 0 ∧ t.clk.ref = s.clk.ref ∧ t.bk.ledge.cellRtc = s.bk.rtc ∧ t.bk.rtc = s.bk.rtc ∧ flags t [0] ∧ t.unfenced = [] ∧ (s.unfenced = [] → t.mram = s.mram) ∧
      t.ldg = s.ldg ∧ t.bil = s.bil)) ∧
  (∀ (s u : State) (r : Nat), s.clk.powered = true → s.clk.t0 = none → s.clk.refStable = some r → ReachesRef s u (r + 9600) →
    Completes (exec .pllLockStartup s) fun t =>
      t.clk.t0 = some u.clk.ref ∧ t.clk.modtick = 0 ∧ t.clk.modPhase = 0 ∧ t.clk.modRun = true ∧ t.clk.lock = true ∧ t.clk.bootStage = 0 ∧ t.clk.mode = u.clk.mode ∧
      t.ebb.running = false ∧ t.flood.running = false ∧ t.legal.released = false ∧ t.opn.released = false ∧ t.posts = [] ∧ (∀ z ∈ t.rly, coilOn z = false) ∧
      t.grant = false ∧ t.dpy.fm = [] ∧ t.dpy.lock = 0x9F007F00 ∧ t.sit.st = 0 ∧
      t.bk.ledge.lflags &&& 0x3F = 0 ∧ t.bk.ledge.pupcnt = min 65535 (u.bk.ledge.pupcnt + 1) ∧
      (∃ off : Int, t.tim.rtcOff = off ∧ t.tim.segs = [{ m0 := 0, b0 := ((u.bk.rtc * 1000000 / 32768 : Nat) + off).toNat, r := 0 }] ∧
        (u.bk.rtcLost = false → off = u.tim.rtcOff ∧ t.tim.unset = u.tim.unset) ∧ (u.bk.rtcLost = true → t.tim.unset = true)) ∧
      (∀ i < 2, ∃ f, (port t i).boots = [f] ∧ f.kind = 6 ∧ f.payload.take 1 = [0] ∧ f.payload.length = 12) ∧
      ∀ n < 7, Mem.wf u.mram = true → dirState u n = 2 → (∀ k < 7, k ≠ n → dirState u k ≠ 2) →
        let len := bits (Mem.word u.mram (0x408 + 128 * n)) 21 0
        sha256 (Mem.readN u.mram 0x310000 len) = Mem.readN u.mram (0x430 + 128 * n) 32 →
          dirState t n = 1 ∧ dirLength t n = len ∧ dirGen t n = (dirGen u n + 1) % 256) ∧
  ∀ s : State, alive s = true → Mem.wf s.mram = true →
    let reason (n : Nat) : Nat := match dirState s n with | 1 => imgReason s n (imgBytes s n) 0 true | 2 => 3 | _ => 1
    let why (t : State) (n r : Nat) : Prop := Mem.read t.mram (0x404 + 128 * n) = BitVec.ofNat 8 r
    let entry (n : Nat) : Word := w32 (fld 16 4 (imgBytes s n))
    let held (t : State) (n r : Nat) : Prop := t.clk.bootStage = 3 ∧ t.clk.bootEntry = n ∧ t.clk.bootReason = r ∧ t.ebb.running = false ∧ t.flood.running = false ∧ why t n r ∧
      t.legal.released = s.legal.released
    (s.clk.mode = 1 → s.clk.bootStage = 0 → s.clk.tmpChecked = true →
      (reason 0 ≠ 0 → Completes (exec (.laneRelease 0x1F) s) fun t => held t 0 (reason 0)) ∧
      (reason 0 = 0 → reason 5 ≠ 0 → Completes (exec (.laneRelease 0x1F) s) fun t => held t 5 (reason 5)) ∧
      (reason 0 = 0 → reason 5 = 0 → Completes (exec (.laneRelease 0x1F) s) fun t => t.clk.bootStage = 1 ∧ why t 0 0 ∧ t.pair.active = .ebb ∧ t.pair.ebb.st = 1 ∧
        t.pair.flood.st = 2 ∧ ∀ l : LaneId, let y := lane t l
          y.running = true ∧ y.bank.pc = entry 0 ∧ y.bank.g.getD 2 0 = 0 ∧ y.entry = entry 0 ∧ y.ctl.cycles = 0)) ∧
    (s.clk.mode = 1 → s.clk.bootStage = 1 → s.legal.released = false → s.hl.restarting = false →
      (reason 5 = 0 → Completes (exec (.legalWorldRelease true) s) fun t => t.legal.released = true ∧ t.legal.bank.pc = entry 5 ∧ t.legal.entry = entry 5 ∧
        t.clk.bootStage = 2 ∧ why t 5 0 ∧ (5 < s.hl.measures.length → t.hl.measures[5]? = some (some (sha256 (imgBytes s 5))))) ∧
      (reason 5 ≠ 0 → Completes (exec (.legalWorldRelease true) s) fun t => held t 5 (reason 5))) ∧
    (s.legal.released = false → s.hl.restarting = true → measureImage s 5 = dirMeasure s 5 → imgReason s 5 (imgBytes s 5) 0 true = 0 →
      Completes (exec (.legalWorldRelease true) s) fun t => t.legal.released = true ∧ t.legal.bank.pc = entry 5 ∧ t.hl.restarting = false ∧ t.clk = s.clk) ∧
    (s.legal.released = true → s.hl.loaded = false → s.opn.released = false →
      let r : Nat := if dirState s 6 = 0 then 1 else imgReason s 6 (imgBytes s 6) 0 true
      (r = 0 → Completes (exec (.openImageLoaded true) s) fun t => t.hl.loaded = true ∧ t.opn.released = true ∧ t.opn.bank.pc = entry 6 ∧ t.opn.entry = entry 6 ∧
        t.hl.run = s.hl.run ∧ why t 6 0) ∧
      (r ≠ 0 → Completes (exec (.openImageLoaded true) s) fun t => t.hl.loaded = false ∧ t.opn.released = false ∧ why t 6 r ∧
        (r ≠ 1 → Recorded s t .clk 0x22 [w32 6, w32 r])))

/-- 00 to 17, reset columns of the tables; values that the spec does not give are the model's (log 2) and are not stated here. -/
def Obligations.ResetHoldsTheTablesValues : Prop :=
  let s := State.reset
  Sound s ∧ s.pending = [] ∧ s.posts = [] ∧ s.clk.mode = 1 ∧ s.clk.t0 = none ∧ s.clk.fallback = none ∧ s.clk.freeze = none ∧ s.clk.dbg = false ∧ s.clk.pllLoss = 0 ∧
  s.clk.grants = 0 ∧ s.clk.refused = 0 ∧ s.clk.modechg = 0 ∧ s.legal.released = false ∧ s.opn.released = false ∧ s.ebb.running = false ∧ s.flood.running = false ∧
  s.legal.ctl.evpend = 0 ∧ s.opn.ctl.evpend = 0 ∧ (∀ z ∈ s.rly, z.st = 0 ∧ coilOn z = false) ∧ s.grant = false ∧
  s.dpy.cfg1 = 0x043F0062 ∧ s.dpy.cfg2 = 0x00646464 ∧ s.dpy.cfg3 = 0x00401000 ∧ s.dpy.lock = 0x9F007F00 ∧ s.dpy.fm = [] ∧ s.dpy.bm = [] ∧
  (∀ z ∈ s.dpy.shadow, z = none) ∧ s.dpy.blink = List.replicate 4 (1, 1, 0) ∧ (∀ i < 256, ∀ c < 3, s.dpy.gamma[256 * c + i]? = some (i * 1023 / 255)) ∧
  (∀ z ∈ s.pls, z.width = 40 ∧ z.src = 0 ∧ z.level = false) ∧ (∀ z ∈ s.hst, 8 - z.inbox.length = 8 ∧ z.unacked = [] ∧ z.sub = 0 ∧ z.synced = false) ∧
  s.key.period = 1000 ∧ s.bk.ledge.valid = 0x4C454447 ∧ s.bk.ledge.lflags = 0 ∧ s.bk.ledge.pupcnt = 0 ∧ s.ldg.recs = [] ∧ s.tim.beacons = false

/-- The canonical form of 07 R213 and every other memory, the counts, 11 R314, R316, R320, R336; over all states with the invariant, not runs from reset alone. -/
def Obligations.EveryStepKeepsMemoriesCountsAndFuses : Prop :=
  ∀ s t : State, Sound s → step s = .next t →
    Sound t ∧ t.pending = s.pending.tail ∧ identity t = identity s ∧ (s.key.scuttle ≠ 0 → t.key.scuttle ≠ 0) ∧
      ∀ i : Nat, s.fuse.lc.getD i 0 = 3 → t.fuse.lc.getD i 0 = 3
end

