-- ==== Sys2Proof/Laws/Exec.lean ====
section
/-! SUPPORT. What the shared operations of an instruction do: banks, completion, a running instruction. -/

namespace Sys2Proof.Laws

open Sys2Proof.Machine

@[simp] theorem bankOf_setBank (s : State) (x : Ctx) (b : Bank) : bankOf (setBank s x b) x = b := by
  cases x with
  | ref l => cases l <;> rfl
  | slot l k => cases l <;> rfl
  | world w => cases w <;> rfl

@[simp] theorem setBank_setBank (s : State) (x : Ctx) (b b' : Bank) : setBank (setBank s x b) x b' = setBank s x b' := by
  cases x with
  | ref l => cases l <;> rfl
  | slot l k => cases l <;> rfl
  | world w => cases w <;> rfl

theorem setBank_bankOf (s : State) (x : Ctx) : setBank s x (bankOf s x) = s := by
  cases x with
  | ref l => cases l <;> rfl
  | slot l k => cases l <;> rfl
  | world w => cases w <;> rfl

/-- On to the next instruction is `passed`. -/
theorem advance_eq (s : State) (x : Ctx) : advance s x = passed s x := rfl

theorem setPc_eq (s : State) (x : Ctx) (a : Word) : setPc s x a = jumped s x a := rfl

/-- Writing rd and going on is `wrote`. -/
theorem retire_eq (s : State) (x : Ctx) (rd : Reg) (v : Word) : retire s x rd v = wrote s x rd v := by
  unfold retire setG advance setPc wrote
  split
  · rfl
  · rw [setBank_setBank, bankOf_setBank]

/-- A link and a jump. -/
theorem link_eq (s : State) (x : Ctx) (rd : Reg) (v a : Word) : setPc (setG s x rd v) x a = jumped (wrote s x rd v) x a := by
  unfold setG setPc jumped wrote
  split <;> simp

/-- A running core's instruction has its effect on the fetched state. -/
theorem instrOn_runs {s : State} {c : CoreId} {x : Ctx} (h : Runs s c x) (f : Ctx → State → State) :
    instrOn s c f = .next (f x (fetched s x)) := by
  unfold instrOn
  rw [h.1]
  simp only [h.2]

/-- A core that executes nothing leaves everything as it is. -/
theorem instrOn_idle {s : State} {c : CoreId} (h : ctxOf s c = none) (f : Ctx → State → State) : instrOn s c f = .next s := by
  unfold instrOn
  rw [h]

/-- A fetch exception is taken whatever the instruction (04 R117). -/
theorem instrOn_fetch {s : State} {c : CoreId} {x : Ctx} {e : Exc} (h : ctxOf s c = some x) (he : fetchExc s x = some e) (f : Ctx → State → State) :
    instrOn s c f = .next (raise s x e) := by
  unfold instrOn
  rw [h]
  simp only [he]

theorem alu_runs {s : State} {c : CoreId} {x : Ctx} (h : Runs s c x) (rd : Reg) (v : (Reg → Word) → Word) :
    alu s c rd v = .next (wrote (fetched s x) x rd (v (getG (fetched s x) x))) := by
  unfold alu
  rw [instrOn_runs h, retire_eq]

@[simp] theorem bankOf_countEcc (s : State) (x y : Ctx) (es : List MemErr) : bankOf (countEcc s x es) y = bankOf s y := by
  unfold countEcc
  split
  · rfl
  · cases x with
    | ref l => cases l <;> cases y with | ref k => cases k <;> rfl | slot k n => cases k <;> rfl | world w => cases w <;> rfl
    | slot l m => cases l <;> cases y with | ref k => cases k <;> rfl | slot k n => cases k <;> rfl | world w => cases w <;> rfl
    | world v => cases v <;> cases y with | ref k => cases k <;> rfl | slot k n => cases k <;> rfl | world w => cases w <;> rfl

/-- Counting corrected errors changes no unit that is fitted. -/
@[simp] theorem absentUnit_countEcc (s : State) (x : Ctx) (es : List MemErr) (un : UnitId) : absentUnit (countEcc s x es) un = absentUnit s un := by
  unfold countEcc
  split
  · rfl
  · cases x with
    | ref l => cases l <;> rfl
    | slot l k => cases l <;> rfl
    | world w => cases w <;> rfl

theorem issued_eq (s : State) (x : Ctx) (rs : Reg) : recLoaded (fetched s x) x (getG (fetched s x) x rs) = issued s x rs := rfl

/-- The general registers are those of the state in which the instruction was fetched. -/
@[simp] theorem getG_issued (s : State) (x : Ctx) (rs r : Reg) : getG (issued s x rs) x r = getG (fetched s x) x r := by
  simp [issued, recLoaded, getG]

@[simp] theorem absentUnit_issued (s : State) (x : Ctx) (rs : Reg) (un : UnitId) : absentUnit (issued s x rs) un = absentUnit s un := by
  simp [issued, recLoaded, fetched]

/-- An immediate operation without a failing status does its effect, writes its results and answers OK. -/
theorem unitIF_ok {s : State} {c : CoreId} {rs : Reg} {un : UnitId} {need : Need} {len : Nat} {x : Ctx} {ws : List Word}
    (h : Issues s c rs un need len x ws) {chk : Ctx → State → List Word → List Nat} (hc : ∀ n ∈ chk x (issued s x rs) ws, False)
    (fail : Ctx → State → List Word → Nat → State) (act : Ctx → State → List Word → Answer) :
    unitIF s c rs un need len chk fail act =
      .next (answers (act x (issued s x rs) ws).1 x (getG (fetched s x) x rs) (act x (issued s x rs) ws).2) := by
  have hk : chk x (issued s x rs) ws = [] := by
    cases hl : chk x (issued s x rs) ws with
    | nil => rfl
    | cons n t => exact (hc n (by simp [hl])).elim
  have hp := (absentUnit_issued s x rs un).trans h.present
  unfold unitIF
  rw [instrOn_runs h.runs]
  simp only [h.record, h.words, issued_eq, hk, commonSt, hp, h.right, h.header.1, h.header.2, onIf, Bool.false_eq_true, if_false, Bool.not_true,
    bne_self_eq_false, Bool.or_self, List.append_nil, pick, List.contains_nil, List.find?_cons, List.find?_nil, Option.getD_none, ne_eq,
    not_true_eq_false, retire_eq, answers]

/-- An operation that its checks do not let complete with OK answers the first status that applies (00 R13) and does what `fail` says. -/
theorem unitIF_fail {s : State} {c : CoreId} {rs : Reg} {un : UnitId} {need : Need} {len : Nat} {x : Ctx} {ws : List Word}
    (h : Issues s c rs un need len x ws) {chk : Ctx → State → List Word → List Nat} {st : Nat} (hc : pick (chk x (issued s x rs) ws) = st) (h0 : st ≠ 0)
    (fail : Ctx → State → List Word → Nat → State) (act : Ctx → State → List Word → Answer) :
    unitIF s c rs un need len chk fail act = .next (wrote (fail x (issued s x rs) ws st) x 1 (w32 st)) := by
  have hp := (absentUnit_issued s x rs un).trans h.present
  unfold unitIF
  rw [instrOn_runs h.runs]
  simp only [h.record, h.words, issued_eq, commonSt, hp, h.right, h.header.1, h.header.2, onIf, Bool.false_eq_true, if_false, Bool.not_true,
    bne_self_eq_false, Bool.or_self, List.nil_append, hc, ne_eq, h0, not_false_eq_true, if_true, retire_eq]

end Sys2Proof.Laws
end

