-- ==== Sys2Proof/Laws/Mem.lean ====
section
/-! SUPPORT. The memories: reading after writing, and the canonical form that every operation keeps. -/

namespace Sys2Proof.Machine

theorem mem_wfFrom_mono {lo hi : Nat} (m : Mem) (h : hi ≤ lo) (w : Mem.wfFrom lo m = true) : Mem.wfFrom hi m = true := by
  cases m with
  | nil => rfl
  | cons c t =>
    obtain ⟨k, v⟩ := c
    simp only [Mem.wfFrom, Bool.and_eq_true, decide_eq_true_eq] at w ⊢
    exact ⟨⟨by omega, w.1.2⟩, w.2⟩

theorem mem_write_wfFrom (m : Mem) (lo a : Nat) (b : Byte) (h : lo ≤ a) (w : Mem.wfFrom lo m = true) :
    Mem.wfFrom lo (Mem.write m a b) = true := by
  induction m generalizing lo with
  | nil =>
    unfold Mem.write
    split
    · rfl
    · rename_i hb
      simp only [Mem.wfFrom, Bool.and_eq_true, decide_eq_true_eq]
      exact ⟨⟨h, by simpa using hb⟩, trivial⟩
  | cons c t ih =>
    obtain ⟨k, v⟩ := c
    have w' := w
    simp only [Mem.wfFrom, Bool.and_eq_true, decide_eq_true_eq] at w'
    unfold Mem.write
    split
    · split
      · exact w
      · rename_i hb
        simp only [Mem.wfFrom, Bool.and_eq_true, decide_eq_true_eq]
        exact ⟨⟨h, by simpa using hb⟩, ⟨⟨by omega, w'.1.2⟩, w'.2⟩⟩
    · split
      · split
        · exact mem_wfFrom_mono t (by omega) w'.2
        · rename_i hb
          subst_vars
          simp only [Mem.wfFrom, Bool.and_eq_true, decide_eq_true_eq]
          exact ⟨⟨h, by simpa using hb⟩, w'.2⟩
      · simp only [Mem.wfFrom, Bool.and_eq_true, decide_eq_true_eq]
        exact ⟨w'.1, ih (k + 1) (by omega) w'.2⟩

/-- Writing one byte keeps the canonical form. -/
@[simp] theorem mem_write_wf (m : Mem) (a : Nat) (b : Byte) (w : Mem.wf m = true) : Mem.wf (Mem.write m a b) = true :=
  mem_write_wfFrom m 0 a b (Nat.zero_le a) w

/-- Writing bytes keeps the canonical form. -/
@[simp] theorem mem_writeN_wf (l : Bytes) (m : Mem) (a : Nat) (w : Mem.wf m = true) : Mem.wf (Mem.writeN m a l) = true := by
  induction l generalizing m a with
  | nil => exact w
  | cons b t ih => exact ih _ _ (mem_write_wf m a b w)

theorem mem_read_below (m : Mem) (lo a : Nat) (h : a < lo) (w : Mem.wfFrom lo m = true) : Mem.read m a = 0 := by
  cases m with
  | nil => rfl
  | cons c t =>
    obtain ⟨k, v⟩ := c
    simp only [Mem.wfFrom, Bool.and_eq_true, decide_eq_true_eq] at w
    have h1 : ¬ k = a := by omega
    have h2 : a < k := by omega
    simp [Mem.read, h1, h2]

theorem mem_read_write_from (m : Mem) (lo a : Nat) (b : Byte) (x : Nat) (w : Mem.wfFrom lo m = true) :
    Mem.read (Mem.write m a b) x = if x = a then b else Mem.read m x := by
  induction m generalizing lo with
  | nil =>
    unfold Mem.write
    by_cases hb : b = 0#8
    · simp [hb, Mem.read]
    · by_cases hx : x = a
      · simp [hb, hx, Mem.read]
      · have : ¬ a = x := fun h => hx h.symm
        simp [hb, hx, Mem.read, this]
  | cons c t ih =>
    obtain ⟨k, v⟩ := c
    simp only [Mem.wfFrom, Bool.and_eq_true, decide_eq_true_eq] at w
    unfold Mem.write
    by_cases h1 : a < k
    · by_cases hb : b = 0#8
      · by_cases hx : x = a
        · subst hx
          have : ¬ k = x := by omega
          simp [h1, hb, Mem.read, this]
        · simp [h1, hb, hx]
      · by_cases hx : x = a
        · subst hx; simp [h1, hb, Mem.read]
        · have h2 : ¬ a = x := fun h => hx h.symm
          by_cases h3 : x < a
          · have h4 : ¬ k = x := by omega
            have h5 : x < k := by omega
            simp [h1, hb, hx, h2, h3, h4, h5, Mem.read]
          · simp [h1, hb, hx, h2, h3, Mem.read]
    · by_cases h2 : a = k
      · subst h2
        by_cases hb : b = 0#8
        · by_cases hx : x = a
          · subst hx
            simp [hb, mem_read_below t (x + 1) x (by omega) w.2]
          · have h3 : ¬ a = x := fun h => hx h.symm
            by_cases h4 : x < a
            · simp [hb, hx, h3, h4, Mem.read, mem_read_below t (a + 1) x (by omega) w.2]
            · simp [hb, hx, h3, h4, Mem.read]
        · by_cases hx : x = a
          · subst hx; simp [hb, Mem.read]
          · have h3 : ¬ a = x := fun h => hx h.symm
            simp [hb, hx, h3, Mem.read]
      · simp only [h1, h2, if_false]
        by_cases h3 : k = x
        · have h4 : ¬ x = a := by omega
          simp [Mem.read, h3, h4]
        · by_cases h4 : x < k
          · have h5 : ¬ x = a := by omega
            simp [Mem.read, h3, h4, h5]
          · simp [Mem.read, h3, h4, ih (k + 1) w.2]

/-- A canonical memory reads back what was written, and every other byte as before. -/
theorem mem_read_write (m : Mem) (a : Nat) (b : Byte) (x : Nat) (w : Mem.wf m = true) :
    Mem.read (Mem.write m a b) x = if x = a then b else Mem.read m x :=
  mem_read_write_from m 0 a b x w

/-- Bytes outside a written stretch read as before. -/
theorem mem_read_writeN_other (l : Bytes) (m : Mem) (a x : Nat) (w : Mem.wf m = true) (h : x < a ∨ a + l.length ≤ x) :
    Mem.read (Mem.writeN m a l) x = Mem.read m x := by
  induction l generalizing m a with
  | nil => rfl
  | cons b t ih =>
    simp only [List.length_cons] at h
    have hx : ¬ x = a := by omega
    rw [Mem.writeN, ih _ _ (mem_write_wf m a b w) (by omega), mem_read_write m a b x w, if_neg hx]

/-- Bytes of a written stretch read as written. -/
theorem mem_read_writeN_same (l : Bytes) (m : Mem) (a i : Nat) (w : Mem.wf m = true) (h : i < l.length) :
    Mem.read (Mem.writeN m a l) (a + i) = l[i] := by
  induction l generalizing m a i with
  | nil => simp at h
  | cons b t ih =>
    cases i with
    | zero =>
      rw [Mem.writeN, mem_read_writeN_other t _ (a + 1) (a + 0) (mem_write_wf m a b w) (by omega), mem_read_write m a b _ w]
      simp
    | succ n =>
      have hn : n < t.length := by simpa using h
      have e : a + (n + 1) = (a + 1) + n := by omega
      rw [Mem.writeN, e, ih _ (a + 1) n (mem_write_wf m a b w) hn]
      simp

@[simp] theorem mem_readN_length (m : Mem) (a n : Nat) : (Mem.readN m a n).length = n := by
  induction n generalizing a with
  | zero => rfl
  | succ k ih => simp [Mem.readN, ih]

/-- Reading a stretch back after writing it. -/
theorem mem_readN_writeN (l : Bytes) (m : Mem) (a : Nat) (w : Mem.wf m = true) : Mem.readN (Mem.writeN m a l) a l.length = l := by
  induction l generalizing m a with
  | nil => rfl
  | cons b t ih =>
    rw [Mem.writeN, List.length_cons, Mem.readN, ih _ (a + 1) (mem_write_wf m a b w),
      mem_read_writeN_other t _ (a + 1) a (mem_write_wf m a b w) (by omega), mem_read_write m a b a w]
    simp

end Sys2Proof.Machine
end

