-- ==== Sys2Proof/Laws/State.lean ====
section
/-! SUPPORT. What each update of the state leaves alone, field by field; no later proof needs to unfold an update. -/

namespace Sys2Proof.Machine

variable (s : State)


/-! ### used -/

@[simp] theorem State.used_fuse  : (s.used).fuse = s.fuse := rfl
@[simp] theorem State.used_clk  : (s.used).clk = s.clk := rfl
@[simp] theorem State.used_bk  : (s.used).bk = s.bk := rfl
@[simp] theorem State.used_ebb  : (s.used).ebb = s.ebb := rfl
@[simp] theorem State.used_flood  : (s.used).flood = s.flood := rfl
@[simp] theorem State.used_legal  : (s.used).legal = s.legal := rfl
@[simp] theorem State.used_opn  : (s.used).opn = s.opn := rfl
@[simp] theorem State.used_hl  : (s.used).hl = s.hl := rfl
@[simp] theorem State.used_mram  : (s.used).mram = s.mram := rfl
@[simp] theorem State.used_unfenced  : (s.used).unfenced = s.unfenced := rfl
@[simp] theorem State.used_chs  : (s.used).chs = s.chs := rfl
@[simp] theorem State.used_clus  : (s.used).clus = s.clus := rfl
@[simp] theorem State.used_bsclk  : (s.used).bsclk = s.bsclk := rfl
@[simp] theorem State.used_pair  : (s.used).pair = s.pair := rfl
@[simp] theorem State.used_defs  : (s.used).defs = s.defs := rfl
@[simp] theorem State.used_defCount  : (s.used).defCount = s.defCount := rfl
@[simp] theorem State.used_tim  : (s.used).tim = s.tim := rfl
@[simp] theorem State.used_bil  : (s.used).bil = s.bil := rfl
@[simp] theorem State.used_rly  : (s.used).rly = s.rly := rfl
@[simp] theorem State.used_grant  : (s.used).grant = s.grant := rfl
@[simp] theorem State.used_ldg  : (s.used).ldg = s.ldg := rfl
@[simp] theorem State.used_obj  : (s.used).obj = s.obj := rfl
@[simp] theorem State.used_key  : (s.used).key = s.key := rfl
@[simp] theorem State.used_tmp  : (s.used).tmp = s.tmp := rfl
@[simp] theorem State.used_aux  : (s.used).aux = s.aux := rfl
@[simp] theorem State.used_hst  : (s.used).hst = s.hst := rfl
@[simp] theorem State.used_pls  : (s.used).pls = s.pls := rfl
@[simp] theorem State.used_dpy  : (s.used).dpy = s.dpy := rfl
@[simp] theorem State.used_sit  : (s.used).sit = s.sit := rfl
@[simp] theorem State.used_posts  : (s.used).posts = s.posts := rfl
@[simp] theorem State.used_pending  : (s.used).pending = s.pending := rfl

/-! ### modLane -/

@[simp] theorem modLane_fuse (l : LaneId) (f : Lane → Lane) : (modLane s l f).fuse = s.fuse := by cases l <;> rfl
@[simp] theorem modLane_clk (l : LaneId) (f : Lane → Lane) : (modLane s l f).clk = s.clk := by cases l <;> rfl
@[simp] theorem modLane_bk (l : LaneId) (f : Lane → Lane) : (modLane s l f).bk = s.bk := by cases l <;> rfl
@[simp] theorem modLane_legal (l : LaneId) (f : Lane → Lane) : (modLane s l f).legal = s.legal := by cases l <;> rfl
@[simp] theorem modLane_opn (l : LaneId) (f : Lane → Lane) : (modLane s l f).opn = s.opn := by cases l <;> rfl
@[simp] theorem modLane_hl (l : LaneId) (f : Lane → Lane) : (modLane s l f).hl = s.hl := by cases l <;> rfl
@[simp] theorem modLane_mram (l : LaneId) (f : Lane → Lane) : (modLane s l f).mram = s.mram := by cases l <;> rfl
@[simp] theorem modLane_unfenced (l : LaneId) (f : Lane → Lane) : (modLane s l f).unfenced = s.unfenced := by cases l <;> rfl
@[simp] theorem modLane_chs (l : LaneId) (f : Lane → Lane) : (modLane s l f).chs = s.chs := by cases l <;> rfl
@[simp] theorem modLane_clus (l : LaneId) (f : Lane → Lane) : (modLane s l f).clus = s.clus := by cases l <;> rfl
@[simp] theorem modLane_bsclk (l : LaneId) (f : Lane → Lane) : (modLane s l f).bsclk = s.bsclk := by cases l <;> rfl
@[simp] theorem modLane_pair (l : LaneId) (f : Lane → Lane) : (modLane s l f).pair = s.pair := by cases l <;> rfl
@[simp] theorem modLane_defs (l : LaneId) (f : Lane → Lane) : (modLane s l f).defs = s.defs := by cases l <;> rfl
@[simp] theorem modLane_defCount (l : LaneId) (f : Lane → Lane) : (modLane s l f).defCount = s.defCount := by cases l <;> rfl
@[simp] theorem modLane_tim (l : LaneId) (f : Lane → Lane) : (modLane s l f).tim = s.tim := by cases l <;> rfl
@[simp] theorem modLane_bil (l : LaneId) (f : Lane → Lane) : (modLane s l f).bil = s.bil := by cases l <;> rfl
@[simp] theorem modLane_rly (l : LaneId) (f : Lane → Lane) : (modLane s l f).rly = s.rly := by cases l <;> rfl
@[simp] theorem modLane_grant (l : LaneId) (f : Lane → Lane) : (modLane s l f).grant = s.grant := by cases l <;> rfl
@[simp] theorem modLane_ldg (l : LaneId) (f : Lane → Lane) : (modLane s l f).ldg = s.ldg := by cases l <;> rfl
@[simp] theorem modLane_obj (l : LaneId) (f : Lane → Lane) : (modLane s l f).obj = s.obj := by cases l <;> rfl
@[simp] theorem modLane_key (l : LaneId) (f : Lane → Lane) : (modLane s l f).key = s.key := by cases l <;> rfl
@[simp] theorem modLane_tmp (l : LaneId) (f : Lane → Lane) : (modLane s l f).tmp = s.tmp := by cases l <;> rfl
@[simp] theorem modLane_aux (l : LaneId) (f : Lane → Lane) : (modLane s l f).aux = s.aux := by cases l <;> rfl
@[simp] theorem modLane_hst (l : LaneId) (f : Lane → Lane) : (modLane s l f).hst = s.hst := by cases l <;> rfl
@[simp] theorem modLane_pls (l : LaneId) (f : Lane → Lane) : (modLane s l f).pls = s.pls := by cases l <;> rfl
@[simp] theorem modLane_dpy (l : LaneId) (f : Lane → Lane) : (modLane s l f).dpy = s.dpy := by cases l <;> rfl
@[simp] theorem modLane_sit (l : LaneId) (f : Lane → Lane) : (modLane s l f).sit = s.sit := by cases l <;> rfl
@[simp] theorem modLane_posts (l : LaneId) (f : Lane → Lane) : (modLane s l f).posts = s.posts := by cases l <;> rfl
@[simp] theorem modLane_free (l : LaneId) (f : Lane → Lane) : (modLane s l f).free = s.free := by cases l <;> rfl
@[simp] theorem modLane_pending (l : LaneId) (f : Lane → Lane) : (modLane s l f).pending = s.pending := by cases l <;> rfl

/-! ### modPl -/

@[simp] theorem modPl_fuse (l : LaneId) (f : PLane → PLane) : (modPl s l f).fuse = s.fuse := by cases l <;> rfl
@[simp] theorem modPl_clk (l : LaneId) (f : PLane → PLane) : (modPl s l f).clk = s.clk := by cases l <;> rfl
@[simp] theorem modPl_bk (l : LaneId) (f : PLane → PLane) : (modPl s l f).bk = s.bk := by cases l <;> rfl
@[simp] theorem modPl_ebb (l : LaneId) (f : PLane → PLane) : (modPl s l f).ebb = s.ebb := by cases l <;> rfl
@[simp] theorem modPl_flood (l : LaneId) (f : PLane → PLane) : (modPl s l f).flood = s.flood := by cases l <;> rfl
@[simp] theorem modPl_legal (l : LaneId) (f : PLane → PLane) : (modPl s l f).legal = s.legal := by cases l <;> rfl
@[simp] theorem modPl_opn (l : LaneId) (f : PLane → PLane) : (modPl s l f).opn = s.opn := by cases l <;> rfl
@[simp] theorem modPl_hl (l : LaneId) (f : PLane → PLane) : (modPl s l f).hl = s.hl := by cases l <;> rfl
@[simp] theorem modPl_mram (l : LaneId) (f : PLane → PLane) : (modPl s l f).mram = s.mram := by cases l <;> rfl
@[simp] theorem modPl_unfenced (l : LaneId) (f : PLane → PLane) : (modPl s l f).unfenced = s.unfenced := by cases l <;> rfl
@[simp] theorem modPl_chs (l : LaneId) (f : PLane → PLane) : (modPl s l f).chs = s.chs := by cases l <;> rfl
@[simp] theorem modPl_clus (l : LaneId) (f : PLane → PLane) : (modPl s l f).clus = s.clus := by cases l <;> rfl
@[simp] theorem modPl_bsclk (l : LaneId) (f : PLane → PLane) : (modPl s l f).bsclk = s.bsclk := by cases l <;> rfl
@[simp] theorem modPl_defs (l : LaneId) (f : PLane → PLane) : (modPl s l f).defs = s.defs := by cases l <;> rfl
@[simp] theorem modPl_defCount (l : LaneId) (f : PLane → PLane) : (modPl s l f).defCount = s.defCount := by cases l <;> rfl
@[simp] theorem modPl_tim (l : LaneId) (f : PLane → PLane) : (modPl s l f).tim = s.tim := by cases l <;> rfl
@[simp] theorem modPl_bil (l : LaneId) (f : PLane → PLane) : (modPl s l f).bil = s.bil := by cases l <;> rfl
@[simp] theorem modPl_rly (l : LaneId) (f : PLane → PLane) : (modPl s l f).rly = s.rly := by cases l <;> rfl
@[simp] theorem modPl_grant (l : LaneId) (f : PLane → PLane) : (modPl s l f).grant = s.grant := by cases l <;> rfl
@[simp] theorem modPl_ldg (l : LaneId) (f : PLane → PLane) : (modPl s l f).ldg = s.ldg := by cases l <;> rfl
@[simp] theorem modPl_obj (l : LaneId) (f : PLane → PLane) : (modPl s l f).obj = s.obj := by cases l <;> rfl
@[simp] theorem modPl_key (l : LaneId) (f : PLane → PLane) : (modPl s l f).key = s.key := by cases l <;> rfl
@[simp] theorem modPl_tmp (l : LaneId) (f : PLane → PLane) : (modPl s l f).tmp = s.tmp := by cases l <;> rfl
@[simp] theorem modPl_aux (l : LaneId) (f : PLane → PLane) : (modPl s l f).aux = s.aux := by cases l <;> rfl
@[simp] theorem modPl_hst (l : LaneId) (f : PLane → PLane) : (modPl s l f).hst = s.hst := by cases l <;> rfl
@[simp] theorem modPl_pls (l : LaneId) (f : PLane → PLane) : (modPl s l f).pls = s.pls := by cases l <;> rfl
@[simp] theorem modPl_dpy (l : LaneId) (f : PLane → PLane) : (modPl s l f).dpy = s.dpy := by cases l <;> rfl
@[simp] theorem modPl_sit (l : LaneId) (f : PLane → PLane) : (modPl s l f).sit = s.sit := by cases l <;> rfl
@[simp] theorem modPl_posts (l : LaneId) (f : PLane → PLane) : (modPl s l f).posts = s.posts := by cases l <;> rfl
@[simp] theorem modPl_free (l : LaneId) (f : PLane → PLane) : (modPl s l f).free = s.free := by cases l <;> rfl
@[simp] theorem modPl_pending (l : LaneId) (f : PLane → PLane) : (modPl s l f).pending = s.pending := by cases l <;> rfl

/-! ### modPt -/

@[simp] theorem modPt_fuse (mp : Nat) (f : PPoint → PPoint) : (modPt s mp f).fuse = s.fuse := rfl
@[simp] theorem modPt_clk (mp : Nat) (f : PPoint → PPoint) : (modPt s mp f).clk = s.clk := rfl
@[simp] theorem modPt_bk (mp : Nat) (f : PPoint → PPoint) : (modPt s mp f).bk = s.bk := rfl
@[simp] theorem modPt_ebb (mp : Nat) (f : PPoint → PPoint) : (modPt s mp f).ebb = s.ebb := rfl
@[simp] theorem modPt_flood (mp : Nat) (f : PPoint → PPoint) : (modPt s mp f).flood = s.flood := rfl
@[simp] theorem modPt_legal (mp : Nat) (f : PPoint → PPoint) : (modPt s mp f).legal = s.legal := rfl
@[simp] theorem modPt_opn (mp : Nat) (f : PPoint → PPoint) : (modPt s mp f).opn = s.opn := rfl
@[simp] theorem modPt_hl (mp : Nat) (f : PPoint → PPoint) : (modPt s mp f).hl = s.hl := rfl
@[simp] theorem modPt_mram (mp : Nat) (f : PPoint → PPoint) : (modPt s mp f).mram = s.mram := rfl
@[simp] theorem modPt_unfenced (mp : Nat) (f : PPoint → PPoint) : (modPt s mp f).unfenced = s.unfenced := rfl
@[simp] theorem modPt_chs (mp : Nat) (f : PPoint → PPoint) : (modPt s mp f).chs = s.chs := rfl
@[simp] theorem modPt_clus (mp : Nat) (f : PPoint → PPoint) : (modPt s mp f).clus = s.clus := rfl
@[simp] theorem modPt_bsclk (mp : Nat) (f : PPoint → PPoint) : (modPt s mp f).bsclk = s.bsclk := rfl
@[simp] theorem modPt_defs (mp : Nat) (f : PPoint → PPoint) : (modPt s mp f).defs = s.defs := rfl
@[simp] theorem modPt_defCount (mp : Nat) (f : PPoint → PPoint) : (modPt s mp f).defCount = s.defCount := rfl
@[simp] theorem modPt_tim (mp : Nat) (f : PPoint → PPoint) : (modPt s mp f).tim = s.tim := rfl
@[simp] theorem modPt_bil (mp : Nat) (f : PPoint → PPoint) : (modPt s mp f).bil = s.bil := rfl
@[simp] theorem modPt_rly (mp : Nat) (f : PPoint → PPoint) : (modPt s mp f).rly = s.rly := rfl
@[simp] theorem modPt_grant (mp : Nat) (f : PPoint → PPoint) : (modPt s mp f).grant = s.grant := rfl
@[simp] theorem modPt_ldg (mp : Nat) (f : PPoint → PPoint) : (modPt s mp f).ldg = s.ldg := rfl
@[simp] theorem modPt_obj (mp : Nat) (f : PPoint → PPoint) : (modPt s mp f).obj = s.obj := rfl
@[simp] theorem modPt_key (mp : Nat) (f : PPoint → PPoint) : (modPt s mp f).key = s.key := rfl
@[simp] theorem modPt_tmp (mp : Nat) (f : PPoint → PPoint) : (modPt s mp f).tmp = s.tmp := rfl
@[simp] theorem modPt_aux (mp : Nat) (f : PPoint → PPoint) : (modPt s mp f).aux = s.aux := rfl
@[simp] theorem modPt_hst (mp : Nat) (f : PPoint → PPoint) : (modPt s mp f).hst = s.hst := rfl
@[simp] theorem modPt_pls (mp : Nat) (f : PPoint → PPoint) : (modPt s mp f).pls = s.pls := rfl
@[simp] theorem modPt_dpy (mp : Nat) (f : PPoint → PPoint) : (modPt s mp f).dpy = s.dpy := rfl
@[simp] theorem modPt_sit (mp : Nat) (f : PPoint → PPoint) : (modPt s mp f).sit = s.sit := rfl
@[simp] theorem modPt_posts (mp : Nat) (f : PPoint → PPoint) : (modPt s mp f).posts = s.posts := rfl
@[simp] theorem modPt_free (mp : Nat) (f : PPoint → PPoint) : (modPt s mp f).free = s.free := rfl
@[simp] theorem modPt_pending (mp : Nat) (f : PPoint → PPoint) : (modPt s mp f).pending = s.pending := rfl

/-! ### modWorld -/

@[simp] theorem modWorld_fuse (w : World) (f : WorldSt → WorldSt) : (modWorld s w f).fuse = s.fuse := by cases w <;> rfl
@[simp] theorem modWorld_clk (w : World) (f : WorldSt → WorldSt) : (modWorld s w f).clk = s.clk := by cases w <;> rfl
@[simp] theorem modWorld_bk (w : World) (f : WorldSt → WorldSt) : (modWorld s w f).bk = s.bk := by cases w <;> rfl
@[simp] theorem modWorld_ebb (w : World) (f : WorldSt → WorldSt) : (modWorld s w f).ebb = s.ebb := by cases w <;> rfl
@[simp] theorem modWorld_flood (w : World) (f : WorldSt → WorldSt) : (modWorld s w f).flood = s.flood := by cases w <;> rfl
@[simp] theorem modWorld_hl (w : World) (f : WorldSt → WorldSt) : (modWorld s w f).hl = s.hl := by cases w <;> rfl
@[simp] theorem modWorld_mram (w : World) (f : WorldSt → WorldSt) : (modWorld s w f).mram = s.mram := by cases w <;> rfl
@[simp] theorem modWorld_unfenced (w : World) (f : WorldSt → WorldSt) : (modWorld s w f).unfenced = s.unfenced := by cases w <;> rfl
@[simp] theorem modWorld_chs (w : World) (f : WorldSt → WorldSt) : (modWorld s w f).chs = s.chs := by cases w <;> rfl
@[simp] theorem modWorld_clus (w : World) (f : WorldSt → WorldSt) : (modWorld s w f).clus = s.clus := by cases w <;> rfl
@[simp] theorem modWorld_bsclk (w : World) (f : WorldSt → WorldSt) : (modWorld s w f).bsclk = s.bsclk := by cases w <;> rfl
@[simp] theorem modWorld_pair (w : World) (f : WorldSt → WorldSt) : (modWorld s w f).pair = s.pair := by cases w <;> rfl
@[simp] theorem modWorld_defs (w : World) (f : WorldSt → WorldSt) : (modWorld s w f).defs = s.defs := by cases w <;> rfl
@[simp] theorem modWorld_defCount (w : World) (f : WorldSt → WorldSt) : (modWorld s w f).defCount = s.defCount := by cases w <;> rfl
@[simp] theorem modWorld_tim (w : World) (f : WorldSt → WorldSt) : (modWorld s w f).tim = s.tim := by cases w <;> rfl
@[simp] theorem modWorld_bil (w : World) (f : WorldSt → WorldSt) : (modWorld s w f).bil = s.bil := by cases w <;> rfl
@[simp] theorem modWorld_rly (w : World) (f : WorldSt → WorldSt) : (modWorld s w f).rly = s.rly := by cases w <;> rfl
@[simp] theorem modWorld_grant (w : World) (f : WorldSt → WorldSt) : (modWorld s w f).grant = s.grant := by cases w <;> rfl
@[simp] theorem modWorld_ldg (w : World) (f : WorldSt → WorldSt) : (modWorld s w f).ldg = s.ldg := by cases w <;> rfl
@[simp] theorem modWorld_obj (w : World) (f : WorldSt → WorldSt) : (modWorld s w f).obj = s.obj := by cases w <;> rfl
@[simp] theorem modWorld_key (w : World) (f : WorldSt → WorldSt) : (modWorld s w f).key = s.key := by cases w <;> rfl
@[simp] theorem modWorld_tmp (w : World) (f : WorldSt → WorldSt) : (modWorld s w f).tmp = s.tmp := by cases w <;> rfl
@[simp] theorem modWorld_aux (w : World) (f : WorldSt → WorldSt) : (modWorld s w f).aux = s.aux := by cases w <;> rfl
@[simp] theorem modWorld_hst (w : World) (f : WorldSt → WorldSt) : (modWorld s w f).hst = s.hst := by cases w <;> rfl
@[simp] theorem modWorld_pls (w : World) (f : WorldSt → WorldSt) : (modWorld s w f).pls = s.pls := by cases w <;> rfl
@[simp] theorem modWorld_dpy (w : World) (f : WorldSt → WorldSt) : (modWorld s w f).dpy = s.dpy := by cases w <;> rfl
@[simp] theorem modWorld_sit (w : World) (f : WorldSt → WorldSt) : (modWorld s w f).sit = s.sit := by cases w <;> rfl
@[simp] theorem modWorld_posts (w : World) (f : WorldSt → WorldSt) : (modWorld s w f).posts = s.posts := by cases w <;> rfl
@[simp] theorem modWorld_free (w : World) (f : WorldSt → WorldSt) : (modWorld s w f).free = s.free := by cases w <;> rfl
@[simp] theorem modWorld_pending (w : World) (f : WorldSt → WorldSt) : (modWorld s w f).pending = s.pending := by cases w <;> rfl

/-! ### setBank -/

@[simp] theorem setBank_fuse (x : Ctx) (b : Bank) : (setBank s x b).fuse = s.fuse := by
  cases x with
  | ref l => cases l <;> rfl
  | slot l k => cases l <;> rfl
  | world w => cases w <;> rfl
@[simp] theorem setBank_clk (x : Ctx) (b : Bank) : (setBank s x b).clk = s.clk := by
  cases x with
  | ref l => cases l <;> rfl
  | slot l k => cases l <;> rfl
  | world w => cases w <;> rfl
@[simp] theorem setBank_bk (x : Ctx) (b : Bank) : (setBank s x b).bk = s.bk := by
  cases x with
  | ref l => cases l <;> rfl
  | slot l k => cases l <;> rfl
  | world w => cases w <;> rfl
@[simp] theorem setBank_hl (x : Ctx) (b : Bank) : (setBank s x b).hl = s.hl := by
  cases x with
  | ref l => cases l <;> rfl
  | slot l k => cases l <;> rfl
  | world w => cases w <;> rfl
@[simp] theorem setBank_mram (x : Ctx) (b : Bank) : (setBank s x b).mram = s.mram := by
  cases x with
  | ref l => cases l <;> rfl
  | slot l k => cases l <;> rfl
  | world w => cases w <;> rfl
@[simp] theorem setBank_unfenced (x : Ctx) (b : Bank) : (setBank s x b).unfenced = s.unfenced := by
  cases x with
  | ref l => cases l <;> rfl
  | slot l k => cases l <;> rfl
  | world w => cases w <;> rfl
@[simp] theorem setBank_chs (x : Ctx) (b : Bank) : (setBank s x b).chs = s.chs := by
  cases x with
  | ref l => cases l <;> rfl
  | slot l k => cases l <;> rfl
  | world w => cases w <;> rfl
@[simp] theorem setBank_clus (x : Ctx) (b : Bank) : (setBank s x b).clus = s.clus := by
  cases x with
  | ref l => cases l <;> rfl
  | slot l k => cases l <;> rfl
  | world w => cases w <;> rfl
@[simp] theorem setBank_bsclk (x : Ctx) (b : Bank) : (setBank s x b).bsclk = s.bsclk := by
  cases x with
  | ref l => cases l <;> rfl
  | slot l k => cases l <;> rfl
  | world w => cases w <;> rfl
@[simp] theorem setBank_pair (x : Ctx) (b : Bank) : (setBank s x b).pair = s.pair := by
  cases x with
  | ref l => cases l <;> rfl
  | slot l k => cases l <;> rfl
  | world w => cases w <;> rfl
@[simp] theorem setBank_defs (x : Ctx) (b : Bank) : (setBank s x b).defs = s.defs := by
  cases x with
  | ref l => cases l <;> rfl
  | slot l k => cases l <;> rfl
  | world w => cases w <;> rfl
@[simp] theorem setBank_defCount (x : Ctx) (b : Bank) : (setBank s x b).defCount = s.defCount := by
  cases x with
  | ref l => cases l <;> rfl
  | slot l k => cases l <;> rfl
  | world w => cases w <;> rfl
@[simp] theorem setBank_tim (x : Ctx) (b : Bank) : (setBank s x b).tim = s.tim := by
  cases x with
  | ref l => cases l <;> rfl
  | slot l k => cases l <;> rfl
  | world w => cases w <;> rfl
@[simp] theorem setBank_bil (x : Ctx) (b : Bank) : (setBank s x b).bil = s.bil := by
  cases x with
  | ref l => cases l <;> rfl
  | slot l k => cases l <;> rfl
  | world w => cases w <;> rfl
@[simp] theorem setBank_rly (x : Ctx) (b : Bank) : (setBank s x b).rly = s.rly := by
  cases x with
  | ref l => cases l <;> rfl
  | slot l k => cases l <;> rfl
  | world w => cases w <;> rfl
@[simp] theorem setBank_grant (x : Ctx) (b : Bank) : (setBank s x b).grant = s.grant := by
  cases x with
  | ref l => cases l <;> rfl
  | slot l k => cases l <;> rfl
  | world w => cases w <;> rfl
@[simp] theorem setBank_ldg (x : Ctx) (b : Bank) : (setBank s x b).ldg = s.ldg := by
  cases x with
  | ref l => cases l <;> rfl
  | slot l k => cases l <;> rfl
  | world w => cases w <;> rfl
@[simp] theorem setBank_obj (x : Ctx) (b : Bank) : (setBank s x b).obj = s.obj := by
  cases x with
  | ref l => cases l <;> rfl
  | slot l k => cases l <;> rfl
  | world w => cases w <;> rfl
@[simp] theorem setBank_key (x : Ctx) (b : Bank) : (setBank s x b).key = s.key := by
  cases x with
  | ref l => cases l <;> rfl
  | slot l k => cases l <;> rfl
  | world w => cases w <;> rfl
@[simp] theorem setBank_tmp (x : Ctx) (b : Bank) : (setBank s x b).tmp = s.tmp := by
  cases x with
  | ref l => cases l <;> rfl
  | slot l k => cases l <;> rfl
  | world w => cases w <;> rfl
@[simp] theorem setBank_aux (x : Ctx) (b : Bank) : (setBank s x b).aux = s.aux := by
  cases x with
  | ref l => cases l <;> rfl
  | slot l k => cases l <;> rfl
  | world w => cases w <;> rfl
@[simp] theorem setBank_hst (x : Ctx) (b : Bank) : (setBank s x b).hst = s.hst := by
  cases x with
  | ref l => cases l <;> rfl
  | slot l k => cases l <;> rfl
  | world w => cases w <;> rfl
@[simp] theorem setBank_pls (x : Ctx) (b : Bank) : (setBank s x b).pls = s.pls := by
  cases x with
  | ref l => cases l <;> rfl
  | slot l k => cases l <;> rfl
  | world w => cases w <;> rfl
@[simp] theorem setBank_dpy (x : Ctx) (b : Bank) : (setBank s x b).dpy = s.dpy := by
  cases x with
  | ref l => cases l <;> rfl
  | slot l k => cases l <;> rfl
  | world w => cases w <;> rfl
@[simp] theorem setBank_sit (x : Ctx) (b : Bank) : (setBank s x b).sit = s.sit := by
  cases x with
  | ref l => cases l <;> rfl
  | slot l k => cases l <;> rfl
  | world w => cases w <;> rfl
@[simp] theorem setBank_posts (x : Ctx) (b : Bank) : (setBank s x b).posts = s.posts := by
  cases x with
  | ref l => cases l <;> rfl
  | slot l k => cases l <;> rfl
  | world w => cases w <;> rfl
@[simp] theorem setBank_free (x : Ctx) (b : Bank) : (setBank s x b).free = s.free := by
  cases x with
  | ref l => cases l <;> rfl
  | slot l k => cases l <;> rfl
  | world w => cases w <;> rfl
@[simp] theorem setBank_pending (x : Ctx) (b : Bank) : (setBank s x b).pending = s.pending := by
  cases x with
  | ref l => cases l <;> rfl
  | slot l k => cases l <;> rfl
  | world w => cases w <;> rfl

/-! ### modCtl -/

@[simp] theorem modCtl_fuse (x : Ctx) (f : Ctl → Ctl) : (modCtl s x f).fuse = s.fuse := by
  cases x with
  | ref l => cases l <;> rfl
  | slot l k => cases l <;> rfl
  | world w => cases w <;> rfl
@[simp] theorem modCtl_clk (x : Ctx) (f : Ctl → Ctl) : (modCtl s x f).clk = s.clk := by
  cases x with
  | ref l => cases l <;> rfl
  | slot l k => cases l <;> rfl
  | world w => cases w <;> rfl
@[simp] theorem modCtl_bk (x : Ctx) (f : Ctl → Ctl) : (modCtl s x f).bk = s.bk := by
  cases x with
  | ref l => cases l <;> rfl
  | slot l k => cases l <;> rfl
  | world w => cases w <;> rfl
@[simp] theorem modCtl_hl (x : Ctx) (f : Ctl → Ctl) : (modCtl s x f).hl = s.hl := by
  cases x with
  | ref l => cases l <;> rfl
  | slot l k => cases l <;> rfl
  | world w => cases w <;> rfl
@[simp] theorem modCtl_mram (x : Ctx) (f : Ctl → Ctl) : (modCtl s x f).mram = s.mram := by
  cases x with
  | ref l => cases l <;> rfl
  | slot l k => cases l <;> rfl
  | world w => cases w <;> rfl
@[simp] theorem modCtl_unfenced (x : Ctx) (f : Ctl → Ctl) : (modCtl s x f).unfenced = s.unfenced := by
  cases x with
  | ref l => cases l <;> rfl
  | slot l k => cases l <;> rfl
  | world w => cases w <;> rfl
@[simp] theorem modCtl_chs (x : Ctx) (f : Ctl → Ctl) : (modCtl s x f).chs = s.chs := by
  cases x with
  | ref l => cases l <;> rfl
  | slot l k => cases l <;> rfl
  | world w => cases w <;> rfl
@[simp] theorem modCtl_clus (x : Ctx) (f : Ctl → Ctl) : (modCtl s x f).clus = s.clus := by
  cases x with
  | ref l => cases l <;> rfl
  | slot l k => cases l <;> rfl
  | world w => cases w <;> rfl
@[simp] theorem modCtl_bsclk (x : Ctx) (f : Ctl → Ctl) : (modCtl s x f).bsclk = s.bsclk := by
  cases x with
  | ref l => cases l <;> rfl
  | slot l k => cases l <;> rfl
  | world w => cases w <;> rfl
@[simp] theorem modCtl_pair (x : Ctx) (f : Ctl → Ctl) : (modCtl s x f).pair = s.pair := by
  cases x with
  | ref l => cases l <;> rfl
  | slot l k => cases l <;> rfl
  | world w => cases w <;> rfl
@[simp] theorem modCtl_defs (x : Ctx) (f : Ctl → Ctl) : (modCtl s x f).defs = s.defs := by
  cases x with
  | ref l => cases l <;> rfl
  | slot l k => cases l <;> rfl
  | world w => cases w <;> rfl
@[simp] theorem modCtl_defCount (x : Ctx) (f : Ctl → Ctl) : (modCtl s x f).defCount = s.defCount := by
  cases x with
  | ref l => cases l <;> rfl
  | slot l k => cases l <;> rfl
  | world w => cases w <;> rfl
@[simp] theorem modCtl_tim (x : Ctx) (f : Ctl → Ctl) : (modCtl s x f).tim = s.tim := by
  cases x with
  | ref l => cases l <;> rfl
  | slot l k => cases l <;> rfl
  | world w => cases w <;> rfl
@[simp] theorem modCtl_bil (x : Ctx) (f : Ctl → Ctl) : (modCtl s x f).bil = s.bil := by
  cases x with
  | ref l => cases l <;> rfl
  | slot l k => cases l <;> rfl
  | world w => cases w <;> rfl
@[simp] theorem modCtl_rly (x : Ctx) (f : Ctl → Ctl) : (modCtl s x f).rly = s.rly := by
  cases x with
  | ref l => cases l <;> rfl
  | slot l k => cases l <;> rfl
  | world w => cases w <;> rfl
@[simp] theorem modCtl_grant (x : Ctx) (f : Ctl → Ctl) : (modCtl s x f).grant = s.grant := by
  cases x with
  | ref l => cases l <;> rfl
  | slot l k => cases l <;> rfl
  | world w => cases w <;> rfl
@[simp] theorem modCtl_ldg (x : Ctx) (f : Ctl → Ctl) : (modCtl s x f).ldg = s.ldg := by
  cases x with
  | ref l => cases l <;> rfl
  | slot l k => cases l <;> rfl
  | world w => cases w <;> rfl
@[simp] theorem modCtl_obj (x : Ctx) (f : Ctl → Ctl) : (modCtl s x f).obj = s.obj := by
  cases x with
  | ref l => cases l <;> rfl
  | slot l k => cases l <;> rfl
  | world w => cases w <;> rfl
@[simp] theorem modCtl_key (x : Ctx) (f : Ctl → Ctl) : (modCtl s x f).key = s.key := by
  cases x with
  | ref l => cases l <;> rfl
  | slot l k => cases l <;> rfl
  | world w => cases w <;> rfl
@[simp] theorem modCtl_tmp (x : Ctx) (f : Ctl → Ctl) : (modCtl s x f).tmp = s.tmp := by
  cases x with
  | ref l => cases l <;> rfl
  | slot l k => cases l <;> rfl
  | world w => cases w <;> rfl
@[simp] theorem modCtl_aux (x : Ctx) (f : Ctl → Ctl) : (modCtl s x f).aux = s.aux := by
  cases x with
  | ref l => cases l <;> rfl
  | slot l k => cases l <;> rfl
  | world w => cases w <;> rfl
@[simp] theorem modCtl_hst (x : Ctx) (f : Ctl → Ctl) : (modCtl s x f).hst = s.hst := by
  cases x with
  | ref l => cases l <;> rfl
  | slot l k => cases l <;> rfl
  | world w => cases w <;> rfl
@[simp] theorem modCtl_pls (x : Ctx) (f : Ctl → Ctl) : (modCtl s x f).pls = s.pls := by
  cases x with
  | ref l => cases l <;> rfl
  | slot l k => cases l <;> rfl
  | world w => cases w <;> rfl
@[simp] theorem modCtl_dpy (x : Ctx) (f : Ctl → Ctl) : (modCtl s x f).dpy = s.dpy := by
  cases x with
  | ref l => cases l <;> rfl
  | slot l k => cases l <;> rfl
  | world w => cases w <;> rfl
@[simp] theorem modCtl_sit (x : Ctx) (f : Ctl → Ctl) : (modCtl s x f).sit = s.sit := by
  cases x with
  | ref l => cases l <;> rfl
  | slot l k => cases l <;> rfl
  | world w => cases w <;> rfl
@[simp] theorem modCtl_posts (x : Ctx) (f : Ctl → Ctl) : (modCtl s x f).posts = s.posts := by
  cases x with
  | ref l => cases l <;> rfl
  | slot l k => cases l <;> rfl
  | world w => cases w <;> rfl
@[simp] theorem modCtl_free (x : Ctx) (f : Ctl → Ctl) : (modCtl s x f).free = s.free := by
  cases x with
  | ref l => cases l <;> rfl
  | slot l k => cases l <;> rfl
  | world w => cases w <;> rfl
@[simp] theorem modCtl_pending (x : Ctx) (f : Ctl → Ctl) : (modCtl s x f).pending = s.pending := by
  cases x with
  | ref l => cases l <;> rfl
  | slot l k => cases l <;> rfl
  | world w => cases w <;> rfl

/-! ### setDmem -/

@[simp] theorem setDmem_fuse (x : Ctx) (m : Mem) : (setDmem s x m).fuse = s.fuse := by
  cases x with
  | ref l => cases l <;> rfl
  | slot l k => cases l <;> rfl
  | world w => cases w <;> rfl
@[simp] theorem setDmem_clk (x : Ctx) (m : Mem) : (setDmem s x m).clk = s.clk := by
  cases x with
  | ref l => cases l <;> rfl
  | slot l k => cases l <;> rfl
  | world w => cases w <;> rfl
@[simp] theorem setDmem_bk (x : Ctx) (m : Mem) : (setDmem s x m).bk = s.bk := by
  cases x with
  | ref l => cases l <;> rfl
  | slot l k => cases l <;> rfl
  | world w => cases w <;> rfl
@[simp] theorem setDmem_legal (x : Ctx) (m : Mem) : (setDmem s x m).legal = s.legal := by
  cases x with
  | ref l => cases l <;> rfl
  | slot l k => cases l <;> rfl
  | world w => cases w <;> rfl
@[simp] theorem setDmem_opn (x : Ctx) (m : Mem) : (setDmem s x m).opn = s.opn := by
  cases x with
  | ref l => cases l <;> rfl
  | slot l k => cases l <;> rfl
  | world w => cases w <;> rfl
@[simp] theorem setDmem_mram (x : Ctx) (m : Mem) : (setDmem s x m).mram = s.mram := by
  cases x with
  | ref l => cases l <;> rfl
  | slot l k => cases l <;> rfl
  | world w => cases w <;> rfl
@[simp] theorem setDmem_unfenced (x : Ctx) (m : Mem) : (setDmem s x m).unfenced = s.unfenced := by
  cases x with
  | ref l => cases l <;> rfl
  | slot l k => cases l <;> rfl
  | world w => cases w <;> rfl
@[simp] theorem setDmem_chs (x : Ctx) (m : Mem) : (setDmem s x m).chs = s.chs := by
  cases x with
  | ref l => cases l <;> rfl
  | slot l k => cases l <;> rfl
  | world w => cases w <;> rfl
@[simp] theorem setDmem_clus (x : Ctx) (m : Mem) : (setDmem s x m).clus = s.clus := by
  cases x with
  | ref l => cases l <;> rfl
  | slot l k => cases l <;> rfl
  | world w => cases w <;> rfl
@[simp] theorem setDmem_bsclk (x : Ctx) (m : Mem) : (setDmem s x m).bsclk = s.bsclk := by
  cases x with
  | ref l => cases l <;> rfl
  | slot l k => cases l <;> rfl
  | world w => cases w <;> rfl
@[simp] theorem setDmem_pair (x : Ctx) (m : Mem) : (setDmem s x m).pair = s.pair := by
  cases x with
  | ref l => cases l <;> rfl
  | slot l k => cases l <;> rfl
  | world w => cases w <;> rfl
@[simp] theorem setDmem_defs (x : Ctx) (m : Mem) : (setDmem s x m).defs = s.defs := by
  cases x with
  | ref l => cases l <;> rfl
  | slot l k => cases l <;> rfl
  | world w => cases w <;> rfl
@[simp] theorem setDmem_defCount (x : Ctx) (m : Mem) : (setDmem s x m).defCount = s.defCount := by
  cases x with
  | ref l => cases l <;> rfl
  | slot l k => cases l <;> rfl
  | world w => cases w <;> rfl
@[simp] theorem setDmem_tim (x : Ctx) (m : Mem) : (setDmem s x m).tim = s.tim := by
  cases x with
  | ref l => cases l <;> rfl
  | slot l k => cases l <;> rfl
  | world w => cases w <;> rfl
@[simp] theorem setDmem_bil (x : Ctx) (m : Mem) : (setDmem s x m).bil = s.bil := by
  cases x with
  | ref l => cases l <;> rfl
  | slot l k => cases l <;> rfl
  | world w => cases w <;> rfl
@[simp] theorem setDmem_rly (x : Ctx) (m : Mem) : (setDmem s x m).rly = s.rly := by
  cases x with
  | ref l => cases l <;> rfl
  | slot l k => cases l <;> rfl
  | world w => cases w <;> rfl
@[simp] theorem setDmem_grant (x : Ctx) (m : Mem) : (setDmem s x m).grant = s.grant := by
  cases x with
  | ref l => cases l <;> rfl
  | slot l k => cases l <;> rfl
  | world w => cases w <;> rfl
@[simp] theorem setDmem_ldg (x : Ctx) (m : Mem) : (setDmem s x m).ldg = s.ldg := by
  cases x with
  | ref l => cases l <;> rfl
  | slot l k => cases l <;> rfl
  | world w => cases w <;> rfl
@[simp] theorem setDmem_obj (x : Ctx) (m : Mem) : (setDmem s x m).obj = s.obj := by
  cases x with
  | ref l => cases l <;> rfl
  | slot l k => cases l <;> rfl
  | world w => cases w <;> rfl
@[simp] theorem setDmem_key (x : Ctx) (m : Mem) : (setDmem s x m).key = s.key := by
  cases x with
  | ref l => cases l <;> rfl
  | slot l k => cases l <;> rfl
  | world w => cases w <;> rfl
@[simp] theorem setDmem_tmp (x : Ctx) (m : Mem) : (setDmem s x m).tmp = s.tmp := by
  cases x with
  | ref l => cases l <;> rfl
  | slot l k => cases l <;> rfl
  | world w => cases w <;> rfl
@[simp] theorem setDmem_aux (x : Ctx) (m : Mem) : (setDmem s x m).aux = s.aux := by
  cases x with
  | ref l => cases l <;> rfl
  | slot l k => cases l <;> rfl
  | world w => cases w <;> rfl
@[simp] theorem setDmem_hst (x : Ctx) (m : Mem) : (setDmem s x m).hst = s.hst := by
  cases x with
  | ref l => cases l <;> rfl
  | slot l k => cases l <;> rfl
  | world w => cases w <;> rfl
@[simp] theorem setDmem_pls (x : Ctx) (m : Mem) : (setDmem s x m).pls = s.pls := by
  cases x with
  | ref l => cases l <;> rfl
  | slot l k => cases l <;> rfl
  | world w => cases w <;> rfl
@[simp] theorem setDmem_dpy (x : Ctx) (m : Mem) : (setDmem s x m).dpy = s.dpy := by
  cases x with
  | ref l => cases l <;> rfl
  | slot l k => cases l <;> rfl
  | world w => cases w <;> rfl
@[simp] theorem setDmem_sit (x : Ctx) (m : Mem) : (setDmem s x m).sit = s.sit := by
  cases x with
  | ref l => cases l <;> rfl
  | slot l k => cases l <;> rfl
  | world w => cases w <;> rfl
@[simp] theorem setDmem_posts (x : Ctx) (m : Mem) : (setDmem s x m).posts = s.posts := by
  cases x with
  | ref l => cases l <;> rfl
  | slot l k => cases l <;> rfl
  | world w => cases w <;> rfl
@[simp] theorem setDmem_free (x : Ctx) (m : Mem) : (setDmem s x m).free = s.free := by
  cases x with
  | ref l => cases l <;> rfl
  | slot l k => cases l <;> rfl
  | world w => cases w <;> rfl
@[simp] theorem setDmem_pending (x : Ctx) (m : Mem) : (setDmem s x m).pending = s.pending := by
  cases x with
  | ref l => cases l <;> rfl
  | slot l k => cases l <;> rfl
  | world w => cases w <;> rfl

/-! ### setVec -/

@[simp] theorem setVec_fuse (x : Ctx) (v : Vec) : (setVec s x v).fuse = s.fuse := by
  cases x with
  | ref l => cases l <;> rfl
  | slot l k => cases l <;> rfl
  | world w => cases w <;> rfl
@[simp] theorem setVec_clk (x : Ctx) (v : Vec) : (setVec s x v).clk = s.clk := by
  cases x with
  | ref l => cases l <;> rfl
  | slot l k => cases l <;> rfl
  | world w => cases w <;> rfl
@[simp] theorem setVec_bk (x : Ctx) (v : Vec) : (setVec s x v).bk = s.bk := by
  cases x with
  | ref l => cases l <;> rfl
  | slot l k => cases l <;> rfl
  | world w => cases w <;> rfl
@[simp] theorem setVec_legal (x : Ctx) (v : Vec) : (setVec s x v).legal = s.legal := by
  cases x with
  | ref l => cases l <;> rfl
  | slot l k => cases l <;> rfl
  | world w => cases w <;> rfl
@[simp] theorem setVec_opn (x : Ctx) (v : Vec) : (setVec s x v).opn = s.opn := by
  cases x with
  | ref l => cases l <;> rfl
  | slot l k => cases l <;> rfl
  | world w => cases w <;> rfl
@[simp] theorem setVec_hl (x : Ctx) (v : Vec) : (setVec s x v).hl = s.hl := by
  cases x with
  | ref l => cases l <;> rfl
  | slot l k => cases l <;> rfl
  | world w => cases w <;> rfl
@[simp] theorem setVec_mram (x : Ctx) (v : Vec) : (setVec s x v).mram = s.mram := by
  cases x with
  | ref l => cases l <;> rfl
  | slot l k => cases l <;> rfl
  | world w => cases w <;> rfl
@[simp] theorem setVec_unfenced (x : Ctx) (v : Vec) : (setVec s x v).unfenced = s.unfenced := by
  cases x with
  | ref l => cases l <;> rfl
  | slot l k => cases l <;> rfl
  | world w => cases w <;> rfl
@[simp] theorem setVec_chs (x : Ctx) (v : Vec) : (setVec s x v).chs = s.chs := by
  cases x with
  | ref l => cases l <;> rfl
  | slot l k => cases l <;> rfl
  | world w => cases w <;> rfl
@[simp] theorem setVec_clus (x : Ctx) (v : Vec) : (setVec s x v).clus = s.clus := by
  cases x with
  | ref l => cases l <;> rfl
  | slot l k => cases l <;> rfl
  | world w => cases w <;> rfl
@[simp] theorem setVec_bsclk (x : Ctx) (v : Vec) : (setVec s x v).bsclk = s.bsclk := by
  cases x with
  | ref l => cases l <;> rfl
  | slot l k => cases l <;> rfl
  | world w => cases w <;> rfl
@[simp] theorem setVec_pair (x : Ctx) (v : Vec) : (setVec s x v).pair = s.pair := by
  cases x with
  | ref l => cases l <;> rfl
  | slot l k => cases l <;> rfl
  | world w => cases w <;> rfl
@[simp] theorem setVec_defs (x : Ctx) (v : Vec) : (setVec s x v).defs = s.defs := by
  cases x with
  | ref l => cases l <;> rfl
  | slot l k => cases l <;> rfl
  | world w => cases w <;> rfl
@[simp] theorem setVec_defCount (x : Ctx) (v : Vec) : (setVec s x v).defCount = s.defCount := by
  cases x with
  | ref l => cases l <;> rfl
  | slot l k => cases l <;> rfl
  | world w => cases w <;> rfl
@[simp] theorem setVec_tim (x : Ctx) (v : Vec) : (setVec s x v).tim = s.tim := by
  cases x with
  | ref l => cases l <;> rfl
  | slot l k => cases l <;> rfl
  | world w => cases w <;> rfl
@[simp] theorem setVec_bil (x : Ctx) (v : Vec) : (setVec s x v).bil = s.bil := by
  cases x with
  | ref l => cases l <;> rfl
  | slot l k => cases l <;> rfl
  | world w => cases w <;> rfl
@[simp] theorem setVec_rly (x : Ctx) (v : Vec) : (setVec s x v).rly = s.rly := by
  cases x with
  | ref l => cases l <;> rfl
  | slot l k => cases l <;> rfl
  | world w => cases w <;> rfl
@[simp] theorem setVec_grant (x : Ctx) (v : Vec) : (setVec s x v).grant = s.grant := by
  cases x with
  | ref l => cases l <;> rfl
  | slot l k => cases l <;> rfl
  | world w => cases w <;> rfl
@[simp] theorem setVec_ldg (x : Ctx) (v : Vec) : (setVec s x v).ldg = s.ldg := by
  cases x with
  | ref l => cases l <;> rfl
  | slot l k => cases l <;> rfl
  | world w => cases w <;> rfl
@[simp] theorem setVec_obj (x : Ctx) (v : Vec) : (setVec s x v).obj = s.obj := by
  cases x with
  | ref l => cases l <;> rfl
  | slot l k => cases l <;> rfl
  | world w => cases w <;> rfl
@[simp] theorem setVec_key (x : Ctx) (v : Vec) : (setVec s x v).key = s.key := by
  cases x with
  | ref l => cases l <;> rfl
  | slot l k => cases l <;> rfl
  | world w => cases w <;> rfl
@[simp] theorem setVec_tmp (x : Ctx) (v : Vec) : (setVec s x v).tmp = s.tmp := by
  cases x with
  | ref l => cases l <;> rfl
  | slot l k => cases l <;> rfl
  | world w => cases w <;> rfl
@[simp] theorem setVec_aux (x : Ctx) (v : Vec) : (setVec s x v).aux = s.aux := by
  cases x with
  | ref l => cases l <;> rfl
  | slot l k => cases l <;> rfl
  | world w => cases w <;> rfl
@[simp] theorem setVec_hst (x : Ctx) (v : Vec) : (setVec s x v).hst = s.hst := by
  cases x with
  | ref l => cases l <;> rfl
  | slot l k => cases l <;> rfl
  | world w => cases w <;> rfl
@[simp] theorem setVec_pls (x : Ctx) (v : Vec) : (setVec s x v).pls = s.pls := by
  cases x with
  | ref l => cases l <;> rfl
  | slot l k => cases l <;> rfl
  | world w => cases w <;> rfl
@[simp] theorem setVec_dpy (x : Ctx) (v : Vec) : (setVec s x v).dpy = s.dpy := by
  cases x with
  | ref l => cases l <;> rfl
  | slot l k => cases l <;> rfl
  | world w => cases w <;> rfl
@[simp] theorem setVec_sit (x : Ctx) (v : Vec) : (setVec s x v).sit = s.sit := by
  cases x with
  | ref l => cases l <;> rfl
  | slot l k => cases l <;> rfl
  | world w => cases w <;> rfl
@[simp] theorem setVec_posts (x : Ctx) (v : Vec) : (setVec s x v).posts = s.posts := by
  cases x with
  | ref l => cases l <;> rfl
  | slot l k => cases l <;> rfl
  | world w => cases w <;> rfl
@[simp] theorem setVec_free (x : Ctx) (v : Vec) : (setVec s x v).free = s.free := by
  cases x with
  | ref l => cases l <;> rfl
  | slot l k => cases l <;> rfl
  | world w => cases w <;> rfl
@[simp] theorem setVec_pending (x : Ctx) (v : Vec) : (setVec s x v).pending = s.pending := by
  cases x with
  | ref l => cases l <;> rfl
  | slot l k => cases l <;> rfl
  | world w => cases w <;> rfl

/-! ### raiseEv -/

@[simp] theorem raiseEv_fuse (w : World) (n : Nat) : (raiseEv s w n).fuse = s.fuse := by cases w <;> rfl
@[simp] theorem raiseEv_clk (w : World) (n : Nat) : (raiseEv s w n).clk = s.clk := by cases w <;> rfl
@[simp] theorem raiseEv_bk (w : World) (n : Nat) : (raiseEv s w n).bk = s.bk := by cases w <;> rfl
@[simp] theorem raiseEv_ebb (w : World) (n : Nat) : (raiseEv s w n).ebb = s.ebb := by cases w <;> rfl
@[simp] theorem raiseEv_flood (w : World) (n : Nat) : (raiseEv s w n).flood = s.flood := by cases w <;> rfl
@[simp] theorem raiseEv_hl (w : World) (n : Nat) : (raiseEv s w n).hl = s.hl := by cases w <;> rfl
@[simp] theorem raiseEv_mram (w : World) (n : Nat) : (raiseEv s w n).mram = s.mram := by cases w <;> rfl
@[simp] theorem raiseEv_unfenced (w : World) (n : Nat) : (raiseEv s w n).unfenced = s.unfenced := by cases w <;> rfl
@[simp] theorem raiseEv_chs (w : World) (n : Nat) : (raiseEv s w n).chs = s.chs := by cases w <;> rfl
@[simp] theorem raiseEv_clus (w : World) (n : Nat) : (raiseEv s w n).clus = s.clus := by cases w <;> rfl
@[simp] theorem raiseEv_bsclk (w : World) (n : Nat) : (raiseEv s w n).bsclk = s.bsclk := by cases w <;> rfl
@[simp] theorem raiseEv_pair (w : World) (n : Nat) : (raiseEv s w n).pair = s.pair := by cases w <;> rfl
@[simp] theorem raiseEv_defs (w : World) (n : Nat) : (raiseEv s w n).defs = s.defs := by cases w <;> rfl
@[simp] theorem raiseEv_defCount (w : World) (n : Nat) : (raiseEv s w n).defCount = s.defCount := by cases w <;> rfl
@[simp] theorem raiseEv_tim (w : World) (n : Nat) : (raiseEv s w n).tim = s.tim := by cases w <;> rfl
@[simp] theorem raiseEv_bil (w : World) (n : Nat) : (raiseEv s w n).bil = s.bil := by cases w <;> rfl
@[simp] theorem raiseEv_rly (w : World) (n : Nat) : (raiseEv s w n).rly = s.rly := by cases w <;> rfl
@[simp] theorem raiseEv_grant (w : World) (n : Nat) : (raiseEv s w n).grant = s.grant := by cases w <;> rfl
@[simp] theorem raiseEv_ldg (w : World) (n : Nat) : (raiseEv s w n).ldg = s.ldg := by cases w <;> rfl
@[simp] theorem raiseEv_obj (w : World) (n : Nat) : (raiseEv s w n).obj = s.obj := by cases w <;> rfl
@[simp] theorem raiseEv_key (w : World) (n : Nat) : (raiseEv s w n).key = s.key := by cases w <;> rfl
@[simp] theorem raiseEv_tmp (w : World) (n : Nat) : (raiseEv s w n).tmp = s.tmp := by cases w <;> rfl
@[simp] theorem raiseEv_aux (w : World) (n : Nat) : (raiseEv s w n).aux = s.aux := by cases w <;> rfl
@[simp] theorem raiseEv_hst (w : World) (n : Nat) : (raiseEv s w n).hst = s.hst := by cases w <;> rfl
@[simp] theorem raiseEv_pls (w : World) (n : Nat) : (raiseEv s w n).pls = s.pls := by cases w <;> rfl
@[simp] theorem raiseEv_dpy (w : World) (n : Nat) : (raiseEv s w n).dpy = s.dpy := by cases w <;> rfl
@[simp] theorem raiseEv_sit (w : World) (n : Nat) : (raiseEv s w n).sit = s.sit := by cases w <;> rfl
@[simp] theorem raiseEv_posts (w : World) (n : Nat) : (raiseEv s w n).posts = s.posts := by cases w <;> rfl
@[simp] theorem raiseEv_free (w : World) (n : Nat) : (raiseEv s w n).free = s.free := by cases w <;> rfl
@[simp] theorem raiseEv_pending (w : World) (n : Nat) : (raiseEv s w n).pending = s.pending := by cases w <;> rfl

/-! ### modCh -/

@[simp] theorem modCh_fuse (n : Nat) (f : Ch → Ch) : (modCh s n f).fuse = s.fuse := rfl
@[simp] theorem modCh_clk (n : Nat) (f : Ch → Ch) : (modCh s n f).clk = s.clk := rfl
@[simp] theorem modCh_bk (n : Nat) (f : Ch → Ch) : (modCh s n f).bk = s.bk := rfl
@[simp] theorem modCh_ebb (n : Nat) (f : Ch → Ch) : (modCh s n f).ebb = s.ebb := rfl
@[simp] theorem modCh_flood (n : Nat) (f : Ch → Ch) : (modCh s n f).flood = s.flood := rfl
@[simp] theorem modCh_legal (n : Nat) (f : Ch → Ch) : (modCh s n f).legal = s.legal := rfl
@[simp] theorem modCh_opn (n : Nat) (f : Ch → Ch) : (modCh s n f).opn = s.opn := rfl
@[simp] theorem modCh_hl (n : Nat) (f : Ch → Ch) : (modCh s n f).hl = s.hl := rfl
@[simp] theorem modCh_mram (n : Nat) (f : Ch → Ch) : (modCh s n f).mram = s.mram := rfl
@[simp] theorem modCh_unfenced (n : Nat) (f : Ch → Ch) : (modCh s n f).unfenced = s.unfenced := rfl
@[simp] theorem modCh_clus (n : Nat) (f : Ch → Ch) : (modCh s n f).clus = s.clus := rfl
@[simp] theorem modCh_bsclk (n : Nat) (f : Ch → Ch) : (modCh s n f).bsclk = s.bsclk := rfl
@[simp] theorem modCh_pair (n : Nat) (f : Ch → Ch) : (modCh s n f).pair = s.pair := rfl
@[simp] theorem modCh_defs (n : Nat) (f : Ch → Ch) : (modCh s n f).defs = s.defs := rfl
@[simp] theorem modCh_defCount (n : Nat) (f : Ch → Ch) : (modCh s n f).defCount = s.defCount := rfl
@[simp] theorem modCh_tim (n : Nat) (f : Ch → Ch) : (modCh s n f).tim = s.tim := rfl
@[simp] theorem modCh_bil (n : Nat) (f : Ch → Ch) : (modCh s n f).bil = s.bil := rfl
@[simp] theorem modCh_rly (n : Nat) (f : Ch → Ch) : (modCh s n f).rly = s.rly := rfl
@[simp] theorem modCh_grant (n : Nat) (f : Ch → Ch) : (modCh s n f).grant = s.grant := rfl
@[simp] theorem modCh_ldg (n : Nat) (f : Ch → Ch) : (modCh s n f).ldg = s.ldg := rfl
@[simp] theorem modCh_obj (n : Nat) (f : Ch → Ch) : (modCh s n f).obj = s.obj := rfl
@[simp] theorem modCh_key (n : Nat) (f : Ch → Ch) : (modCh s n f).key = s.key := rfl
@[simp] theorem modCh_tmp (n : Nat) (f : Ch → Ch) : (modCh s n f).tmp = s.tmp := rfl
@[simp] theorem modCh_aux (n : Nat) (f : Ch → Ch) : (modCh s n f).aux = s.aux := rfl
@[simp] theorem modCh_hst (n : Nat) (f : Ch → Ch) : (modCh s n f).hst = s.hst := rfl
@[simp] theorem modCh_pls (n : Nat) (f : Ch → Ch) : (modCh s n f).pls = s.pls := rfl
@[simp] theorem modCh_dpy (n : Nat) (f : Ch → Ch) : (modCh s n f).dpy = s.dpy := rfl
@[simp] theorem modCh_sit (n : Nat) (f : Ch → Ch) : (modCh s n f).sit = s.sit := rfl
@[simp] theorem modCh_posts (n : Nat) (f : Ch → Ch) : (modCh s n f).posts = s.posts := rfl
@[simp] theorem modCh_free (n : Nat) (f : Ch → Ch) : (modCh s n f).free = s.free := rfl
@[simp] theorem modCh_pending (n : Nat) (f : Ch → Ch) : (modCh s n f).pending = s.pending := rfl

/-! ### modClu -/

@[simp] theorem modClu_fuse (k : Nat) (f : Cluster → Cluster) : (modClu s k f).fuse = s.fuse := rfl
@[simp] theorem modClu_clk (k : Nat) (f : Cluster → Cluster) : (modClu s k f).clk = s.clk := rfl
@[simp] theorem modClu_bk (k : Nat) (f : Cluster → Cluster) : (modClu s k f).bk = s.bk := rfl
@[simp] theorem modClu_ebb (k : Nat) (f : Cluster → Cluster) : (modClu s k f).ebb = s.ebb := rfl
@[simp] theorem modClu_flood (k : Nat) (f : Cluster → Cluster) : (modClu s k f).flood = s.flood := rfl
@[simp] theorem modClu_legal (k : Nat) (f : Cluster → Cluster) : (modClu s k f).legal = s.legal := rfl
@[simp] theorem modClu_opn (k : Nat) (f : Cluster → Cluster) : (modClu s k f).opn = s.opn := rfl
@[simp] theorem modClu_hl (k : Nat) (f : Cluster → Cluster) : (modClu s k f).hl = s.hl := rfl
@[simp] theorem modClu_mram (k : Nat) (f : Cluster → Cluster) : (modClu s k f).mram = s.mram := rfl
@[simp] theorem modClu_unfenced (k : Nat) (f : Cluster → Cluster) : (modClu s k f).unfenced = s.unfenced := rfl
@[simp] theorem modClu_chs (k : Nat) (f : Cluster → Cluster) : (modClu s k f).chs = s.chs := rfl
@[simp] theorem modClu_bsclk (k : Nat) (f : Cluster → Cluster) : (modClu s k f).bsclk = s.bsclk := rfl
@[simp] theorem modClu_pair (k : Nat) (f : Cluster → Cluster) : (modClu s k f).pair = s.pair := rfl
@[simp] theorem modClu_defs (k : Nat) (f : Cluster → Cluster) : (modClu s k f).defs = s.defs := rfl
@[simp] theorem modClu_defCount (k : Nat) (f : Cluster → Cluster) : (modClu s k f).defCount = s.defCount := rfl
@[simp] theorem modClu_tim (k : Nat) (f : Cluster → Cluster) : (modClu s k f).tim = s.tim := rfl
@[simp] theorem modClu_bil (k : Nat) (f : Cluster → Cluster) : (modClu s k f).bil = s.bil := rfl
@[simp] theorem modClu_rly (k : Nat) (f : Cluster → Cluster) : (modClu s k f).rly = s.rly := rfl
@[simp] theorem modClu_grant (k : Nat) (f : Cluster → Cluster) : (modClu s k f).grant = s.grant := rfl
@[simp] theorem modClu_ldg (k : Nat) (f : Cluster → Cluster) : (modClu s k f).ldg = s.ldg := rfl
@[simp] theorem modClu_obj (k : Nat) (f : Cluster → Cluster) : (modClu s k f).obj = s.obj := rfl
@[simp] theorem modClu_key (k : Nat) (f : Cluster → Cluster) : (modClu s k f).key = s.key := rfl
@[simp] theorem modClu_tmp (k : Nat) (f : Cluster → Cluster) : (modClu s k f).tmp = s.tmp := rfl
@[simp] theorem modClu_aux (k : Nat) (f : Cluster → Cluster) : (modClu s k f).aux = s.aux := rfl
@[simp] theorem modClu_hst (k : Nat) (f : Cluster → Cluster) : (modClu s k f).hst = s.hst := rfl
@[simp] theorem modClu_pls (k : Nat) (f : Cluster → Cluster) : (modClu s k f).pls = s.pls := rfl
@[simp] theorem modClu_dpy (k : Nat) (f : Cluster → Cluster) : (modClu s k f).dpy = s.dpy := rfl
@[simp] theorem modClu_sit (k : Nat) (f : Cluster → Cluster) : (modClu s k f).sit = s.sit := rfl
@[simp] theorem modClu_posts (k : Nat) (f : Cluster → Cluster) : (modClu s k f).posts = s.posts := rfl
@[simp] theorem modClu_free (k : Nat) (f : Cluster → Cluster) : (modClu s k f).free = s.free := rfl
@[simp] theorem modClu_pending (k : Nat) (f : Cluster → Cluster) : (modClu s k f).pending = s.pending := rfl

/-! ### modRel -/

@[simp] theorem modRel_fuse (r : Nat) (f : Relay → Relay) : (modRel s r f).fuse = s.fuse := rfl
@[simp] theorem modRel_clk (r : Nat) (f : Relay → Relay) : (modRel s r f).clk = s.clk := rfl
@[simp] theorem modRel_bk (r : Nat) (f : Relay → Relay) : (modRel s r f).bk = s.bk := rfl
@[simp] theorem modRel_ebb (r : Nat) (f : Relay → Relay) : (modRel s r f).ebb = s.ebb := rfl
@[simp] theorem modRel_flood (r : Nat) (f : Relay → Relay) : (modRel s r f).flood = s.flood := rfl
@[simp] theorem modRel_legal (r : Nat) (f : Relay → Relay) : (modRel s r f).legal = s.legal := rfl
@[simp] theorem modRel_opn (r : Nat) (f : Relay → Relay) : (modRel s r f).opn = s.opn := rfl
@[simp] theorem modRel_hl (r : Nat) (f : Relay → Relay) : (modRel s r f).hl = s.hl := rfl
@[simp] theorem modRel_mram (r : Nat) (f : Relay → Relay) : (modRel s r f).mram = s.mram := rfl
@[simp] theorem modRel_unfenced (r : Nat) (f : Relay → Relay) : (modRel s r f).unfenced = s.unfenced := rfl
@[simp] theorem modRel_chs (r : Nat) (f : Relay → Relay) : (modRel s r f).chs = s.chs := rfl
@[simp] theorem modRel_clus (r : Nat) (f : Relay → Relay) : (modRel s r f).clus = s.clus := rfl
@[simp] theorem modRel_bsclk (r : Nat) (f : Relay → Relay) : (modRel s r f).bsclk = s.bsclk := rfl
@[simp] theorem modRel_pair (r : Nat) (f : Relay → Relay) : (modRel s r f).pair = s.pair := rfl
@[simp] theorem modRel_defs (r : Nat) (f : Relay → Relay) : (modRel s r f).defs = s.defs := rfl
@[simp] theorem modRel_defCount (r : Nat) (f : Relay → Relay) : (modRel s r f).defCount = s.defCount := rfl
@[simp] theorem modRel_tim (r : Nat) (f : Relay → Relay) : (modRel s r f).tim = s.tim := rfl
@[simp] theorem modRel_bil (r : Nat) (f : Relay → Relay) : (modRel s r f).bil = s.bil := rfl
@[simp] theorem modRel_grant (r : Nat) (f : Relay → Relay) : (modRel s r f).grant = s.grant := rfl
@[simp] theorem modRel_ldg (r : Nat) (f : Relay → Relay) : (modRel s r f).ldg = s.ldg := rfl
@[simp] theorem modRel_obj (r : Nat) (f : Relay → Relay) : (modRel s r f).obj = s.obj := rfl
@[simp] theorem modRel_key (r : Nat) (f : Relay → Relay) : (modRel s r f).key = s.key := rfl
@[simp] theorem modRel_tmp (r : Nat) (f : Relay → Relay) : (modRel s r f).tmp = s.tmp := rfl
@[simp] theorem modRel_aux (r : Nat) (f : Relay → Relay) : (modRel s r f).aux = s.aux := rfl
@[simp] theorem modRel_hst (r : Nat) (f : Relay → Relay) : (modRel s r f).hst = s.hst := rfl
@[simp] theorem modRel_pls (r : Nat) (f : Relay → Relay) : (modRel s r f).pls = s.pls := rfl
@[simp] theorem modRel_dpy (r : Nat) (f : Relay → Relay) : (modRel s r f).dpy = s.dpy := rfl
@[simp] theorem modRel_sit (r : Nat) (f : Relay → Relay) : (modRel s r f).sit = s.sit := rfl
@[simp] theorem modRel_posts (r : Nat) (f : Relay → Relay) : (modRel s r f).posts = s.posts := rfl
@[simp] theorem modRel_free (r : Nat) (f : Relay → Relay) : (modRel s r f).free = s.free := rfl
@[simp] theorem modRel_pending (r : Nat) (f : Relay → Relay) : (modRel s r f).pending = s.pending := rfl

/-! ### modBp -/

@[simp] theorem modBp_fuse (mp : Nat) (f : BPoint → BPoint) : (modBp s mp f).fuse = s.fuse := rfl
@[simp] theorem modBp_clk (mp : Nat) (f : BPoint → BPoint) : (modBp s mp f).clk = s.clk := rfl
@[simp] theorem modBp_bk (mp : Nat) (f : BPoint → BPoint) : (modBp s mp f).bk = s.bk := rfl
@[simp] theorem modBp_ebb (mp : Nat) (f : BPoint → BPoint) : (modBp s mp f).ebb = s.ebb := rfl
@[simp] theorem modBp_flood (mp : Nat) (f : BPoint → BPoint) : (modBp s mp f).flood = s.flood := rfl
@[simp] theorem modBp_legal (mp : Nat) (f : BPoint → BPoint) : (modBp s mp f).legal = s.legal := rfl
@[simp] theorem modBp_opn (mp : Nat) (f : BPoint → BPoint) : (modBp s mp f).opn = s.opn := rfl
@[simp] theorem modBp_hl (mp : Nat) (f : BPoint → BPoint) : (modBp s mp f).hl = s.hl := rfl
@[simp] theorem modBp_mram (mp : Nat) (f : BPoint → BPoint) : (modBp s mp f).mram = s.mram := rfl
@[simp] theorem modBp_unfenced (mp : Nat) (f : BPoint → BPoint) : (modBp s mp f).unfenced = s.unfenced := rfl
@[simp] theorem modBp_chs (mp : Nat) (f : BPoint → BPoint) : (modBp s mp f).chs = s.chs := rfl
@[simp] theorem modBp_clus (mp : Nat) (f : BPoint → BPoint) : (modBp s mp f).clus = s.clus := rfl
@[simp] theorem modBp_bsclk (mp : Nat) (f : BPoint → BPoint) : (modBp s mp f).bsclk = s.bsclk := rfl
@[simp] theorem modBp_pair (mp : Nat) (f : BPoint → BPoint) : (modBp s mp f).pair = s.pair := rfl
@[simp] theorem modBp_defs (mp : Nat) (f : BPoint → BPoint) : (modBp s mp f).defs = s.defs := rfl
@[simp] theorem modBp_defCount (mp : Nat) (f : BPoint → BPoint) : (modBp s mp f).defCount = s.defCount := rfl
@[simp] theorem modBp_tim (mp : Nat) (f : BPoint → BPoint) : (modBp s mp f).tim = s.tim := rfl
@[simp] theorem modBp_rly (mp : Nat) (f : BPoint → BPoint) : (modBp s mp f).rly = s.rly := rfl
@[simp] theorem modBp_grant (mp : Nat) (f : BPoint → BPoint) : (modBp s mp f).grant = s.grant := rfl
@[simp] theorem modBp_ldg (mp : Nat) (f : BPoint → BPoint) : (modBp s mp f).ldg = s.ldg := rfl
@[simp] theorem modBp_obj (mp : Nat) (f : BPoint → BPoint) : (modBp s mp f).obj = s.obj := rfl
@[simp] theorem modBp_key (mp : Nat) (f : BPoint → BPoint) : (modBp s mp f).key = s.key := rfl
@[simp] theorem modBp_tmp (mp : Nat) (f : BPoint → BPoint) : (modBp s mp f).tmp = s.tmp := rfl
@[simp] theorem modBp_aux (mp : Nat) (f : BPoint → BPoint) : (modBp s mp f).aux = s.aux := rfl
@[simp] theorem modBp_hst (mp : Nat) (f : BPoint → BPoint) : (modBp s mp f).hst = s.hst := rfl
@[simp] theorem modBp_pls (mp : Nat) (f : BPoint → BPoint) : (modBp s mp f).pls = s.pls := rfl
@[simp] theorem modBp_dpy (mp : Nat) (f : BPoint → BPoint) : (modBp s mp f).dpy = s.dpy := rfl
@[simp] theorem modBp_sit (mp : Nat) (f : BPoint → BPoint) : (modBp s mp f).sit = s.sit := rfl
@[simp] theorem modBp_posts (mp : Nat) (f : BPoint → BPoint) : (modBp s mp f).posts = s.posts := rfl
@[simp] theorem modBp_free (mp : Nat) (f : BPoint → BPoint) : (modBp s mp f).free = s.free := rfl
@[simp] theorem modBp_pending (mp : Nat) (f : BPoint → BPoint) : (modBp s mp f).pending = s.pending := rfl

/-! ### modClk -/

@[simp] theorem modClk_fuse (f : Clk → Clk) : (modClk s f).fuse = s.fuse := rfl
@[simp] theorem modClk_bk (f : Clk → Clk) : (modClk s f).bk = s.bk := rfl
@[simp] theorem modClk_ebb (f : Clk → Clk) : (modClk s f).ebb = s.ebb := rfl
@[simp] theorem modClk_flood (f : Clk → Clk) : (modClk s f).flood = s.flood := rfl
@[simp] theorem modClk_legal (f : Clk → Clk) : (modClk s f).legal = s.legal := rfl
@[simp] theorem modClk_opn (f : Clk → Clk) : (modClk s f).opn = s.opn := rfl
@[simp] theorem modClk_hl (f : Clk → Clk) : (modClk s f).hl = s.hl := rfl
@[simp] theorem modClk_mram (f : Clk → Clk) : (modClk s f).mram = s.mram := rfl
@[simp] theorem modClk_unfenced (f : Clk → Clk) : (modClk s f).unfenced = s.unfenced := rfl
@[simp] theorem modClk_chs (f : Clk → Clk) : (modClk s f).chs = s.chs := rfl
@[simp] theorem modClk_clus (f : Clk → Clk) : (modClk s f).clus = s.clus := rfl
@[simp] theorem modClk_bsclk (f : Clk → Clk) : (modClk s f).bsclk = s.bsclk := rfl
@[simp] theorem modClk_pair (f : Clk → Clk) : (modClk s f).pair = s.pair := rfl
@[simp] theorem modClk_defs (f : Clk → Clk) : (modClk s f).defs = s.defs := rfl
@[simp] theorem modClk_defCount (f : Clk → Clk) : (modClk s f).defCount = s.defCount := rfl
@[simp] theorem modClk_tim (f : Clk → Clk) : (modClk s f).tim = s.tim := rfl
@[simp] theorem modClk_bil (f : Clk → Clk) : (modClk s f).bil = s.bil := rfl
@[simp] theorem modClk_rly (f : Clk → Clk) : (modClk s f).rly = s.rly := rfl
@[simp] theorem modClk_grant (f : Clk → Clk) : (modClk s f).grant = s.grant := rfl
@[simp] theorem modClk_ldg (f : Clk → Clk) : (modClk s f).ldg = s.ldg := rfl
@[simp] theorem modClk_obj (f : Clk → Clk) : (modClk s f).obj = s.obj := rfl
@[simp] theorem modClk_key (f : Clk → Clk) : (modClk s f).key = s.key := rfl
@[simp] theorem modClk_tmp (f : Clk → Clk) : (modClk s f).tmp = s.tmp := rfl
@[simp] theorem modClk_aux (f : Clk → Clk) : (modClk s f).aux = s.aux := rfl
@[simp] theorem modClk_hst (f : Clk → Clk) : (modClk s f).hst = s.hst := rfl
@[simp] theorem modClk_pls (f : Clk → Clk) : (modClk s f).pls = s.pls := rfl
@[simp] theorem modClk_dpy (f : Clk → Clk) : (modClk s f).dpy = s.dpy := rfl
@[simp] theorem modClk_sit (f : Clk → Clk) : (modClk s f).sit = s.sit := rfl
@[simp] theorem modClk_posts (f : Clk → Clk) : (modClk s f).posts = s.posts := rfl
@[simp] theorem modClk_free (f : Clk → Clk) : (modClk s f).free = s.free := rfl
@[simp] theorem modClk_pending (f : Clk → Clk) : (modClk s f).pending = s.pending := rfl

/-! ### modAux -/

@[simp] theorem modAux_fuse (f : Auxc → Auxc) : (modAux s f).fuse = s.fuse := rfl
@[simp] theorem modAux_clk (f : Auxc → Auxc) : (modAux s f).clk = s.clk := rfl
@[simp] theorem modAux_bk (f : Auxc → Auxc) : (modAux s f).bk = s.bk := rfl
@[simp] theorem modAux_ebb (f : Auxc → Auxc) : (modAux s f).ebb = s.ebb := rfl
@[simp] theorem modAux_flood (f : Auxc → Auxc) : (modAux s f).flood = s.flood := rfl
@[simp] theorem modAux_legal (f : Auxc → Auxc) : (modAux s f).legal = s.legal := rfl
@[simp] theorem modAux_opn (f : Auxc → Auxc) : (modAux s f).opn = s.opn := rfl
@[simp] theorem modAux_hl (f : Auxc → Auxc) : (modAux s f).hl = s.hl := rfl
@[simp] theorem modAux_mram (f : Auxc → Auxc) : (modAux s f).mram = s.mram := rfl
@[simp] theorem modAux_unfenced (f : Auxc → Auxc) : (modAux s f).unfenced = s.unfenced := rfl
@[simp] theorem modAux_chs (f : Auxc → Auxc) : (modAux s f).chs = s.chs := rfl
@[simp] theorem modAux_clus (f : Auxc → Auxc) : (modAux s f).clus = s.clus := rfl
@[simp] theorem modAux_bsclk (f : Auxc → Auxc) : (modAux s f).bsclk = s.bsclk := rfl
@[simp] theorem modAux_pair (f : Auxc → Auxc) : (modAux s f).pair = s.pair := rfl
@[simp] theorem modAux_defs (f : Auxc → Auxc) : (modAux s f).defs = s.defs := rfl
@[simp] theorem modAux_defCount (f : Auxc → Auxc) : (modAux s f).defCount = s.defCount := rfl
@[simp] theorem modAux_tim (f : Auxc → Auxc) : (modAux s f).tim = s.tim := rfl
@[simp] theorem modAux_bil (f : Auxc → Auxc) : (modAux s f).bil = s.bil := rfl
@[simp] theorem modAux_rly (f : Auxc → Auxc) : (modAux s f).rly = s.rly := rfl
@[simp] theorem modAux_grant (f : Auxc → Auxc) : (modAux s f).grant = s.grant := rfl
@[simp] theorem modAux_ldg (f : Auxc → Auxc) : (modAux s f).ldg = s.ldg := rfl
@[simp] theorem modAux_obj (f : Auxc → Auxc) : (modAux s f).obj = s.obj := rfl
@[simp] theorem modAux_key (f : Auxc → Auxc) : (modAux s f).key = s.key := rfl
@[simp] theorem modAux_tmp (f : Auxc → Auxc) : (modAux s f).tmp = s.tmp := rfl
@[simp] theorem modAux_hst (f : Auxc → Auxc) : (modAux s f).hst = s.hst := rfl
@[simp] theorem modAux_pls (f : Auxc → Auxc) : (modAux s f).pls = s.pls := rfl
@[simp] theorem modAux_dpy (f : Auxc → Auxc) : (modAux s f).dpy = s.dpy := rfl
@[simp] theorem modAux_sit (f : Auxc → Auxc) : (modAux s f).sit = s.sit := rfl
@[simp] theorem modAux_posts (f : Auxc → Auxc) : (modAux s f).posts = s.posts := rfl
@[simp] theorem modAux_free (f : Auxc → Auxc) : (modAux s f).free = s.free := rfl
@[simp] theorem modAux_pending (f : Auxc → Auxc) : (modAux s f).pending = s.pending := rfl

/-! ### modPort -/

@[simp] theorem modPort_fuse (i : Nat) (f : HPort → HPort) : (modPort s i f).fuse = s.fuse := rfl
@[simp] theorem modPort_clk (i : Nat) (f : HPort → HPort) : (modPort s i f).clk = s.clk := rfl
@[simp] theorem modPort_bk (i : Nat) (f : HPort → HPort) : (modPort s i f).bk = s.bk := rfl
@[simp] theorem modPort_ebb (i : Nat) (f : HPort → HPort) : (modPort s i f).ebb = s.ebb := rfl
@[simp] theorem modPort_flood (i : Nat) (f : HPort → HPort) : (modPort s i f).flood = s.flood := rfl
@[simp] theorem modPort_legal (i : Nat) (f : HPort → HPort) : (modPort s i f).legal = s.legal := rfl
@[simp] theorem modPort_opn (i : Nat) (f : HPort → HPort) : (modPort s i f).opn = s.opn := rfl
@[simp] theorem modPort_hl (i : Nat) (f : HPort → HPort) : (modPort s i f).hl = s.hl := rfl
@[simp] theorem modPort_mram (i : Nat) (f : HPort → HPort) : (modPort s i f).mram = s.mram := rfl
@[simp] theorem modPort_unfenced (i : Nat) (f : HPort → HPort) : (modPort s i f).unfenced = s.unfenced := rfl
@[simp] theorem modPort_chs (i : Nat) (f : HPort → HPort) : (modPort s i f).chs = s.chs := rfl
@[simp] theorem modPort_clus (i : Nat) (f : HPort → HPort) : (modPort s i f).clus = s.clus := rfl
@[simp] theorem modPort_bsclk (i : Nat) (f : HPort → HPort) : (modPort s i f).bsclk = s.bsclk := rfl
@[simp] theorem modPort_pair (i : Nat) (f : HPort → HPort) : (modPort s i f).pair = s.pair := rfl
@[simp] theorem modPort_defs (i : Nat) (f : HPort → HPort) : (modPort s i f).defs = s.defs := rfl
@[simp] theorem modPort_defCount (i : Nat) (f : HPort → HPort) : (modPort s i f).defCount = s.defCount := rfl
@[simp] theorem modPort_tim (i : Nat) (f : HPort → HPort) : (modPort s i f).tim = s.tim := rfl
@[simp] theorem modPort_bil (i : Nat) (f : HPort → HPort) : (modPort s i f).bil = s.bil := rfl
@[simp] theorem modPort_rly (i : Nat) (f : HPort → HPort) : (modPort s i f).rly = s.rly := rfl
@[simp] theorem modPort_grant (i : Nat) (f : HPort → HPort) : (modPort s i f).grant = s.grant := rfl
@[simp] theorem modPort_ldg (i : Nat) (f : HPort → HPort) : (modPort s i f).ldg = s.ldg := rfl
@[simp] theorem modPort_obj (i : Nat) (f : HPort → HPort) : (modPort s i f).obj = s.obj := rfl
@[simp] theorem modPort_key (i : Nat) (f : HPort → HPort) : (modPort s i f).key = s.key := rfl
@[simp] theorem modPort_tmp (i : Nat) (f : HPort → HPort) : (modPort s i f).tmp = s.tmp := rfl
@[simp] theorem modPort_aux (i : Nat) (f : HPort → HPort) : (modPort s i f).aux = s.aux := rfl
@[simp] theorem modPort_pls (i : Nat) (f : HPort → HPort) : (modPort s i f).pls = s.pls := rfl
@[simp] theorem modPort_dpy (i : Nat) (f : HPort → HPort) : (modPort s i f).dpy = s.dpy := rfl
@[simp] theorem modPort_sit (i : Nat) (f : HPort → HPort) : (modPort s i f).sit = s.sit := rfl
@[simp] theorem modPort_posts (i : Nat) (f : HPort → HPort) : (modPort s i f).posts = s.posts := rfl
@[simp] theorem modPort_free (i : Nat) (f : HPort → HPort) : (modPort s i f).free = s.free := rfl
@[simp] theorem modPort_pending (i : Nat) (f : HPort → HPort) : (modPort s i f).pending = s.pending := rfl

/-! ### modMon -/

@[simp] theorem modMon_fuse (m : Nat) (f : Monitor → Monitor) : (modMon s m f).fuse = s.fuse := rfl
@[simp] theorem modMon_clk (m : Nat) (f : Monitor → Monitor) : (modMon s m f).clk = s.clk := rfl
@[simp] theorem modMon_bk (m : Nat) (f : Monitor → Monitor) : (modMon s m f).bk = s.bk := rfl
@[simp] theorem modMon_ebb (m : Nat) (f : Monitor → Monitor) : (modMon s m f).ebb = s.ebb := rfl
@[simp] theorem modMon_flood (m : Nat) (f : Monitor → Monitor) : (modMon s m f).flood = s.flood := rfl
@[simp] theorem modMon_legal (m : Nat) (f : Monitor → Monitor) : (modMon s m f).legal = s.legal := rfl
@[simp] theorem modMon_opn (m : Nat) (f : Monitor → Monitor) : (modMon s m f).opn = s.opn := rfl
@[simp] theorem modMon_hl (m : Nat) (f : Monitor → Monitor) : (modMon s m f).hl = s.hl := rfl
@[simp] theorem modMon_mram (m : Nat) (f : Monitor → Monitor) : (modMon s m f).mram = s.mram := rfl
@[simp] theorem modMon_unfenced (m : Nat) (f : Monitor → Monitor) : (modMon s m f).unfenced = s.unfenced := rfl
@[simp] theorem modMon_chs (m : Nat) (f : Monitor → Monitor) : (modMon s m f).chs = s.chs := rfl
@[simp] theorem modMon_clus (m : Nat) (f : Monitor → Monitor) : (modMon s m f).clus = s.clus := rfl
@[simp] theorem modMon_bsclk (m : Nat) (f : Monitor → Monitor) : (modMon s m f).bsclk = s.bsclk := rfl
@[simp] theorem modMon_pair (m : Nat) (f : Monitor → Monitor) : (modMon s m f).pair = s.pair := rfl
@[simp] theorem modMon_defs (m : Nat) (f : Monitor → Monitor) : (modMon s m f).defs = s.defs := rfl
@[simp] theorem modMon_defCount (m : Nat) (f : Monitor → Monitor) : (modMon s m f).defCount = s.defCount := rfl
@[simp] theorem modMon_tim (m : Nat) (f : Monitor → Monitor) : (modMon s m f).tim = s.tim := rfl
@[simp] theorem modMon_bil (m : Nat) (f : Monitor → Monitor) : (modMon s m f).bil = s.bil := rfl
@[simp] theorem modMon_rly (m : Nat) (f : Monitor → Monitor) : (modMon s m f).rly = s.rly := rfl
@[simp] theorem modMon_grant (m : Nat) (f : Monitor → Monitor) : (modMon s m f).grant = s.grant := rfl
@[simp] theorem modMon_ldg (m : Nat) (f : Monitor → Monitor) : (modMon s m f).ldg = s.ldg := rfl
@[simp] theorem modMon_obj (m : Nat) (f : Monitor → Monitor) : (modMon s m f).obj = s.obj := rfl
@[simp] theorem modMon_key (m : Nat) (f : Monitor → Monitor) : (modMon s m f).key = s.key := rfl
@[simp] theorem modMon_aux (m : Nat) (f : Monitor → Monitor) : (modMon s m f).aux = s.aux := rfl
@[simp] theorem modMon_hst (m : Nat) (f : Monitor → Monitor) : (modMon s m f).hst = s.hst := rfl
@[simp] theorem modMon_pls (m : Nat) (f : Monitor → Monitor) : (modMon s m f).pls = s.pls := rfl
@[simp] theorem modMon_dpy (m : Nat) (f : Monitor → Monitor) : (modMon s m f).dpy = s.dpy := rfl
@[simp] theorem modMon_sit (m : Nat) (f : Monitor → Monitor) : (modMon s m f).sit = s.sit := rfl
@[simp] theorem modMon_posts (m : Nat) (f : Monitor → Monitor) : (modMon s m f).posts = s.posts := rfl
@[simp] theorem modMon_free (m : Nat) (f : Monitor → Monitor) : (modMon s m f).free = s.free := rfl
@[simp] theorem modMon_pending (m : Nat) (f : Monitor → Monitor) : (modMon s m f).pending = s.pending := rfl

/-! ### modRec -/

@[simp] theorem modRec_fuse (i : Nat) (f : SlotRec → SlotRec) : (modRec s i f).fuse = s.fuse := rfl
@[simp] theorem modRec_clk (i : Nat) (f : SlotRec → SlotRec) : (modRec s i f).clk = s.clk := rfl
@[simp] theorem modRec_bk (i : Nat) (f : SlotRec → SlotRec) : (modRec s i f).bk = s.bk := rfl
@[simp] theorem modRec_ebb (i : Nat) (f : SlotRec → SlotRec) : (modRec s i f).ebb = s.ebb := rfl
@[simp] theorem modRec_flood (i : Nat) (f : SlotRec → SlotRec) : (modRec s i f).flood = s.flood := rfl
@[simp] theorem modRec_legal (i : Nat) (f : SlotRec → SlotRec) : (modRec s i f).legal = s.legal := rfl
@[simp] theorem modRec_opn (i : Nat) (f : SlotRec → SlotRec) : (modRec s i f).opn = s.opn := rfl
@[simp] theorem modRec_hl (i : Nat) (f : SlotRec → SlotRec) : (modRec s i f).hl = s.hl := rfl
@[simp] theorem modRec_mram (i : Nat) (f : SlotRec → SlotRec) : (modRec s i f).mram = s.mram := rfl
@[simp] theorem modRec_unfenced (i : Nat) (f : SlotRec → SlotRec) : (modRec s i f).unfenced = s.unfenced := rfl
@[simp] theorem modRec_chs (i : Nat) (f : SlotRec → SlotRec) : (modRec s i f).chs = s.chs := rfl
@[simp] theorem modRec_clus (i : Nat) (f : SlotRec → SlotRec) : (modRec s i f).clus = s.clus := rfl
@[simp] theorem modRec_bsclk (i : Nat) (f : SlotRec → SlotRec) : (modRec s i f).bsclk = s.bsclk := rfl
@[simp] theorem modRec_pair (i : Nat) (f : SlotRec → SlotRec) : (modRec s i f).pair = s.pair := rfl
@[simp] theorem modRec_defs (i : Nat) (f : SlotRec → SlotRec) : (modRec s i f).defs = s.defs := rfl
@[simp] theorem modRec_defCount (i : Nat) (f : SlotRec → SlotRec) : (modRec s i f).defCount = s.defCount := rfl
@[simp] theorem modRec_tim (i : Nat) (f : SlotRec → SlotRec) : (modRec s i f).tim = s.tim := rfl
@[simp] theorem modRec_bil (i : Nat) (f : SlotRec → SlotRec) : (modRec s i f).bil = s.bil := rfl
@[simp] theorem modRec_rly (i : Nat) (f : SlotRec → SlotRec) : (modRec s i f).rly = s.rly := rfl
@[simp] theorem modRec_grant (i : Nat) (f : SlotRec → SlotRec) : (modRec s i f).grant = s.grant := rfl
@[simp] theorem modRec_ldg (i : Nat) (f : SlotRec → SlotRec) : (modRec s i f).ldg = s.ldg := rfl
@[simp] theorem modRec_obj (i : Nat) (f : SlotRec → SlotRec) : (modRec s i f).obj = s.obj := rfl
@[simp] theorem modRec_tmp (i : Nat) (f : SlotRec → SlotRec) : (modRec s i f).tmp = s.tmp := rfl
@[simp] theorem modRec_aux (i : Nat) (f : SlotRec → SlotRec) : (modRec s i f).aux = s.aux := rfl
@[simp] theorem modRec_hst (i : Nat) (f : SlotRec → SlotRec) : (modRec s i f).hst = s.hst := rfl
@[simp] theorem modRec_pls (i : Nat) (f : SlotRec → SlotRec) : (modRec s i f).pls = s.pls := rfl
@[simp] theorem modRec_dpy (i : Nat) (f : SlotRec → SlotRec) : (modRec s i f).dpy = s.dpy := rfl
@[simp] theorem modRec_sit (i : Nat) (f : SlotRec → SlotRec) : (modRec s i f).sit = s.sit := rfl
@[simp] theorem modRec_posts (i : Nat) (f : SlotRec → SlotRec) : (modRec s i f).posts = s.posts := rfl
@[simp] theorem modRec_free (i : Nat) (f : SlotRec → SlotRec) : (modRec s i f).free = s.free := rfl
@[simp] theorem modRec_pending (i : Nat) (f : SlotRec → SlotRec) : (modRec s i f).pending = s.pending := rfl

/-! ### setCached -/

@[simp] theorem setCached_fuse (i : Nat) (c : Option Cached) : (setCached s i c).fuse = s.fuse := rfl
@[simp] theorem setCached_clk (i : Nat) (c : Option Cached) : (setCached s i c).clk = s.clk := rfl
@[simp] theorem setCached_bk (i : Nat) (c : Option Cached) : (setCached s i c).bk = s.bk := rfl
@[simp] theorem setCached_ebb (i : Nat) (c : Option Cached) : (setCached s i c).ebb = s.ebb := rfl
@[simp] theorem setCached_flood (i : Nat) (c : Option Cached) : (setCached s i c).flood = s.flood := rfl
@[simp] theorem setCached_legal (i : Nat) (c : Option Cached) : (setCached s i c).legal = s.legal := rfl
@[simp] theorem setCached_opn (i : Nat) (c : Option Cached) : (setCached s i c).opn = s.opn := rfl
@[simp] theorem setCached_hl (i : Nat) (c : Option Cached) : (setCached s i c).hl = s.hl := rfl
@[simp] theorem setCached_mram (i : Nat) (c : Option Cached) : (setCached s i c).mram = s.mram := rfl
@[simp] theorem setCached_unfenced (i : Nat) (c : Option Cached) : (setCached s i c).unfenced = s.unfenced := rfl
@[simp] theorem setCached_chs (i : Nat) (c : Option Cached) : (setCached s i c).chs = s.chs := rfl
@[simp] theorem setCached_clus (i : Nat) (c : Option Cached) : (setCached s i c).clus = s.clus := rfl
@[simp] theorem setCached_bsclk (i : Nat) (c : Option Cached) : (setCached s i c).bsclk = s.bsclk := rfl
@[simp] theorem setCached_pair (i : Nat) (c : Option Cached) : (setCached s i c).pair = s.pair := rfl
@[simp] theorem setCached_defs (i : Nat) (c : Option Cached) : (setCached s i c).defs = s.defs := rfl
@[simp] theorem setCached_defCount (i : Nat) (c : Option Cached) : (setCached s i c).defCount = s.defCount := rfl
@[simp] theorem setCached_tim (i : Nat) (c : Option Cached) : (setCached s i c).tim = s.tim := rfl
@[simp] theorem setCached_bil (i : Nat) (c : Option Cached) : (setCached s i c).bil = s.bil := rfl
@[simp] theorem setCached_rly (i : Nat) (c : Option Cached) : (setCached s i c).rly = s.rly := rfl
@[simp] theorem setCached_grant (i : Nat) (c : Option Cached) : (setCached s i c).grant = s.grant := rfl
@[simp] theorem setCached_ldg (i : Nat) (c : Option Cached) : (setCached s i c).ldg = s.ldg := rfl
@[simp] theorem setCached_obj (i : Nat) (c : Option Cached) : (setCached s i c).obj = s.obj := rfl
@[simp] theorem setCached_tmp (i : Nat) (c : Option Cached) : (setCached s i c).tmp = s.tmp := rfl
@[simp] theorem setCached_aux (i : Nat) (c : Option Cached) : (setCached s i c).aux = s.aux := rfl
@[simp] theorem setCached_hst (i : Nat) (c : Option Cached) : (setCached s i c).hst = s.hst := rfl
@[simp] theorem setCached_pls (i : Nat) (c : Option Cached) : (setCached s i c).pls = s.pls := rfl
@[simp] theorem setCached_dpy (i : Nat) (c : Option Cached) : (setCached s i c).dpy = s.dpy := rfl
@[simp] theorem setCached_sit (i : Nat) (c : Option Cached) : (setCached s i c).sit = s.sit := rfl
@[simp] theorem setCached_posts (i : Nat) (c : Option Cached) : (setCached s i c).posts = s.posts := rfl
@[simp] theorem setCached_free (i : Nat) (c : Option Cached) : (setCached s i c).free = s.free := rfl
@[simp] theorem setCached_pending (i : Nat) (c : Option Cached) : (setCached s i c).pending = s.pending := rfl

/-! ### setPendKey -/

@[simp] theorem setPendKey_fuse (i : Nat) (c : Option Bytes) : (setPendKey s i c).fuse = s.fuse := rfl
@[simp] theorem setPendKey_clk (i : Nat) (c : Option Bytes) : (setPendKey s i c).clk = s.clk := rfl
@[simp] theorem setPendKey_bk (i : Nat) (c : Option Bytes) : (setPendKey s i c).bk = s.bk := rfl
@[simp] theorem setPendKey_ebb (i : Nat) (c : Option Bytes) : (setPendKey s i c).ebb = s.ebb := rfl
@[simp] theorem setPendKey_flood (i : Nat) (c : Option Bytes) : (setPendKey s i c).flood = s.flood := rfl
@[simp] theorem setPendKey_legal (i : Nat) (c : Option Bytes) : (setPendKey s i c).legal = s.legal := rfl
@[simp] theorem setPendKey_opn (i : Nat) (c : Option Bytes) : (setPendKey s i c).opn = s.opn := rfl
@[simp] theorem setPendKey_hl (i : Nat) (c : Option Bytes) : (setPendKey s i c).hl = s.hl := rfl
@[simp] theorem setPendKey_mram (i : Nat) (c : Option Bytes) : (setPendKey s i c).mram = s.mram := rfl
@[simp] theorem setPendKey_unfenced (i : Nat) (c : Option Bytes) : (setPendKey s i c).unfenced = s.unfenced := rfl
@[simp] theorem setPendKey_chs (i : Nat) (c : Option Bytes) : (setPendKey s i c).chs = s.chs := rfl
@[simp] theorem setPendKey_clus (i : Nat) (c : Option Bytes) : (setPendKey s i c).clus = s.clus := rfl
@[simp] theorem setPendKey_bsclk (i : Nat) (c : Option Bytes) : (setPendKey s i c).bsclk = s.bsclk := rfl
@[simp] theorem setPendKey_pair (i : Nat) (c : Option Bytes) : (setPendKey s i c).pair = s.pair := rfl
@[simp] theorem setPendKey_defs (i : Nat) (c : Option Bytes) : (setPendKey s i c).defs = s.defs := rfl
@[simp] theorem setPendKey_defCount (i : Nat) (c : Option Bytes) : (setPendKey s i c).defCount = s.defCount := rfl
@[simp] theorem setPendKey_tim (i : Nat) (c : Option Bytes) : (setPendKey s i c).tim = s.tim := rfl
@[simp] theorem setPendKey_bil (i : Nat) (c : Option Bytes) : (setPendKey s i c).bil = s.bil := rfl
@[simp] theorem setPendKey_rly (i : Nat) (c : Option Bytes) : (setPendKey s i c).rly = s.rly := rfl
@[simp] theorem setPendKey_grant (i : Nat) (c : Option Bytes) : (setPendKey s i c).grant = s.grant := rfl
@[simp] theorem setPendKey_ldg (i : Nat) (c : Option Bytes) : (setPendKey s i c).ldg = s.ldg := rfl
@[simp] theorem setPendKey_obj (i : Nat) (c : Option Bytes) : (setPendKey s i c).obj = s.obj := rfl
@[simp] theorem setPendKey_tmp (i : Nat) (c : Option Bytes) : (setPendKey s i c).tmp = s.tmp := rfl
@[simp] theorem setPendKey_aux (i : Nat) (c : Option Bytes) : (setPendKey s i c).aux = s.aux := rfl
@[simp] theorem setPendKey_hst (i : Nat) (c : Option Bytes) : (setPendKey s i c).hst = s.hst := rfl
@[simp] theorem setPendKey_pls (i : Nat) (c : Option Bytes) : (setPendKey s i c).pls = s.pls := rfl
@[simp] theorem setPendKey_dpy (i : Nat) (c : Option Bytes) : (setPendKey s i c).dpy = s.dpy := rfl
@[simp] theorem setPendKey_sit (i : Nat) (c : Option Bytes) : (setPendKey s i c).sit = s.sit := rfl
@[simp] theorem setPendKey_posts (i : Nat) (c : Option Bytes) : (setPendKey s i c).posts = s.posts := rfl
@[simp] theorem setPendKey_free (i : Nat) (c : Option Bytes) : (setPendKey s i c).free = s.free := rfl
@[simp] theorem setPendKey_pending (i : Nat) (c : Option Bytes) : (setPendKey s i c).pending = s.pending := rfl

/-! ### modNbr -/

@[simp] theorem modNbr_fuse (n : Nat) (f : Nbr → Nbr) : (modNbr s n f).fuse = s.fuse := rfl
@[simp] theorem modNbr_clk (n : Nat) (f : Nbr → Nbr) : (modNbr s n f).clk = s.clk := rfl
@[simp] theorem modNbr_bk (n : Nat) (f : Nbr → Nbr) : (modNbr s n f).bk = s.bk := rfl
@[simp] theorem modNbr_ebb (n : Nat) (f : Nbr → Nbr) : (modNbr s n f).ebb = s.ebb := rfl
@[simp] theorem modNbr_flood (n : Nat) (f : Nbr → Nbr) : (modNbr s n f).flood = s.flood := rfl
@[simp] theorem modNbr_legal (n : Nat) (f : Nbr → Nbr) : (modNbr s n f).legal = s.legal := rfl
@[simp] theorem modNbr_opn (n : Nat) (f : Nbr → Nbr) : (modNbr s n f).opn = s.opn := rfl
@[simp] theorem modNbr_hl (n : Nat) (f : Nbr → Nbr) : (modNbr s n f).hl = s.hl := rfl
@[simp] theorem modNbr_mram (n : Nat) (f : Nbr → Nbr) : (modNbr s n f).mram = s.mram := rfl
@[simp] theorem modNbr_unfenced (n : Nat) (f : Nbr → Nbr) : (modNbr s n f).unfenced = s.unfenced := rfl
@[simp] theorem modNbr_chs (n : Nat) (f : Nbr → Nbr) : (modNbr s n f).chs = s.chs := rfl
@[simp] theorem modNbr_clus (n : Nat) (f : Nbr → Nbr) : (modNbr s n f).clus = s.clus := rfl
@[simp] theorem modNbr_bsclk (n : Nat) (f : Nbr → Nbr) : (modNbr s n f).bsclk = s.bsclk := rfl
@[simp] theorem modNbr_pair (n : Nat) (f : Nbr → Nbr) : (modNbr s n f).pair = s.pair := rfl
@[simp] theorem modNbr_defs (n : Nat) (f : Nbr → Nbr) : (modNbr s n f).defs = s.defs := rfl
@[simp] theorem modNbr_defCount (n : Nat) (f : Nbr → Nbr) : (modNbr s n f).defCount = s.defCount := rfl
@[simp] theorem modNbr_tim (n : Nat) (f : Nbr → Nbr) : (modNbr s n f).tim = s.tim := rfl
@[simp] theorem modNbr_bil (n : Nat) (f : Nbr → Nbr) : (modNbr s n f).bil = s.bil := rfl
@[simp] theorem modNbr_rly (n : Nat) (f : Nbr → Nbr) : (modNbr s n f).rly = s.rly := rfl
@[simp] theorem modNbr_grant (n : Nat) (f : Nbr → Nbr) : (modNbr s n f).grant = s.grant := rfl
@[simp] theorem modNbr_ldg (n : Nat) (f : Nbr → Nbr) : (modNbr s n f).ldg = s.ldg := rfl
@[simp] theorem modNbr_obj (n : Nat) (f : Nbr → Nbr) : (modNbr s n f).obj = s.obj := rfl
@[simp] theorem modNbr_key (n : Nat) (f : Nbr → Nbr) : (modNbr s n f).key = s.key := rfl
@[simp] theorem modNbr_tmp (n : Nat) (f : Nbr → Nbr) : (modNbr s n f).tmp = s.tmp := rfl
@[simp] theorem modNbr_aux (n : Nat) (f : Nbr → Nbr) : (modNbr s n f).aux = s.aux := rfl
@[simp] theorem modNbr_hst (n : Nat) (f : Nbr → Nbr) : (modNbr s n f).hst = s.hst := rfl
@[simp] theorem modNbr_pls (n : Nat) (f : Nbr → Nbr) : (modNbr s n f).pls = s.pls := rfl
@[simp] theorem modNbr_dpy (n : Nat) (f : Nbr → Nbr) : (modNbr s n f).dpy = s.dpy := rfl
@[simp] theorem modNbr_posts (n : Nat) (f : Nbr → Nbr) : (modNbr s n f).posts = s.posts := rfl
@[simp] theorem modNbr_free (n : Nat) (f : Nbr → Nbr) : (modNbr s n f).free = s.free := rfl
@[simp] theorem modNbr_pending (n : Nat) (f : Nbr → Nbr) : (modNbr s n f).pending = s.pending := rfl

end Sys2Proof.Machine
end

