-- ==== Sys2Proof/Tests/Slice0.lean ====
section
/-! SUPPORT. Small tests: ill-formed terms that the check refuses, and states that meet the hypotheses of the statements (wit_), cases of their clauses (case_), and results by the words of the spec (test_). -/

namespace Sys2Proof.Tests

open Sys2Proof.Machine

set_option maxRecDepth 100000
set_option Elab.async false

/-- A value of the next state, if there is one. -/
def after {α : Type} (o : Host.Outcome State Fault Refusal) (f : State → α) : Option α :=
  match o with
  | .next t => some (f t)
  | _ => none

/-- The part runs: supply, REF, PLL and MOD, the LEGAL world released at pc 0 with its vector at 0x100, RUN mode. -/
def up : State :=
  { State.reset with
    clk := { Clk.zero with refStable := some 0, t0 := some 0, modRun := true, lock := true, refOk := true, mode := 2, ref := 1000, modtick := 10000, modPhase := 0 }
    legal := { WorldSt.zero 1465 with released := true, bank := { g := (List.range 32).map fun i => BitVec.ofNat 32 (i * 3), pc := 0x40 }, ctl := { Ctl.zero with evec := 0x100 } }
    opn := { WorldSt.zero 0 with released := true, bank := { g := (List.range 32).map fun i => BitVec.ofNat 32 (i * 5), pc := 0x40040 }, ctl := { Ctl.zero with evec := 0x40100 } } }

/-- The OPEN world executes: the LEGAL world waits. -/
def upOpen : State := { up with legal := { up.legal with waiting := true }, hl := { Headland.zero with loaded := true, run := true, gateN := 16, gateBase := 0x1000 } }

/-- A lane executes its reference program as the ACTIVE lane. -/
def upLane : State :=
  { up with
    ebb := { Lane.zero with running := true, bank := { g := (List.range 32).map fun i => BitVec.ofNat 32 (i * 7), pc := 0x200 } }
    pair := { Pair.zero with ebb := { Pair.zero.ebb with st := 1 }, flood := { Pair.zero.flood with st := 2 } } }

def L : Ctx := .world .legal
def O : Ctx := .world .opn
def E : Ctx := .ref .ebb

/-- `up` with one LEGAL register set. -/
def legalReg (r : Nat) (v : Word) : State := { up with legal := { up.legal with bank := { up.legal.bank with g := up.legal.bank.g.set r v } } }


/-! ### A running instruction -/

theorem test_up_runs : ctxOf up .headland = some L ∧ fetchExc up L = none := by decide +kernel
theorem test_open_runs : ctxOf upOpen .headland = some O ∧ fetchExc upOpen O = none := by decide +kernel
theorem test_lane_runs : ctxOf upLane .ebb = some E ∧ fetchExc upLane E = none := by decide +kernel

theorem test_add : after (exec (.add .headland 4 2 3) up) (fun t => (getG t L 4, t.legal.bank.pc)) = some (15, 0x44) := by decide +kernel
theorem test_adds_saturates : after (exec (.adds .headland 4 2 2) (legalReg 2 0x7FFFFFFF)) (fun t => getG t L 4) = some 0x7FFFFFFF := by decide +kernel
theorem test_mulh : after (exec (.mulh .headland 4 2 3) (legalReg 2 0xFFFFFFFF)) (fun t => getG t L 4) = some 0xFFFFFFFF := by decide +kernel
theorem test_div_by_zero : after (exec (.div .headland 4 2 0) up) (fun t => getG t L 4) = some 0xFFFFFFFF := by decide +kernel
theorem test_rem_negative : after (exec (.rem .headland 4 2 3) (legalReg 2 0xFFFFFFF5)) (fun t => getG t L 4) = some 0xFFFFFFFE := by decide +kernel
theorem test_clz : after (exec (.clz .headland 4 1) up) (fun t => getG t L 4) = some 30 := by decide +kernel
theorem test_g0 : after (exec (.addi .headland 0 1 5) up) (fun t => t.legal.bank.g) = some up.legal.bank.g := by decide +kernel
theorem test_jalr_old_rs1 : after (exec (.jalr .headland 4 4 0) up) (fun t => (t.legal.bank.pc, getG t L 4)) = some (12, 0x44) := by decide +kernel
theorem test_jalr_align : after (exec (.jalr .headland 4 1 0) up) (fun t => (t.legal.ctl.cause, t.legal.bank.pc, t.legal.ctl.eaddr)) = some (3, 0x100, 3) := by decide +kernel
theorem test_sw_lw :
    after (exec (.sw .headland 5 0 0x100) up) (fun t => after (exec (.lh .headland 6 0 0x100) t) fun r => getG r L 6) = some (some 15) := by decide +kernel
theorem test_open_store_world : after (exec (.sw .headland 5 0 0x100) upOpen) (fun t => (t.opn.ctl.cause, t.opn.bank.pc)) = some (0x105, 0x40100) := by decide +kernel
theorem test_trap : after (exec (.trap .headland 9) up) (fun t => (t.legal.ctl.cause, t.legal.ctl.epc, t.legal.ctl.active)) = some (0x90B, 0x40, true) := by decide +kernel
theorem test_wfe_waits : after (exec (.wfe .headland) up) (fun t => t.legal.waiting) = some true := by decide +kernel
theorem test_gate : after (exec (.gate .headland 3 true) upOpen)
    (fun t => (t.opn.ctl.inGate, t.legal.ctl.evpend, Mem.word t.hl.dmem 0x1000, Mem.word t.hl.dmem 0x1008)) = some (true, 0x20000, 3, 10) := by decide +kernel

/-! ### Witnesses for the scalar statements (04) -/

theorem wit_runs_up : Runs up .headland L := ⟨by decide +kernel, by decide⟩
theorem wit_runs_open : Runs upOpen .headland O := ⟨by decide +kernel, by decide⟩
theorem wit_runs_lane : Runs upLane .ebb E := ⟨by decide +kernel, by decide⟩

/-- A freeze that CLK.SLACK asked for, until REF 5000. -/
def frz : Freeze := { tick := 10000, rtc := 0, cause := 2, endRef := some 5000, chains := 0, mode := 2 }

/-- StepRunsFrontCommand. -/
theorem wit_step : ({ up with pending := [.wfe .headland, .joinRetry] } : State).pending = .wfe .headland :: [.joinRetry] ∧
    after (step { up with pending := [.wfe .headland, .joinRetry] }) (fun t => (t.pending, t.legal.waiting)) = some ([.joinRetry], true) := by decide +kernel
/-- EmptyQueueLetsOneRefCyclePass, the edge that MOD counts, and a freeze. -/
theorem wit_tick : up.pending = [] ∧ up.clk.powered = true ∧ up.clk.modRun = true ∧ up.clk.freeze = none ∧ up.clk.modPhase < 6 ∧
    after (step { up with clk := { up.clk with modPhase := 5 } }) (fun t => (t.clk.ref, t.clk.modPhase, t.clk.modtick)) = some (1001, 0, 10001) := by decide +kernel
theorem wit_tick_frozen : ({ up.clk with freeze := some frz } : Clk).freeze.isSome = true ∧
    after (step { up with clk := { up.clk with freeze := some frz, modPhase := 5 } }) (fun t => (t.clk.ref, t.clk.modPhase, t.clk.modtick)) = some (1001, 5, 10000) := by decide +kernel
/-- DivisionCornersAndAlignment. -/
theorem wit_div_zero : Runs up .headland L ∧ getG (fetched up L) L 0 = 0 := ⟨wit_runs_up, by decide⟩
theorem wit_div_minus_one : after (exec (.div .headland 4 2 3) { legalReg 2 0x80000000 with legal := { up.legal with bank := { up.legal.bank with g := (up.legal.bank.g.set 2 0x80000000).set 3 0xFFFFFFFF } } })
    (fun t => (getG t L 2, getG t L 3, getG t L 4)) = some (0x80000000, 0xFFFFFFFF, 0x80000000) := by decide +kernel
theorem wit_align_2 : (getG (fetched up L) L 1 + BitVec.signExtend 32 (0 : Imm16)).toNat % 2 ≠ 0 := by decide +kernel
theorem wit_align_4 : (getG (fetched up L) L 2 + BitVec.signExtend 32 (0 : Imm16)).toNat % 4 ≠ 0 := by decide +kernel
/-- ProductsAndQuotientsAreExact: a divisor that is not 0. -/
theorem wit_divisor : getG (fetched up L) L 3 ≠ 0 := by decide +kernel
/-- LoadsAndStoresMoveLittleEndianBytes at the last bytes of Headland data. -/
theorem wit_load_last : ∀ n ∈ [1, 2, 4], let ad : Word := getG (fetched (legalReg 1 0x100000) L) L 1 + BitVec.signExtend 32 (BitVec.ofInt 16 (-n))
    ad.toNat < 2 ^ 31 ∧ ad.toNat % n.toNat = 0 ∧ (∀ i < n.toNat, grant (fetched (legalReg 1 0x100000) L) L (ad.toNat + i) false = .ok ∧ grant (fetched (legalReg 1 0x100000) L) L (ad.toNat + i) true = .ok) ∧
    errsOf (fetched (legalReg 1 0x100000) L) L = [] ∧ Mem.wf (dmemOf (fetched (legalReg 1 0x100000) L) L) = true := by decide +kernel
/-- BranchesAndJumpsSetPc: a target that is a multiple of 4. -/
theorem wit_jalr : (getG (fetched up L) L 4 + BitVec.signExtend 32 (0 : Imm16)).toNat % 4 = 0 := by decide +kernel
/-- AccessWithoutRightRaises: the OPEN world at the last LEGAL word, the LEGAL world at the first byte beyond. -/
theorem wit_world : ∃ k < 4, grant (fetched upOpen O) O (0x7FFFC + k) false = .world := by decide +kernel
theorem wit_daccess : grant (fetched up L) L 0x100000 true = .no := by decide +kernel
/-- DataRightsFollowTheMaps at the ends of the ranges. -/
theorem wit_rights :
    grant up E 0x7FFFF true = .ok ∧ grant up E 0x80000 true = .no ∧ grant up E 0x80010000 false = .ok ∧ grant up E 0x8003FFFF false = .ok ∧ grant up E 0x80040000 false = .no ∧
    grant up (.slot .ebb 3) 0x78000 true = .ok ∧ grant up (.slot .ebb 3) 0x7FFFF true = .ok ∧ grant up (.slot .ebb 2) 0x78000 true = .no ∧ grant up (.slot .ebb 0) 0x5C000 false = .ok ∧
    grant up O 0x7FFFF false = .world ∧ grant up O 0x80000 true = .ok ∧ grant up O 0x803AFFFF true = .ok ∧ grant up O 0x80140000 true = .no ∧ grant up L 0x803B0000 false = .no := by decide +kernel
/-- MramWindowReadsAndWritesWords: the last word of the OPEN data. -/
theorem wit_mram : ∀ k < 4, grant (fetched up L) L (0x803AFFFC + k) false = .ok ∧ grant (fetched upOpen O) O (0x803AFFFC + k) true = .ok ∧ regionOf 0x3AFFFC = .opendata ∧
    errsOf (fetched up L) L = [] ∧ Mem.wf up.mram = true ∧ regionOf 0x3AFFFC ≠ .calib := by decide +kernel
theorem test_mram_store_load : after (exec (.sw .headland 5 1 0xFFFC) (legalReg 1 0x803B0000))
    (fun t => after (exec (.lw .headland 6 1 0xFFFC) t) fun r => (getG r L 6, Mem.read r.mram 0x3AFFFC)) = some (some (15, 15)) := by decide +kernel

/-! ### The lanes -/

/-- `upLane` with vector registers v1, v2 and accumulator a0. -/
def upVec : State :=
  { upLane with ebb := { upLane.ebb with vec := { v := ((List.replicate 16 (List.replicate 8 (0 : Word))).set 1 [0x7FFFFFFF, 1, 2, 3, 4, 5, 6, 0xFFFFFFFF]).set 2 (List.replicate 8 2),
                                                  a := (List.replicate 4 (List.replicate 8 (0 : Acc))).set 0 (List.replicate 8 5) } } }

theorem test_vec_runs : ctxOf upVec .ebb = some E ∧ fetchExc upVec E = none ∧ (getV upVec E 1).length = 8 := by decide +kernel
theorem test_vadds : after (exec (.vadds .ebb 3 1 2) upVec) (fun t => getV t E 3) = some [0x7FFFFFFF, 3, 4, 5, 6, 7, 8, 1] := by decide +kernel
theorem test_vclt : after (exec (.vclt .ebb 9 1 2) upVec) (fun t => getG t E 9) = some 0x82 := by decide +kernel
theorem test_vrot : after (exec (.vrot .ebb 3 1 1) upVec) (fun t => getV t E 3) = some [1, 2, 3, 4, 5, 6, 0xFFFFFFFF, 0x7FFFFFFF] := by decide +kernel
theorem test_vext_illegal : after (exec (.vext .ebb 9 1 8) upVec) (fun t => (t.ebb.running, t.ebb.ctl.cause)) = some (false, 1) := by decide +kernel
theorem test_vdot : after (exec (.vdot .ebb 0 1 2) upVec) (fun t => getA t E 0) = some [0x100000000 + 43, 5, 5, 5, 5, 5, 5, 5] := by decide +kernel
theorem test_vacr : after (exec (.vacr .ebb 3 0 9 1) upVec) (fun t => (getV t E 3, getG t E 9)) = some (List.replicate 8 3, 0) := by decide +kernel
theorem test_vst_vld :
    after (exec (.vst .ebb 1 0 0x100) upVec) (fun t => after (exec (.vld .ebb 4 0 0x104) t) fun r => (getV r E 4).take 2) = some (some [1, 2]) := by decide +kernel
theorem test_vadd_headland : after (exec (.vadd .headland 3 1 2) upVec) (fun t => t.legal.ctl.cause) = some 1 := by decide +kernel

/-- `upLane` with a stream on channel 0 that holds an epoch item, its block and a second block; g7 = 49 selects channel 49. -/
def upStr : State :=
  { upLane with
    ebb := { upLane.ebb with bank := { upLane.ebb.bank with g := (upLane.ebb.bank.g.set 5 0).set 6 0x400 } }
    chs := upLane.chs.set 0 { Ch.zero with str := { Ch.zero.str with
      words := 4096, depth := 253, nextB := 2, epoch := some (List.replicate 16 7)
      items := [{ kind := 1, bseq := 0, bytes := List.replicate 16 7 }, { kind := 0, bseq := 0, bytes := List.replicate 80 1 },
        { kind := 0, bseq := 1, bytes := List.replicate 80 2 }] } } }

theorem test_str_runs : ctxOf upStr .ebb = some E ∧ fetchExc upStr E = none := by decide +kernel
theorem test_str_peek : after (exec (.strPeek .ebb 9 5) upStr) (fun t => getG t E 9) = some 0x31 := by decide +kernel
theorem test_str_pop : after (exec (.strPop .ebb 9 5 6) upStr)
    (fun t => (getG t E 9, (chan t 0).str.posE, Mem.read t.ebb.dmem 0x400, Mem.read t.ebb.dmem 0x410)) = some (1, 1, 7, 0) := by decide +kernel
theorem test_str_read : after (exec (.strRead .ebb 9 5 6) upStr) (fun t => ((chan t 0).str.posE, Mem.read t.ebb.dmem 0x40F)) = some (0, 7) := by decide +kernel
theorem test_str_seek : after (exec (.strSeek .ebb 9 5 0) upStr) (fun t => (getG t E 9, (chan t 0).str.posE)) = some (0, 1) := by decide +kernel
theorem test_str_bad_selector : after (exec (.strTell .ebb 9 31) upStr) (fun t => (t.ebb.running, t.ebb.ctl.cause)) = some (false, 0x209) := by decide +kernel
theorem test_str_wait_stalls : after (exec (.strWait .ebb 7 6) { upStr with clk := { upStr.clk with modtick := 0x3FF } })
    (fun t => (t.ebb.stall, after (exec (.strWaitWake .ebb) t) fun r => r.ebb.stall)) = some (.wait 49 0x400, some (.wait 49 0x400)) := by decide +kernel
theorem test_str_wait_deadline : after (exec (.strWait .ebb 7 6) { upStr with clk := { upStr.clk with modtick := 0x400 } }) (fun t => t.ebb.bank.pc) = some 0x204 := by decide +kernel
theorem test_str_pop_in_slot :
    after (exec (.strPop .ebb 9 5 6) { upStr with ebb := { upStr.ebb with slotBank := { Bank.zero with pc := 0x30000 }, run := some { k := 0, start := 0, done := 0, aborted := 0 } } })
      (fun t => (t.ebb.running, t.ebb.ctl.cause, t.ebb.run.isSome)) = some (true, 6, false) := by decide +kernel
theorem test_frm_xemit : after (exec (.frmXemit .ebb 9 6) upStr)
    (fun t => ((pl t .ebb).xbuf.map (·.length), getG t E 9, t.ebb.bank.pc)) = some ([64], 0, 0x204) := by decide +kernel
set_option maxRecDepth 4000 in
theorem test_frm_emit_full :
    after (exec (.frmEmit .ebb 9 6) { upStr with pair := { upStr.pair with ebb := { upStr.pair.ebb with inbuf := List.replicate 128 [] } } })
      (fun t => (t.ebb.stall, t.ebb.bank.pc)) = some (.emit 9 6, 0x200) := by decide +kernel

/-! ### Records, channels, relief -/

/-- `s` with a record at 0x200 of LEGAL data memory, which g5 of the LEGAL world names. -/
def withRec (ws : List Word) (s : State) : State :=
  { s with
    hl := { s.hl with dmem := Mem.writeN s.hl.dmem 0x200 (ws.flatMap fun w => le 4 w.toNat) }
    legal := { s.legal with bank := { s.legal.bank with g := s.legal.bank.g.set 5 0x200 } } }

/-- The statuses and words that an operation leaves: g1, and a word of the record. -/
def g1 (t : State) : Word := getG t L 1
def rec (t : State) (i : Nat) : Word := Mem.word t.hl.dmem (0x200 + 4 * i)

theorem test_issues_cap : Issues (withRec [10] up) .headland 5 .cap .laneRead 10 L [10, 0, 0, 0, 0, 0, 0, 0, 0, 0] :=
  ⟨⟨by decide +kernel, by decide⟩, by decide +kernel, by decide +kernel, by decide +kernel, by decide +kernel, by decide⟩
theorem test_cap_read : after (exec (.capRead .headland 5) (withRec [10] up)) (fun t => (g1 t, rec t 2, rec t 3)) = some (0, 0x00208074, 0x00842008) := by decide +kernel
theorem test_record_align : after (exec (.capRead .headland 5) (legalReg 5 0x202)) (fun t => (t.legal.ctl.cause, t.legal.ctl.eaddr)) = some (3, 0x202) := by decide +kernel
theorem case_record_mram : after (exec (.capRead .headland 5) (legalReg 5 0x80390000)) (fun t => t.legal.ctl.cause) = some 4 := by decide +kernel
theorem test_cfgin : after (exec (.chnCfgin .headland 5) (withRec [3, 7, 0x8D] up)) (fun t => (g1 t, (chan t 7).input, (chan t 7).fast.tf)) = some (0, 0x8D, 10001) := by decide +kernel
theorem test_cfgin_range : after (exec (.chnCfgin .headland 5) (withRec [3, 7, 0x86] up)) (fun t => (g1 t, (chan t 7).input)) = some (6, 0) := by decide +kernel
theorem test_cfgch : after (exec (.chnCfgch .headland 5) (withRec [6, 7, 0x10000008, 0x00410000, 5000, 15624] up)) (fun t => (g1 t, (chan t 7).cfg1)) = some (0, 0x00410000) := by decide +kernel
theorem test_stop_order : after (exec (.chnStop .headland 5) (withRec [2, 7] up)) g1 = some 7 := by decide +kernel
theorem test_relief_query : after (exec (.chnReliefQuery .headland 5) (withRec [3, 2] up)) (fun t => (g1 t, rec t 2)) = some (0, 0) := by decide +kernel
theorem test_relief_pause_order : after (exec (.chnReliefPause .headland 5) (withRec [3, 0x102] up)) g1 = some 7 := by decide +kernel

/-- Cluster 2 rotates; channel 24 converts. -/
def upRelief (c : Cluster) : State :=
  { up with chs := up.chs.set 24 { Ch.zero with input := 0x80, chain := { Chain.zero with st := 2 } }, clus := up.clus.set 2 c }

def slot2 : Cluster := { Cluster.zero with on := true, start := 1000 }

theorem test_relief_slot_start :
    after (exec (.reliefSlotStart 2 7 (536870912, -536870912) 5) (upRelief { slot2 with next := some 10000 })) (fun t => ((clu t 2).phase, (clu t 2).start, (clu t 2).cal.map fun c => [c.1, c.2.1, c.2.2.1, c.2.2.2])) =
      some (1, 10000, some [7, 536870912, -536870912, 5]) := by decide +kernel
/-- Levels of half the span call for a gain trim of 1, beyond ±0.125 (02 Table 2.9, R58). -/
theorem test_relief_lost :
    after (exec (.reliefConnect 2) (upRelief { slot2 with phase := 1, cal := some (0, 268435456, -268435456, 0) })) (fun t => ((clu t 2).stopped, (clu t 2).phase)) = some (true, 6) := by decide +kernel
theorem test_relief_take_over :
    after (exec (.reliefTakeOver 2 true 408 12) (upRelief { slot2 with phase := 2, cmpAt := 0, first := 0 }))
      (fun t => (now t, (clu t 2).phase, carrier t 24)) = some (400000, 3, 1) := by decide +kernel
theorem test_relief_mismatch :
    after (exec (.reliefTakeOver 2 true 5001 12) (upRelief { slot2 with phase := 2 })) (fun t => ((clu t 2).phase, (chan t 24).aborts)) = some (6, 1) := by decide +kernel
theorem test_relief_handback :
    after (exec (.reliefHandback 2 true 4 3 ) (upRelief { slot2 with phase := 5, mj := some (17232, 7), driftG := -406 }))
      (fun t => ((clu t 2).phase, (trimRec t 2 0 0).g, (trimRec t 2 0 0).gen, (trimRec t 2 0 0).drift)) = some (6, 17232, 1, -406) := by decide +kernel
theorem test_cluster_start : after (exec (.clusterStart 3) { up with clk := { up.clk with mode := 1, modtick := 10 } }) (fun t => (now t, (clu t 3).on)) = some (300, true) := by decide +kernel
theorem test_overload : after (exec (.overloadStart 24 true) (upRelief slot2)) (fun t => ((clu t 2).dist, (sticky t 24), t.ldg.subSeq)) = some (true, 1, 1) := by decide +kernel
/-- The fast path of channel 127 with 126 bits of ones behind it, armed for a rising crossing since a value of −20,480; 64 more ones give 20,480 and a crossing half way (03 R92, R93). -/
def upFast : State :=
  { up with bsclk := List.replicate 4 true
            chs := up.chs.set 127 { Ch.zero with input := 0x380, cfg1 := 0x8000, fast := { tf := 200, first := 0, n := 200, bits := List.replicate 126 true, spBits := [], value := some (-20480, 0), arm := 1 } } }
theorem test_zero_crossing : after (exec (.zeroCrossing 127 1 (List.replicate 64 true) []) upFast) (fun t => (now t, (chan t 127).fast.value, (chan t 127).zc.head?)) =
    some (13000, some (20480, 0), some (true, 200 + 64 * 199 - 95 + 32)) := by decide +kernel
theorem test_ring_release :
    after (exec (.ringRelease 24) { up with chs := up.chs.set 24 { Ch.zero with str := { Stream.zero with ended := some 0, words := 2048 } } })
      (fun t => ((chan t 24).str.words, now t)) = some (0, 1024000) := by decide +kernel

/-! ### Witnesses for state words, worlds, slots, watchdogs (04) -/

/-- `upLane` with slot 1 present and due, and slot 1 running. -/
def upDue : State := { upLane with ebb := { upLane.ebb with slots := upLane.ebb.slots.set 1 { Slot.zero with present := true, entry := 0x34000, budget := 40, lastStart := 6000 } } }
def upSlot : State :=
  { upDue with ebb := { upDue.ebb with slotBank := { Bank.zero with pc := 0x34000 }, run := some { k := 1, start := 0, done := 0, aborted := 0 }, ctl := { Ctl.zero with cycles := 30 } } }
theorem wit_runs_slot : Runs upSlot .ebb (.slot .ebb 1) := ⟨by decide +kernel, by decide⟩

theorem test_mfs_core : after (exec (.mfs .ebb 9 9) upSlot) (fun t => getG t (.slot .ebb 1) 9) = some 16 := by decide +kernel
theorem test_mfs_exc : after (exec (.mfs .headland 4 4) { up with legal := { up.legal with ctl := { up.legal.ctl with eccCorr := 3, active := true } } })
    (fun t => getG t L 4) = some 0x301 := by decide +kernel
theorem test_mts_ro : after (exec (.mts .headland 2 15) up) (fun t => (t.legal.ctl.cause, t.legal.bank.pc)) = some (6, 0x100) := by decide +kernel
theorem test_mts_gate_n : after (exec (.mts .headland 2 11) (legalReg 2 0x3F)) (fun t => t.hl.gateN) = some 32 := by decide +kernel
/-- OpenControlRunsAndRestartsTheOpenWorld: RUN alone, RESTART. -/
theorem wit_open_ctl : (getG (fetched (legalReg 2 1) L) L 2).getLsbD 1 = false ∧ (getG (fetched (legalReg 2 2) L) L 2).getLsbD 1 = true ∧
    Runs upOpen .headland (.world .opn) := ⟨by decide +kernel, by decide +kernel, wit_runs_open⟩
theorem test_open_run : after (exec (.openRun .headland 2) { legalReg 2 1 with hl := { up.hl with loaded := true } }) (fun t => t.hl.run) = some true := by decide +kernel
theorem test_open_restart : after (exec (.openRestart .headland 2) { legalReg 2 2 with hl := { up.hl with run := true } })
    (fun t => (t.hl.restarts, t.opn.released, t.opn.bank.g.head?)) = some (1, false, some 0) := by decide +kernel
/-- WorldExceptionEntryAndReturn: inside the code at its first and last word, and not. -/
theorem wit_evec : (worldSt up .legal).ctl.active = false ∧ (worldSt up .legal).ctl.evec.toNat < 0x40000 ∧ (worldSt up .opn).ctl.active = false ∧
    0x40000 ≤ (worldSt up .opn).ctl.evec.toNat ∧ (worldSt up .opn).ctl.evec.toNat < 0x80000 := by decide +kernel
theorem test_double_fault_open : after (exec (.trap .headland 0) { upOpen with opn := { up.opn with ctl := { up.opn.ctl with evec := 0x3FFFC } } })
    (fun t => (t.hl.restarts, t.legal.ctl.evpend.getLsbD 18)) = some (1, true) := by decide +kernel
theorem case_double_fault_legal : after (exec (.trap .headland 0) { up with legal := { up.legal with ctl := { up.legal.ctl with active := true } } })
    (fun t => (t.hl.restarting, t.legal.released, t.opn.released)) = some (true, false, false) := by decide +kernel
theorem test_eret : after (exec (.eret .headland) { up with legal := { up.legal with ctl := { up.legal.ctl with active := true, epc := 0x80 } } })
    (fun t => (t.legal.bank.pc, t.legal.ctl.active)) = some (0x80, false) := by decide +kernel
/-- TrapFenceAndWrongContexts. -/
theorem wit_trap : (worldSt up .legal).ctl.active = false ∧ inCode .legal (worldSt up .legal).ctl.evec = true ∧ (pl upLane .ebb).st ∈ [1, 2, 5, 7] ∧
    isWorld E = false ∧ isWorld L = true ∧ isSlot (.slot .ebb 1) = true ∧ isRef E = true := by decide +kernel
theorem case_trap_lane : after (exec (.trap .ebb 3) upLane) (fun t => (t.ebb.running, t.ebb.ctl.cause, t.ebb.ctl.epc, t.pair.active)) = some (false, 0x30B, 0x200, .flood) := by decide +kernel
theorem test_decode : decodeInstr .headland true 0x28BFFE01 = some (.addi .headland 5 2 0xFFF8) ∧ decodeInstr .ebb true 0x314E00B8 = some (.strPop .ebb 6 5 7) ∧
    decodeInstr .headland true 0x314E00B8 = none ∧ decodeInstr .headland true 0x2000117C = some (.chnStart .headland 4) := by decide +kernel
def upStores : State := { up with unfenced := [{ world := .legal, off := 0x60000, old := [0], new := [7] }, { world := .opn, off := 0x60004, old := [0], new := [9] }] }
theorem test_fence_stores : after (exec (.fence .headland) upStores) (fun t => t.unfenced.map (·.off)) = some [0x60004] := by decide +kernel
theorem test_supply_loss_stores : after (exec .supplyLoss upStores) (fun t => t.unfenced.length) = some 0 := by decide +kernel
theorem test_fence : after (exec (.fence .headland) up) (fun t => t.legal.bank.pc) = some 0x44 := by decide +kernel
/-- WaitForEventCompletesWithTheEvents: events, none, a waiting world, the switch. -/
def upEv (w : Word) (waiting : Bool) (s : State) : State :=
  { s with legal := { s.legal with waiting := waiting, ctl := { s.legal.ctl with evpend := w, evmask := 0x60001 } } }
theorem wit_wfe : ((worldSt (upEv 1 false up) .legal).ctl.evpend &&& (worldSt (upEv 1 false up) .legal).ctl.evmask) ≠ 0 ∧
    ((worldSt (upEv 2 false up) .legal).ctl.evpend &&& (worldSt (upEv 2 false up) .legal).ctl.evmask) = 0 ∧
    Runs (upEv 1 false up) .headland L := ⟨by decide +kernel, by decide +kernel, by decide +kernel, by decide⟩
theorem wit_wfe_wake : (worldSt (upEv 1 true upOpen) .legal).waiting = true ∧ (worldSt (upEv 1 true upOpen) .legal).released = true ∧ alive (upEv 1 true upOpen) = true ∧
    upOpen.opn.released = true ∧ upOpen.hl.run = true ∧ upOpen.opn.ctl.inGate = false ∧ upOpen.opn.waiting = false := by decide +kernel
theorem test_wfe_wake : after (exec (.wfeWake .legal) (upEv 1 true upOpen)) (fun t => (t.legal.waiting, getG t L 1, t.legal.bank.pc, t.legal.ctl.evpend)) = some (false, 1, 0x44, 1) := by decide +kernel
theorem test_world_switch : after (exec .worldSwitch (upEv 1 true upOpen)) (fun t => (ctxOf t .headland, getG t L 1)) = some (some L, 1) := by decide +kernel
/-- GateCallAndReturn. -/
theorem wit_gate : (15 : Imm5).val < upOpen.hl.gateN ∧ Mem.wf (fetched upOpen O).hl.dmem = true ∧ upOpen.hl.gateN ≤ (16 : Imm5).val ∧
    up.legal.ctl.inGate = false ∧ up.opn.bank.g.length = 32 := by decide +kernel
theorem test_gate_beyond : after (exec (.gate .headland 16 true) upOpen) (fun t => t.opn.ctl.cause) = some 0x1007 := by decide +kernel
theorem test_gate_retg : after (exec (.gate .headland 3 true) upOpen) (fun t =>
    after (exec (.retg .headland) { t with legal := { t.legal with waiting := false } }) fun r => (r.opn.bank.pc, getG r O 1, getG r O 2, r.opn.ctl.inGate, r.legal.ctl.evpend)) =
      some (some (0x40044, 0, 10, false, 0)) := by decide +kernel
/-- SlotsRunWithinTheirBudget: a due slot (exactly 4000 ticks), none, a running one. -/
theorem wit_slots : Runs upDue .ebb E ∧ noSlots upDue .ebb = false ∧ ((lane upDue .ebb).slots.getD 1 Slot.zero).lastStart + 4000 = (upDue.clk.modtick : Int) :=
  ⟨⟨by decide +kernel, by decide⟩, by decide +kernel, by decide⟩
theorem wit_slot_time : (lane upSlot .ebb).run = some { k := 1, start := 0, done := 0, aborted := 0 } ∧ alive upSlot = true ∧ (lane upSlot .ebb).running = true ∧
    0 + ((lane upSlot .ebb).slots.getD 1 Slot.zero).budget < 2 ^ 63 ∧ (lane upSlot .ebb).ctl.cycles < 2 ^ 63 := by decide +kernel
theorem test_slots : after (exec (.slots .ebb) upDue) (fun t => (t.ebb.run.map (·.k), t.ebb.slotBank.pc, getG t (.slot .ebb 1) 2, getG t (.slot .ebb 1) 3)) =
    some (some 1, 0x34000, 1, 10000) := by decide +kernel
theorem test_slotend : after (exec (.slotend .ebb) upSlot) (fun t => (t.ebb.run, getG t E 1, t.ebb.bank.pc, (pl t .ebb).ended)) = some (none, 2, 0x204, [0, 1, 0, 0]) := by decide +kernel
theorem test_slot_time : after (exec (.slotTime .ebb) upSlot) (fun t => (t.ebb.ctl.cause, getG t E 1, (t.ebb.slots.getD 1 Slot.zero).fails)) = some (0x10A, 32, 1) := by decide +kernel
/-- WatchdogExpiryRestarts: one SYS cycle before the end. -/
def upDog : State := { upOpen with legal := { upOpen.legal with wdogCount := 1500159 }, opn := { upOpen.opn with wdogPeriod := 1, wdogCount := 1023 } }
theorem wit_watchdog : alive upDog = true ∧ upDog.legal.released = true ∧ upDog.legal.wdogPeriod ≠ 0 ∧ upDog.opn.wdogPeriod ≠ 0 ∧ worldOf upDog = some .opn := by decide +kernel
theorem test_legal_watchdog : after (exec .legalWatchdogExpiry upDog) (fun t => (t.clk.ref, t.legal.released, t.hl.restarting, t.hl.grantLost, t.ldg.subSeq)) =
    some (1001, false, true, true, 1) := by decide +kernel
theorem test_open_watchdog : after (exec .openWatchdogExpiry upDog) (fun t => (t.clk.ref, t.opn.wdogPeriod, t.hl.restarts, t.legal.ctl.evpend.getLsbD 18)) =
    some (1001, 0, 1, true) := by decide +kernel
/-- OpenWorldCannotChangeLegalState: a store to LEGAL data raises WORLD. -/
theorem wit_open_isolated : ctxOf upOpen .headland = some (.world .opn) ∧ upOpen.opn.ctl.active = false ∧ inCode .opn upOpen.opn.ctl.evec = true ∧ memWf upOpen = true ∧
    after (exec (.sw .headland 5 0 0x100) upOpen) (fun t => t.legal.bank) = some upOpen.legal.bank := by decide +kernel

/-! ### Witnesses for the lanes' statements (05) -/

theorem wit_vec : Runs upVec .ebb E ∧ isWorld E = false ∧ (7 : Imm5).val < 8 ∧ 8 ≤ (8 : Imm5).val ∧ isWorld L = true ∧ Runs up .headland L :=
  ⟨⟨by decide +kernel, by decide⟩, by decide +kernel, by decide +kernel, by decide +kernel, by decide +kernel, wit_runs_up⟩
theorem test_vmulq_rounds : after (exec (.vmulq .ebb 3 1 2) { upVec with ebb := { upVec.ebb with vec := { upVec.ebb.vec with v := upVec.ebb.vec.v.set 2 (List.replicate 8 0x40000000) } } })
    (fun t => getV t E 3) = some [0x40000000, 1, 1, 2, 2, 3, 3, 0] := by decide +kernel
theorem test_vabs_saturates : after (exec (.vabs .ebb 3 1) { upVec with ebb := { upVec.ebb with vec := { upVec.ebb.vec with v := upVec.ebb.vec.v.set 1 (List.replicate 8 0x80000000) } } })
    (fun t => (getV t E 3).head?) = some (some 0x7FFFFFFF) := by decide +kernel
theorem test_vmsb : after (exec (.vmsb .ebb 0 1 2) upVec) (fun t => (getA t E 0).getD 7 0) = some 7 := by decide +kernel
theorem test_ald_negative : after (exec (.ald .ebb 1 1 31) upVec) (fun t => (getA t E 1).getD 7 0) = some 0xFFFFFFFFFF80000000 := by decide +kernel
theorem test_vacr_limits : after (exec (.vacr .ebb 3 0 9 0) { upVec with ebb := { upVec.ebb with vec := { upVec.ebb.vec with a := upVec.ebb.vec.a.set 0 (List.replicate 8 0x80000000) } } })
    (fun t => ((getV t E 3).head?, getG t E 9)) = some (some 0x7FFFFFFF, 0xFF) := by decide +kernel
/-- VectorLoadsAndStoresMove32Bytes: the last 32 bytes of the lane's data, one word further, an odd address, the calibration table's last 32 bytes. -/
theorem wit_vld : let s := { upVec with ebb := { upVec.ebb with bank := { upVec.ebb.bank with g := upVec.ebb.bank.g.set 5 0x7FFE0 } } }
    let ad := getG (fetched s E) E 5 + BitVec.signExtend 32 (0 : Imm16)
    ad.toNat % 4 = 0 ∧ ad.toNat < 2 ^ 31 ∧ (∀ k < 32, grant (fetched s E) E (ad.toNat + k) false = .ok ∧ grant (fetched s E) E (ad.toNat + k) true = .ok) ∧
      errsOf (fetched s E) E = [] ∧ Mem.wf (dmemOf (fetched s E) E) = true ∧ (getV (fetched s E) E 1).length = 8 := by decide +kernel
theorem wit_vld_no : let ad : Word := 0x7FFE0 + BitVec.signExtend 32 (4 : Imm16)
    ad.toNat % 4 = 0 ∧ grant (fetched upVec E) E (ad.toNat + 31) true ≠ .ok ∧ (ad + 2).toNat % 4 ≠ 0 := by decide +kernel
theorem wit_vld_calib : isRef E = true ∧ (0x8003FFE0 : Word).toNat % 4 = 0 ∧ 0x80010000 ≤ (0x8003FFE0 : Word).toNat ∧ (0x8003FFE0 : Word).toNat + 32 ≤ 0x80040000 := by decide +kernel
/-- StreamInstructionsReadTheLanesPosition: a readable item, none, a lost position, a reserved bit, SEEK's answers, the epoch item. -/
theorem wit_stream : Runs upStr .ebb (.ref .ebb) ∧ (getG (fetched upStr E) E 5).toNat % 128 + 256 * ((getG (fetched upStr E) E 5).toNat / 256 % 2) = (getG (fetched upStr E) E 5).toNat ∧
    (getG (fetched upStr E) E 6).toNat % 4 = 0 ∧ (∀ k < 80, grant (fetched upStr E) E ((getG (fetched upStr E) E 6).toNat + k) true = .ok) ∧
    (chan upStr 0).str.base ≤ (chan upStr 0).str.posE ∧ ((chan upStr 0).str.items[0 - (chan upStr 0).str.base]?).isSome = true :=
  ⟨⟨by decide +kernel, by decide⟩, by decide +kernel, by decide +kernel, by decide +kernel, by decide +kernel, by decide⟩
def upStrAt (base pos : Nat) : State := { upStr with chs := upStr.chs.modify 0 fun c => { c with str := { c.str with base := base, posE := pos } } }
theorem test_str_lost : after (exec (.strTell .ebb 9 5) (upStrAt 5 4)) (fun t => (t.ebb.running, t.ebb.ctl.cause)) = some (false, 0x109) := by decide +kernel
theorem case_str_end : after (exec (.strPop .ebb 9 5 6) (upStrAt 5 8)) (fun t => (getG t E 9, (chan t 0).str.posE, t.ebb.dmem)) = some (0xF, 8, []) := by decide +kernel
theorem test_str_seek_future : after (exec (.strSeek .ebb 9 5 6) upStr) (fun t => (getG t E 9, (chan t 0).str.posE)) = some (1, 0) := by decide +kernel
theorem case_str_seek_gone : after (exec (.strSeek .ebb 9 5 5) { upStr with chs := upStr.chs.modify 0 fun c => { c with str := { c.str with items := [] } } })
    (fun t => getG t E 9) = some 2 := by decide +kernel
theorem case_str_tell : after (exec (.strTell .ebb 9 5) upStr) (fun t => getG t E 9) = some 0 := by decide +kernel
theorem test_str_epoch : after (exec (.strEpoch .ebb 9 5 6) upStr) (fun t => (getG t E 9, Mem.read t.ebb.dmem 0x40F)) = some (1, 7) := by decide +kernel
theorem test_str_epoch_none : after (exec (.strEpoch .ebb 9 5 6) { upStr with chs := upLane.chs }) (fun t => getG t E 9) = some 0 := by decide +kernel
/-- StreamWaitStallsUntilItemOrDeadline: an item ahead; a lane that waits, just before and at its deadline. -/
theorem wit_str_wait : 0 < strAhead (selStream upStr 0) .ebb := by decide +kernel
def upWait (m : Nat) : State := { upLane with ebb := { upLane.ebb with stall := .wait 49 0x400 }, clk := { upLane.clk with modtick := m } }
theorem wit_str_stalled : (lane (upWait 0x3FF) .ebb).stall = .wait 49 0x400 ∧ alive (upWait 0x3FF) = true ∧ (lane (upWait 0x3FF) .ebb).running = true ∧
    ¬(0 < strAhead (selStream (upWait 0x3FF) 49) .ebb ∨ (0x3FF % 2 ^ 32 + 2 ^ 32 - 0x400) % 2 ^ 32 < 2 ^ 31) := by decide +kernel
theorem test_str_wait_wake : after (exec (.strWaitWake .ebb) (upWait 0x400)) (fun t => (t.ebb.stall, t.ebb.bank.pc)) = some (.none, 0x204) := by decide +kernel
/-- FramesAreQueuedWithTheirCrc: room, none; the extension buffer's last place. -/
theorem wit_frames : isWorld E = false ∧ isRef E = true ∧ (getG (fetched upStr E) E 6).toNat % 4 = 0 ∧ (getG (fetched upStr E) E 6).toNat < 2 ^ 31 ∧
    (∀ k < 64, grant (fetched upStr E) E ((getG (fetched upStr E) E 6).toNat + k) false = .ok) ∧ errsOf (fetched upStr E) E = [] ∧ (pl upStr .ebb).inbuf.length < 128 := by decide +kernel
theorem test_frm_emit_crc : after (exec (.frmEmit .ebb 9 6) upStr) (fun t => ((pl t .ebb).inbuf.map (·.drop 60), getG t E 9)) =
    some ([le 4 (crc32c (List.replicate 60 0)).toNat], crc32c (List.replicate 60 0)) := by decide +kernel
theorem test_frm_xemit_full : after (exec (.frmXemit .ebb 9 6) { upStr with pair := { upStr.pair with ebb := { upStr.pair.ebb with xbuf := List.replicate 16 [] } } })
    (fun t => (getG t E 9, t.pair.xdrop)) = some (1, 1) := by decide +kernel
theorem test_frm_emit_unstall : after (exec (.frmEmitUnstall .ebb) { upStr with ebb := { upStr.ebb with stall := .emit 9 6 } })
    (fun t => (t.ebb.stall, (pl t .ebb).inbuf.length, t.ebb.bank.pc)) = some (.none, 1, 0x204) := by decide +kernel

/-! ### Witnesses for records, channels and the relief rotation (02, 03, 05) -/

/-- `Issues` as a truth value. -/
def issuesB (s : State) (c : CoreId) (rs : Reg) (un : UnitId) (need : Need) (len : Nat) (x : Ctx) (ws : List Word) : Bool :=
  decide (ctxOf s c = some x) && decide (fetchExc s x = none) && decide (recExc (fetched s x) x (getG (fetched s x) x rs) = none) &&
    decide (recWords (fetched s x) x (getG (fetched s x) x rs) = ws) && !absentUnit s un && permitted x un need && decide (bits (rw ws 0) 7 0 = len ∧ bits (rw ws 0) 27 16 = 0)

theorem issues_of {s : State} {c : CoreId} {rs : Reg} {un : UnitId} {need : Need} {len : Nat} {x : Ctx} {ws : List Word} (h : issuesB s c rs un need len x ws = true) :
    Issues s c rs un need len x ws := by
  simp only [issuesB, Bool.and_eq_true, decide_eq_true_eq, Bool.not_eq_true'] at h
  obtain ⟨⟨⟨⟨⟨⟨h1, h2⟩, h3⟩, h4⟩, h5⟩, h6⟩, h7⟩ := h
  exact ⟨⟨h1, h2⟩, h3, h4, h5, h6, h7⟩

/-- RecordRulesHoldForEveryOperation: an odd address; a record that the context cannot load, or load but not store; a good one, absent, without right, of wrong length. -/
theorem wit_record_bad : (getG (fetched (legalReg 5 0x202) L) L 5).toNat % 4 ≠ 0 ∧
    (let a := getG (fetched (legalReg 5 0x100000) L) L 5; a.toNat % 4 = 0 ∧ grant (fetched (legalReg 5 0x100000) L) L a.toNat false ≠ .ok) ∧
    (let a : Word := 0x5C000; a.toNat + 4 ≤ 2 ^ 31 ∧ (∀ i < 4, grant upSlot (.slot .ebb 1) (a.toNat + i) false = .ok) ∧ grant upSlot (.slot .ebb 1) a.toNat true ≠ .ok) := by decide +kernel
theorem wit_record_good : recExc (fetched (withRec [10] up) L) L (getG (fetched (withRec [10] up) L) L 5) = none ∧
    absentUnit { up with fuse := { up.fuse with variant := .fm } } .dpy = true ∧ absentUnit up .cap = false ∧ permitted E .bil .more = false ∧
    permitted L .cap .laneRead = true ∧ bits (rw [11] 0) 7 0 ≠ 10 := by decide +kernel
theorem case_record_slot_store : after (exec (.capRead .ebb 5) { upSlot with ebb := { upSlot.ebb with slotBank := { upSlot.ebb.slotBank with g := upSlot.ebb.slotBank.g.set 5 0x5C000 } } })
    (fun t => t.ebb.ctl.cause) = some 0x104 := by decide +kernel
theorem test_record_lane_denied : after (exec (.bilRdst .ebb 7) upLane) (fun t => t.ebb.ctl.cause) = some 3 := by decide +kernel
theorem test_record_absent : after (exec (.dpyRdst .headland 5) (withRec [6] { up with fuse := { up.fuse with variant := .fm } })) g1 = some 3 := by decide +kernel
theorem test_record_length : after (exec (.chnStop .headland 5) (withRec [3, 7] up)) g1 = some 6 := by decide +kernel
/-- ChannelConfigurationIsCheckedAndStored. -/
theorem wit_chn_cap : Issues (withRec [10] up) .headland 5 .cap .laneRead 10 L [10, 0, 0, 0, 0, 0, 0, 0, 0, 0] := issues_of (by decide +kernel)
theorem wit_chn_rdst : Issues (withRec [9, 127] up) .headland 5 .chn .laneRead 9 L [9, 127, 0, 0, 0, 0, 0, 0, 0] ∧ (127 : Word).toNat < 128 := ⟨issues_of (by decide +kernel), by decide⟩
theorem wit_chn_cfgin : Issues (withRec [3, 95, 0x85] up) .headland 5 .chn .more 3 L [3, 95, 0x85] ∧ (0x85 : Word) &&& 0xFFFFF040 = 0 ∧ bits (0x85 : Word) 2 0 ≤ 5 ∧ bits (0x85 : Word) 5 3 ≤ 3 ∧
    bits (0x85 : Word) 10 8 = 0 ∧ (chan up 95).chain.st = 0 ∧ (chan up 95).chain.again ≠ 1 := ⟨issues_of (by decide +kernel), by decide⟩
theorem case_cfgin_bsi_gain : after (exec (.chnCfgin .headland 5) (withRec [3, 96, 0x81] up)) g1 = some 6 := by decide +kernel
theorem case_cfgin_running : after (exec (.chnCfgin .headland 5) (withRec [3, 24, 0x81] (upRelief slot2))) g1 = some 7 := by decide +kernel
theorem wit_chn_cfgch : Issues (withRec [6, 7, 0x10000008, 0x00410000, 700000, 63] up) .headland 5 .chn .more 6 L [6, 7, 0x10000008, 0x00410000, 700000, 63] ∧
    bits (700000 : Word) 19 0 ≤ 700000 ∧ 63 ≤ bits (63 : Word) 17 0 ∧ bits (0x10000008 : Word) 27 20 = 0 ∧ (0x10000008 : Word) = (chan up 7).cfg0 ∧
    (0x00410000 : Word).getLsbD 12 = (chan up 7).cfg1.getLsbD 12 := ⟨issues_of (by decide +kernel), by decide⟩
theorem test_cfgch_surge_fm : after (exec (.chnCfgch .headland 5) (withRec [6, 7, 0x10000008, 0x00401000, 5000, 15624] { up with fuse := { up.fuse with variant := .fm } })) g1 = some 3 := by decide +kernel
theorem case_cfgch_range : after (exec (.chnCfgch .headland 5) (withRec [6, 7, 0x10000008, 0x00400000, 999, 15624] up)) g1 = some 6 := by decide +kernel
theorem case_cfgch_order : after (exec (.chnCfgch .headland 5) (withRec [6, 24, 0x00000008, 0x00400000, 5000, 15624] (upRelief slot2))) g1 = some 7 := by decide +kernel
theorem wit_chn_clro : Issues (withRec [2, 24] up) .headland 5 .chn .more 2 L [2, 24] ∧ (chan up 24).stuck = false ∧ (∀ o ∈ (chan up 24).overs, o.stop ≠ none) := ⟨issues_of (by decide +kernel), by decide⟩
def upOver : State := { upRelief slot2 with chs := (upRelief slot2).chs.modify 24 fun c => { c with overs := [{ start := 9000, stop := none, pos := true }] } }
theorem wit_chn_over : ∃ o ∈ (chan upOver 24).overs, o.stop = none := ⟨{ start := 9000, stop := none, pos := true }, by decide +kernel, rfl⟩
theorem test_clro_order : after (exec (.chnClro .headland 5) (withRec [2, 24] upOver)) g1 = some 7 := by decide +kernel
theorem test_clro_drift : after (exec (.chnClro .headland 5) (withRec [2, 24] { up with mram := Mem.writeN [] 0x367A0 [0x0F, 0x1F] })) (fun t => (g1 t, sticky t 24)) = some (0, 0xC) := by decide +kernel
/-- A SPRING bank that passes everything: SCALE 1, one tap of 1. -/
def flatBank : List Word := [1, 0x40000000, 0] ++ List.replicate 16 0 ++ [0x400000] ++ List.replicate 76 0

theorem tapSum_s2 (k : Nat) : tapSum { taps := symTaps (halfBand 11 Config.s2Tap), half := true, sh := k } = 2 ^ 22 := by
  have h : (List.range (11 - 1)).filter (fun i => (11 - i) % 2 == 1) = [0, 2, 4, 6, 8] := by decide +kernel
  have r : List.range (11 + 1) = [0, 1, 2, 3, 4, 5, 6, 7, 8, 9, 10, 11] := by decide +kernel
  simp only [tapSum, symTaps, halfBand, h, r, List.map, List.foldl, List.dropLast, List.reverse, List.reverseAux, List.cons_append, List.nil_append]
  simp
  omega

theorem tapSum_s3 (k : Nat) : tapSum { taps := symTaps (halfBand 15 Config.s3Tap), half := true, sh := k } = 2 ^ 22 := by
  have h : (List.range (15 - 1)).filter (fun i => (15 - i) % 2 == 1) = [0, 2, 4, 6, 8, 10, 12] := by decide +kernel
  have r : List.range (15 + 1) = [0, 1, 2, 3, 4, 5, 6, 7, 8, 9, 10, 11, 12, 13, 14, 15] := by decide +kernel
  simp only [tapSum, symTaps, halfBand, h, r, List.map, List.foldl, List.dropLast, List.reverse, List.reverseAux, List.cons_append, List.nil_append]
  simp
  omega

/-- ChainsLoadStopAndStart. -/
def upService : State := { up with clk := { up.clk with mode := 4 }, chs := up.chs.set 7 { Ch.zero with input := 0x80, bank := flatBank, cfg0 := 8 } }
theorem wit_ldcoef : Issues (withRec [3, 0x107] upService) .headland 5 .chn .more 3 L [3, 0x107, 0] ∧ (0x107 : Word) &&& 0xFFFFF080 = 0 ∧ bits (0x107 : Word) 11 8 = 1 ∧
    upService.clk.mode = 4 ∧ (chan upService 7).chain.st = 0 ∧ (chan upService 7).chain.again ≠ 1 ∧ upService.chs.length = 128 := ⟨issues_of (by decide +kernel), by decide⟩
theorem test_ldcoef_order : after (exec (.chnLdcoef .headland 5) (withRec [3, 0x107] up)) g1 = some 7 := by decide +kernel
theorem test_ldcoef : after (exec (.chnLdcoef .headland 5) (withRec [3, 0x307] upService)) (fun t => (g1 t, (chan t 7).bank.getD 0 0, t.ldg.subSeq)) = some (0, (romBank 2).getD 0 0, 1) := by decide +kernel
def upRun7 : State := { upService with chs := upService.chs.modify 7 fun c => { c with chain := { Chain.zero with st := 2, preset := 0 }, str := { Stream.zero with words := 4096, depth := 253 } } }
theorem wit_stop : Issues (withRec [2, 7] upRun7) .headland 5 .chn .more 2 L [2, 7] ∧ (chan upRun7 7).chain.st ≠ 0 ∧ (chan upRun7 7).chain.ending = none ∧ (chan upRun7 7).str.blk = [] :=
  ⟨issues_of (by decide +kernel), by decide⟩
theorem case_stop : after (exec (.chnStop .headland 5) (withRec [2, 7] upRun7)) (fun t => (g1 t, (chan t 7).chain.st, (chan t 7).str.ended.isSome, t.ldg.subSeq)) = some (0, 0, true, 1) := by decide +kernel
theorem wit_start : Issues (withRec [5, 7] upService) .headland 5 .chn .more 5 L [5, 7, 0, 0, 0] ∧ chEnabled (chan upService 7) = true ∧
    bits ((chan upService 7).bank.getD 0 0) 9 8 = chPreset (chan upService 7) ∧ ringSum upService + ringWords (chPreset (chan upService 7)) ≤ 262144 :=
  ⟨issues_of (by decide +kernel), by decide +kernel⟩
theorem wit_start_scale : scaleOk (chan upService 7) = true := by
  have h : chan upService 7 = { Ch.zero with input := 0x80, bank := flatBank, cfg0 := 8 } := by rfl
  rw [h]
  simp only [scaleOk, stagesOf, chPreset, List.cons_append, List.nil_append, List.foldl, tapSum_s2, tapSum_s3]
  decide
theorem wit_start_full : 262144 < ringSum { upService with chs := upService.chs.set 8 { Ch.zero with str := { Stream.zero with words := 258049 } } } + 4096 := by decide +kernel
theorem test_start_order : after (exec (.chnStart .headland 5) (withRec [5, 8] upService)) g1 = some 7 := by decide +kernel
/-- ReliefPausesAndClustersStart. -/
theorem wit_relief : Issues (withRec [3, 0x207] up) .headland 5 .chn .read 3 L [3, 0x207, 0] ∧ Issues (withRec [3, 0x108] upService) .headland 5 .chn .read 3 L [3, 0x108, 0] ∧
    (0x207 : Word) &&& 0xFFFFFC80 = 0 ∧ bits (0x207 : Word) 6 0 < 8 := ⟨issues_of (by decide +kernel), issues_of (by decide +kernel), by decide⟩
def upPause (c : Cluster) : State := { upService with clus := upService.clus.set 2 c }
theorem test_relief_pause : after (exec (.chnReliefPause .headland 5) (withRec [3, 0x102] (upPause { slot2 with phase := 2 }))) (fun t => (g1 t, (clu t 2).paused)) = some (0, true) := by decide +kernel
theorem case_relief_pause_carrying : after (exec (.chnReliefPause .headland 5) (withRec [3, 0x102] (upPause { slot2 with phase := 3 })))
    (fun t => (g1 t, (clu t 2).pausing, (clu t 2).paused)) = some (0, true, false) := by decide +kernel
theorem test_relief_resume : after (exec (.chnReliefResume .headland 5) (withRec [3, 0x202] (upPause { slot2 with slot := 11, paused := true })))
    (fun t => (g1 t, (clu t 2).slot, (clu t 2).next)) = some (0, 0, some 10000) := by decide +kernel
theorem test_relief_range : after (exec (.chnReliefQuery .headland 5) (withRec [3, 0x108] upService)) g1 = some 6 := by decide +kernel
theorem wit_cluster_start : let s := { up with clk := { up.clk with mode := 1, modtick := 10 } }
    alive s = true ∧ s.clk.mode = 1 ∧ (100 * (7 : ClusterId).val) ≤ now (dueTick s (100 * (7 : ClusterId).val)) := by decide +kernel
theorem test_bsclk : after (exec (.bsclkStart 3) { up with clk := { up.clk with mode := 1, modtick := 10 } }) (fun t => (now t, t.bsclk)) = some (1100, [false, false, false, true]) := by decide +kernel
/-- ReliefSlotRunsItsPhases: its standing premises, and each phase's instant. -/
theorem wit_relief_slot : let s := upRelief { slot2 with phase := 2, cmpAt := 0 }
    s.clus.length = 8 ∧ s.chs.length = 128 ∧ alive s = true ∧ (clu s 2).on = true ∧ (clu s 2).slot < 12 ∧ (clu s 2).dirty = false ∧ (clu s 2).parked = false ∧
      cleanNow s 2 = true ∧ s.clk.fallback = none ∧ chGain (chan s 24) < 6 := by decide +kernel
theorem test_relief_connect : after (exec (.reliefConnect 2) (upRelief { slot2 with phase := 1, cal := some (7, 536870912, -536870912, 0) }))
    (fun t => (now t, (clu t 2).phase, (clu t 2).first, (trimRec t 2 12 0).g, (trimRec t 2 12 0).o, (trimRec t 2 12 0).gen)) = some (801000, 2, 805000, 0, 7, 1) := by decide +kernel
theorem test_relief_connect_skip : after (exec (.reliefConnect 2) (upRelief { slot2 with phase := 1, skip := true })) (fun t => (clu t 2).phase) = some 6 := by decide +kernel
theorem test_relief_timeout : after (exec (.reliefTakeoverTimeout 2) (upRelief { slot2 with phase := 2, first := 5 })) (fun t => (now t, (clu t 2).phase, (chan t 24).aborts)) = some (4000005, 6, 1) := by decide +kernel
theorem test_relief_mj : after (exec (.reliefMjReconnect 2 7 (536870912, -536870912) 0) (upRelief { slot2 with phase := 3 })) (fun t => (now t, (clu t 2).phase, (clu t 2).mj)) = some (7205000, 4, some (0, 7)) := by decide +kernel
theorem test_relief_mj_retired : after (exec (.reliefMjReconnect 2 0 (0, 0) 0) (upRelief { slot2 with phase := 3 })) (fun t => ((clu t 2).retired, (clu t 2).stopped)) = some (some 0, true) := by decide +kernel
theorem test_relief_trim : after (exec (.reliefTrimApply 2 true (-406)) (upRelief { slot2 with phase := 4, mj := some (17232, 7) })) (fun t => ((clu t 2).phase, (clu t 2).driftG)) = some (5, -406) := by decide +kernel
theorem test_relief_handback_first : after (exec (.reliefHandback 2 true 201 3) (upRelief { slot2 with phase := 5, mj := some (17232, 7) })) (fun t => ((clu t 2).phase, (clu t 2).second)) = some (3, true) := by decide +kernel
theorem test_relief_60s : after (exec (.reliefWait60s 2) (upRelief { slot2 with phase := 5, first := 7 })) (fun t => (now t, (clu t 2).held60, t.ldg.subSeq)) = some (240200007, true, 1) := by decide +kernel
theorem test_relief_slot_end : after (exec (.reliefSlotEnd 2) (upRelief { slot2 with slot := 11, phase := 6 })) (fun t => (now t, (clu t 2).slot, (clu t 2).next)) = some (8001000, 0, some 8001000) := by decide +kernel
/-- OverloadsAndCrossingsReachTheChannel. -/
theorem wit_over : let s := upRelief slot2
    s.chs.length = 128 ∧ s.clus.length = 8 ∧ alive s = true ∧ Mem.wf s.mram = true ∧ chRuns s 24 = true ∧ (∀ o ∈ (chan s 24).overs, o.stop ≠ none) := by decide +kernel
theorem test_overload_end : after (exec (.overloadEnd 24) upOver) (fun t => ((chan t 24).overs.map (·.stop), (chan t 24).clamp)) = some ([some 10000], true) := by decide +kernel
def upClamp : State := { upRelief { slot2 with dist := true } with chs := (upRelief slot2).chs.modify 24 fun c => { c with overs := [{ start := 9000, stop := some 10010, pos := true }], clamp := true } }
theorem wit_clamp : (chan upClamp 24).clamp = true ∧ (∀ o ∈ (chan upClamp 24).overs, o.stop ≠ none) ∧ overEnd (chan upClamp 24) + 16 ≤ now (dueTick upClamp (overEnd (chan upClamp 24) + 16)) ∧
    (clu upClamp 2).dist = true ∧ ∀ j < 12, overEnd (chan upClamp (24 + j)) ≤ 10010 := by decide +kernel
theorem test_clamp : after (exec (.integratorClampRelease 24) upClamp) (fun t => (now t, (chan t 24).clamp)) = some (10026, false) := by decide +kernel
theorem test_disturbance_end : after (exec (.clusterDisturbanceEnd 2) upClamp) (fun t => (now t, (clu t 2).dist)) = some (10090, false) := by decide +kernel
def upBsi : State := { up with bsclk := List.replicate 4 true, chs := up.chs.set 127 { Ch.zero with input := 0x380, chain := { Chain.zero with st := 2 } } }
theorem wit_bsi : chRuns upBsi 127 = true ∧ (chan upBsi 127).stuck = false := by decide +kernel
theorem test_bsi_stuck : after (exec (.bsiStuck 127 true) upBsi) (fun t => ((chan t 127).stuck, sticky t 127, (chan t 127).overs.length)) = some (true, 3, 1) := by decide +kernel
theorem wit_crossing : chRuns upFast 127 = true ∧ (List.replicate 64 true).length = 64 ∧ spOn upFast 127 = false ∧ 189 ≤ 2 * (chan upFast 127).fast.tf ∧
    ((chan upFast 127).fast.first + 252) / 64 ≤ (chan upFast 127).fast.n ∧ (chan upFast 127).cfg1.getLsbD 15 = true ∧ (chan upFast 127).fast.value = some (-20480, 0) ∧
    (chan upFast 127).fast.arm = 1 ∧ (chan upFast 127).rlf = [] ∧ now (dueTick upFast (200 + 64 * 200)) = 13000 := by decide +kernel
/-- ChainOutputsFillBlocks: an output at its tick, the sixteenth of a block, a release, a detector block. -/
def upChain (k : Nat) : State :=
  { up with clus := up.clus.set 0 { slot2 with on := true }, chs := up.chs.set 7 { Ch.zero with input := 0x80, bank := flatBank, cfg0 := 8, chain := { Chain.zero with st := 2, t1 := 9900, preset := 0, n := 20, n0 := 10, started := true }, str := { Stream.zero with words := 4096, depth := 253, nextB := 5, blk := List.replicate k (0, 0) } } }
theorem wit_chain : (upChain 15).chs.length = 128 ∧ alive (upChain 15) = true ∧ chRuns (upChain 15) 7 = true ∧ (pathOf (chan (upChain 15) 7) false).st ≠ 0 ∧
    (pathOf (chan (upChain 15) 7) false).wait = false ∧ dOf 0 = 256 ∧ chPreset (chan (upChain 15) 7) = 0 ∧ (pathOf (chan (upChain 15) 7) false).n0 ≤ (pathOf (chan (upChain 15) 7) false).n := by decide +kernel
def upEnded : State := { up with chs := up.chs.set 7 { Ch.zero with str := { Stream.zero with ended := some 9000, words := 4096, items := [{ kind := 0, bseq := 4, bytes := [] }, { kind := 2, bseq := 5, bytes := [] }] } } }
theorem wit_ended : (chan upEnded 7).str.ended = some 9000 := by decide +kernel
theorem test_release : after (exec (.ringRelease 7) upEnded) (fun t => ((chan t 7).str.words, (chan t 7).str.items.map (·.kind))) = some (0, [2]) := by decide +kernel
/-- An older ring of channel 7, whose items up to the second go at MODTICK 12000. -/
def upOlds : State := { up with chs := up.chs.set 7 { Ch.zero with str := { Stream.zero with words := 2048, olds := [{ words := 4096, upto := 2, due := 12000 }], items := [{ kind := 0, bseq := 4, bytes := [] }, { kind := 2, bseq := 5, bytes := [] }] } } }
theorem wit_olds : (chan upOlds 7).str.olds = [{ words := 4096, upto := 2, due := 12000 }] := by decide +kernel
theorem case_release_older : after (exec (.ringRelease 7) upOlds) (fun t => (now t, (chan t 7).str.olds.length, (chan t 7).str.words, (chan t 7).str.items.map (·.kind))) = some (12000, 0, 2048, [2]) := by decide +kernel
def upDet : State := { upChain 3 with chs := (upChain 3).chs.modify 7 fun c => { c with cfg2 := 0x80000000 + 5000, cfg3 := 63, det := { c.det with len := 64, xs := List.replicate 65 (0, 0) } } }
theorem wit_det : (chan upDet 7).chain.st ≠ 0 ∧ (chan upDet 7).cfg2.getLsbD 31 = true ∧ (chan upDet 7).det.len ≤ (chan upDet 7).det.xs.length ∧ (chan upDet 7).str.blk ≠ [] := by decide +kernel
theorem test_det : after (exec (.freqDetectorBlockEnd 7) upDet) (fun t => ((chan t 7).det.idx, (chan t 7).det.xs.length, (chan t 7).det.out.map (·.length))) = some (1, 1, [16]) := by decide +kernel

/-! ### Witnesses for AUX (13) -/

/-- Pair 3 is bound to relay 0's pilot; pair 2 has sums. -/
def upAux : State :=
  { up with
    rly := up.rly.set 0 { Relay.zero with pilotEn := true, pilotAcc := 3 }
    aux := { up.aux with pairs := (up.aux.pairs.set 2 { Pair13.zero 2 with sum := 500, count := 4, mn := 100, mx := 200 }).set 3 { Pair13.zero 3 with take := (9, 1, 9, 9) } } }
theorem wit_aux_bound : bound upAux 3 = true ∧ bound upAux 2 = false := by decide +kernel
theorem wit_aux_seq : Issues (withRec [18, 2, 0x0F, 0x10] up) .headland 5 .aux .more 18 L [18, 2, 0x0F, 0x10, 0, 0, 0, 0, 0, 0, 0, 0, 0, 0, 0, 0, 0, 0] ∧
    1 ≤ bits (2 : Word) 4 0 ∧ bits (0x0F : Word) 7 4 + bits (0x0F : Word) 3 0 ≤ 15 ∧ up.aux.calRun = false := ⟨issues_of (by decide +kernel), by decide⟩
theorem test_aux_seq_range : after (exec (.auxSeq .headland 5) (withRec [18, 1, 0x1F] up)) g1 = some 6 := by decide +kernel
theorem test_aux_seq : after (exec (.auxSeq .headland 5) (withRec [18, 1, 0x1E] up)) (fun t => (g1 t, t.aux.newSeq.isSome)) = some (0, true) := by decide +kernel
theorem case_aux_seq_busy : after (exec (.auxSeq .headland 5) (withRec [18, 1, 0x1E] { up with aux := { up.aux with calRun := true } })) g1 = some 1 := by decide +kernel
theorem wit_aux_inj : Issues (withRec [3, 0x502] up) .headland 5 .aux .more 3 L [3, 0x502, 0] ∧ (0x502 : Word) &&& 0xFFFFF0F0 = 0 ∧ up.aux.lastInj.getD 2 none = none ∧ up.aux.inj.length < 16 := ⟨issues_of (by decide +kernel), by decide⟩
theorem test_aux_inj : after (exec (.auxInj .headland 5) (withRec [3, 0x502] up)) (fun t => (g1 t, t.aux.inj, t.aux.aborts, t.posts.length)) = some (0, [(5, 2)], 1, 1) := by decide +kernel
theorem test_aux_inj_near : after (exec (.auxInj .headland 5) (withRec [3, 0x502] { up with aux := { up.aux with lastInj := up.aux.lastInj.set 2 (some 521) } })) g1 = some 1 := by decide +kernel
theorem case_aux_inj_full : after (exec (.auxInj .headland 5) (withRec [3, 0x502] { up with aux := { up.aux with lastInj := up.aux.lastInj.set 2 (some 520), inj := List.replicate 16 (0, 0) } })) g1 = some 8 := by decide +kernel
theorem case_aux_inj_eight : after (exec (.auxInj .headland 5) (let s := withRec [3, 0x502] up; { s with posts := List.replicate 8 { unit := .aux, world := .legal, live := true, addr := 0x200, op := 1, words := [], outcome := none, results := [] } })) (fun t => (g1 t, t.posts.length)) = some (0, 9) := by decide +kernel
theorem wit_aux_acc : Issues (withRec [5, 2] upAux) .headland 5 .aux .more 5 L [5, 2, 0, 0, 0] ∧ Issues (withRec [5, 3] upAux) .headland 5 .aux .more 5 L [5, 3, 0, 0, 0] ∧ (3 : Word) &&& 0xFFFFFCF0 = 0 :=
  ⟨issues_of (by decide +kernel), issues_of (by decide +kernel), by decide⟩
theorem test_aux_acc : after (exec (.auxAcc .headland 5) (withRec [5, 2] upAux)) (fun t => (rec t 1, rec t 2, rec t 4, (auxPair t 2).sum, (auxPair t 2).mx)) = some (2, 500, 4, 0, 200) := by decide +kernel
theorem test_aux_acc_bound : after (exec (.auxAcc .headland 5) (withRec [5, 3] upAux)) (fun t => (rec t 1, rec t 2, (auxPair t 3).take)) = some (0x103, 9, (9, 1, 9, 9)) := by decide +kernel
theorem wit_aux_trk : Issues (withRec [4, 2] upAux) .headland 5 .aux .more 4 L [4, 2, 0, 0] ∧ rw ([4, 2, 0, 0] : List Word) 3 = 0 := ⟨issues_of (by decide +kernel), by decide⟩
theorem test_aux_trk : after (exec (.auxTrk .headland 5) (withRec [4, 2] upAux)) (fun t => (rec t 1, rec t 2, (auxPair t 2).mn, (auxPair t 2).sum)) = some (2, 0xC80064, 16383, 500) := by decide +kernel
theorem test_aux_trk_bound : after (exec (.auxTrk .headland 5) (withRec [4, 3] upAux)) (fun t => (rec t 1, rec t 2)) = some (0x103, 0x90009) := by decide +kernel
theorem wit_aux_win : Issues (withRec [4, 0xC502, 0x3FFF3FFF] upAux) .headland 5 .aux .more 4 L [4, 0xC502, 0x3FFF3FFF, 0] ∧ (0xC502 : Word) &&& 0xFFFF30F0 = 0 ∧
    (0x3FFF3FFF : Word) &&& 0xC000C000 = 0 ∧ bits (0x3FFF3FFF : Word) 13 0 ≤ bits (0x3FFF3FFF : Word) 29 16 := ⟨issues_of (by decide +kernel), by decide⟩
theorem test_aux_win : after (exec (.auxWin .headland 5) (withRec [4, 0xC502, 0x3FFF3FFF] upAux)) (fun t => (g1 t, (auxPair t 2).input, (auxPair t 2).qual, (auxPair t 2).sum, t.ldg.subSeq)) = some (0, 5, true, 0, 1) := by decide +kernel
theorem test_aux_win_order : after (exec (.auxWin .headland 5) (withRec [4, 2, 0x3FFE3FFF] upAux)) g1 = some 6 := by decide +kernel
theorem case_aux_win_bound : after (exec (.auxWin .headland 5) (withRec [4, 3, 0x3FFF0000] upAux)) (fun t => (g1 t, (auxPair t 3).pend.isSome)) = some (0, true) := by decide +kernel
theorem wit_aux_cal : Issues (withRec [2] up) .headland 5 .aux .more 2 L [2, 0] ∧ pendingOf (withRec [2] up) .aux .legal < 8 := ⟨issues_of (by decide +kernel), by decide⟩
theorem test_aux_cal : after (exec (.auxCal .headland 5) (withRec [2] up)) (fun t => (g1 t, t.aux.calRun, t.posts.length)) = some (0, true, 1) := by decide +kernel
theorem test_aux_cal_order : after (exec (.auxCal .headland 5) (withRec [2] { up with aux := { up.aux with calRun := true } })) g1 = some 7 := by decide +kernel
theorem wit_aux_rdst : Issues (withRec [4] upAux) .headland 5 .aux .laneRead 4 L [4, 0, 0, 0] := issues_of (by decide +kernel)
theorem test_aux_rdst : after (exec (.auxRdst .headland 5) (withRec [4] upAux)) (fun t => (rec t 1, rec t 3)) = some (16, 8) := by decide +kernel
/-- AuxConversionsFeedPairsBatchesAndMonitors: the standing premises; an injected and a regular conversion, a die conversion, a calibration, a batch's end, a pilot period. -/
theorem wit_aux_standing : upAux.clk.powered = true ∧ upAux.clk.refStable.isSome = true ∧ upAux.aux.pairs.length = 16 ∧ upAux.aux.ins.length = 16 ∧ upAux.tmp.mons.length = 10 ∧
    frozen upAux = false ∧ upAux.clk.t0.isSome = true ∧ now upAux / 8192 ≤ upAux.aux.batch + 1 := by decide +kernel
theorem test_aux_injected : after (exec (.auxConversionDone 300) { upAux with aux := { upAux.aux with inj := [(2, 5), (1, 1)] }, clk := { upAux.clk with modtick := 100 } })
    (fun t => (t.aux.inj, (auxPair t 2).sum, (auxPair t 2).count, (auxPair t 2).mx, (t.aux.ins.getD 5 (0, 0, 0, 0)).1)) = some ([(1, 1)], 800, 5, 300, 300) := by decide +kernel
theorem test_aux_regular : after (exec (.auxConversionDone 50) { upAux with aux := { upAux.aux with slot := 2 } }) (fun t => (t.aux.slot, (auxPair t 2).mn, (auxPair t 2).sum)) = some (3, 50, 550) := by decide +kernel
theorem case_aux_turn_ends : after (exec (.auxConversionDone 50) { upAux with aux := { upAux.aux with slot := 15, newSeq := some [18, 0x101, 0x1E] } })
    (fun t => (t.aux.slot, t.aux.seq, t.aux.turn, t.aux.newSeq.isSome)) = some (0, [(1, 14)], 0, false) := by decide +kernel
theorem wit_aux_idle : upAux.aux.inj = [] ∧ upAux.aux.calRun = false ∧ upAux.aux.idleUntil ≤ (dueRef upAux upAux.aux.idleUntil).clk.ref := by decide +kernel
theorem wit_aux_die : upAux.clk.t0 = some 0 ∧ 0 + 6144 * upAux.aux.nextDie ≤ (dueRef upAux (0 + 6144 * upAux.aux.nextDie)).clk.ref := by decide +kernel
theorem test_aux_die : after (exec (.auxDieConversion 5) upAux) (fun t => t.aux.nextDie) = some 1 := by decide +kernel
theorem test_aux_cal_due : after (exec .auxCalDue { upAux with aux := { upAux.aux with die := 800 } }) (fun t => t.aux.calRun) = some true := by decide +kernel
theorem test_aux_cal_not_due : after (exec .auxCalDue { upAux with aux := { upAux.aux with die := 799 } }) (fun t => t.aux.calRun) = some false := by decide +kernel
theorem test_aux_cal_done : after (exec (.auxCalibrationDone false true) { upAux with aux := { upAux.aux with calRun := true, die := 2550 } })
    (fun t => (t.aux.calRun, t.aux.calTemp, t.aux.cals, t.ldg.subSeq)) = some (false, 2550, 1, 1) := by decide +kernel
theorem wit_aux_batch : now (dueTick upAux (8192 * (upAux.aux.batch + 1))) < 8192 * (upAux.aux.batch + 2) ∧ calGen upAux = upAux.aux.gen ∧ upAux.aux.pend = none ∧ upAux.aux.recs.length = 16 := by decide +kernel
theorem test_aux_batch : after (exec .auxBatchHandover { upAux with aux := { upAux.aux with recs := upAux.aux.recs.set 5 (0x00100000, 0x40000000), ins := upAux.aux.ins.set 5 (20, 2, 0, 0) } })
    (fun t => (t.aux.batch, t.aux.temps.map fun v => (v.1, v.2.getD 1 0, v.2.getD 6 0))) = some (1, [(0, -32768, 160)]) := by decide +kernel
theorem wit_aux_pilot : alive upAux = true ∧ upAux.rly.length = 32 ∧ (rel upAux 0).pilotEn = true ∧ (rel upAux 0).pilotAcc < 16 ∧ (auxPair upAux 3).pend = none ∧
    0 + 24000 * ((rel upAux 0).pilotPer + 1) ≤ (dueRef upAux 24000).clk.ref := by decide +kernel
theorem test_aux_pilot : after (exec (.pilotPeriodEnd 0) { upAux with aux := { upAux.aux with pairs := upAux.aux.pairs.set 3 { Pair13.zero 3 with sum := 70, count := 7 } } })
    (fun t => (t.clk.ref, (auxPair t 3).take, (auxPair t 3).count, (rel t 0).pilotPer)) = some (24000, (70, 7, 16383, 0), 0, 1) := by decide +kernel

/-! ### Witnesses for TMP (12) -/

theorem wit_tmp_cfg : Issues (withRec [6, 7, 0xA0FFFF0A, 0xF, 0x3FFF3FFF] up) .headland 5 .tmp .more 6 L [6, 7, 0xA0FFFF0A, 0xF, 0x3FFF3FFF, 0] ∧ up.tmp.mons.length = 10 ∧
    (0xA0FFFF0A : Word) &&& 0x0F000000 = 0 ∧ (0xF : Word) &&& 0xFFFFFFF0 = 0 ∧ (0x3FFF3FFF : Word) &&& 0xC000C000 = 0 ∧ bits (0xA0FFFF0A : Word) 29 28 = 2 ∧
    (mon up 7).cfgDone = false ∧ lcState up < 5 ∧ (mon up 7).st ≠ 1 ∧ (mon up 7).d1 = false ∧ (mon up 7).d2 = false := ⟨issues_of (by decide +kernel), by decide⟩
theorem test_tmp_cfg : after (exec (.tmpCfg .headland 5) (withRec [6, 7, 0xA0FFFF0A, 0xF, 0x3FFF3FFF] up)) (fun t => (g1 t, (mon t 7).cfg, (mon t 7).input, (mon t 7).cfgDone, t.tmp.next)) =
    some (0, 0xA0FFFF0A, 15, true, 1) := by decide +kernel
theorem test_tmp_cfg_range : after (exec (.tmpCfg .headland 5) (withRec [6, 7, 0xA0FFFF00, 0xF, 0] up)) g1 = some 6 := by decide +kernel
theorem case_tmp_cfg_order : after (exec (.tmpCfg .headland 5) (withRec [6, 1, 0x1001010A] { up with tmp := { up.tmp with mons := up.tmp.mons.modify 1 fun m => { m with cfgDone := true } } })) g1 = some 7 := by decide +kernel
def upAlarm (m : Nat) (resp st : Nat) : State := { up with tmp := { up.tmp with mark := true, mons := up.tmp.mons.modify m fun y => { y with st := st, resp := resp, d1 := decide (st = 1), alarms := 1 } } }
theorem case_tmp_cfg_stronger : after (exec (.tmpCfg .headland 5) (withRec [6, 1, 0xA001010A] (upAlarm 1 1 1))) (fun t => ((mon t 1).resp, (mon t 1).st, (mon t 1).alarms)) = some (2, 1, 1) := by decide +kernel
theorem case_tmp_cfg_off : after (exec (.tmpCfg .headland 5) (withRec [6, 1, 0x1001010A] (upAlarm 1 1 1))) (fun t => (mon t 1).st) = some 2 := by decide +kernel
theorem wit_tmp_rdst : Issues (withRec [8, 9] up) .headland 5 .tmp .read 8 L [8, 9, 0, 0, 0, 0, 0, 0] ∧ (9 : Word) &&& 0xFFFFFFF0 = 0 := ⟨issues_of (by decide +kernel), by decide⟩
theorem test_tmp_rdst : after (exec (.tmpRdst .headland 5) (withRec [8, 1] (upAlarm 1 1 1))) (fun t => (rec t 2, rec t 5)) = some (0x5200, 1) := by decide +kernel
theorem test_tmp_rdst_range : after (exec (.tmpRdst .headland 5) (withRec [8, 10] up)) g1 = some 6 := by decide +kernel
def upLog : State := { up with tmp := { up.tmp with next := 1, ring := [{ eseq := 0, bytes := List.replicate 32 5, tagged := true, born := 0 }] } }
theorem wit_tmp_logrd : Issues (withRec [11, 0] upLog) .headland 5 .tmp .read 11 L [11, 0, 0, 0, 0, 0, 0, 0, 0, 0, 0] ∧ (upLog.tmp.ring.find? (fun e => e.eseq == (0 : Word).toNat)).isSome = true :=
  ⟨issues_of (by decide +kernel), by decide⟩
theorem test_tmp_logrd : after (exec (.tmpLogrd .headland 5) (withRec [11, 0] upLog)) (fun t => (g1 t, rec t 2, rec t 9)) = some (0, 0x05050505, 0x05050505) := by decide +kernel
theorem test_tmp_logrd_range : after (exec (.tmpLogrd .headland 5) (withRec [11, 1] upLog)) g1 = some 6 := by decide +kernel
theorem wit_tmp_ack : Issues (withRec [2, 0x501] (upAlarm 1 1 2)) .headland 5 .tmp .more 2 L [2, 0x501] ∧ (0x501 : Word) &&& 0xFFFF00F0 = 0 ∧ bits (0x501 : Word) 15 8 ≤ 5 ∧
    (mon (upAlarm 1 1 2) 1).st = 2 ∧ (mon (upAlarm 1 1 2) 1).resp ≠ 2 := ⟨issues_of (by decide +kernel), by decide⟩
theorem test_tmp_ack : after (exec (.tmpAck .headland 5) (withRec [2, 0x501] (upAlarm 1 1 2))) (fun t => (g1 t, (mon t 1).st, t.tmp.mark, t.tmp.next, t.ldg.subSeq)) = some (0, 0, false, 1, 1) := by decide +kernel
theorem test_tmp_ack_erase : after (exec (.tmpAck .headland 5) (withRec [2, 1] (upAlarm 1 2 2))) g1 = some 7 := by decide +kernel
/-- TamperEventsTakeAlarmsAndFormEntries: an entry's conditions; a full ring; detectors; a disagreement; the ERASE retry; the handover; the startup check. -/
def upKs : State := { up with key := { up.key with ks := [none, none, none, some (List.replicate 32 1)] } }
theorem wit_entry : upKs.tmp.next - upKs.tmp.sealedTo < 4095 ∧ upKs.tmp.staging = [] ∧ frozen upKs = false ∧ upKs.key.ks.getD 3 none = some (List.replicate 32 1) := by decide +kernel
theorem test_entry : after (.next (tmpEntry upKs 5 7 1 2 true false 9)) (fun t => (t.tmp.next, (t.tmp.ring.map fun e => e.bytes.take 8), t.tmp.ring.map (·.tagged))) =
    some (1, [[0, 0, 0, 0, 5, 7, 0, 6]], [true]) := by decide +kernel
theorem wit_entry_full : 4095 ≤ ({ up.tmp with next := 4095 } : Tmp).next - up.tmp.sealedTo := by decide +kernel
theorem test_entry_full : after (.next (tmpEntry { up with tmp := { up.tmp with next := 4095 } } 1 7 1 2 true false 9))
    (fun t => (t.tmp.next, t.tmp.logpress, t.tmp.collapsed, t.tmp.press.map fun p => (p.resp, p.counts.getD 7 0))) = some (4095, true, 1, some (2, 1)) := by decide +kernel
theorem wit_detector : up.clk.powered = true ∧ up.clk.t0.isSome = true ∧ up.tmp.mons.length = 10 ∧ up.tmp.eraseWait = none ∧ (mon up 8).cfg.getLsbD 31 = true ∧ (mon up 8).cfg.getLsbD 30 = false ∧
    (mon up 8).st ≠ 1 := by decide +kernel
theorem test_detector_assert : after (exec (.detectorAssert 1 false 55 true) up) (fun t => ((mon t 1).st, (mon t 1).resp, (mon t 1).alarms, (mon t 1).v1, t.tmp.mark, t.legal.ctl.evpend)) =
    some (1, 1, 1, 55, true, 0x200) := by decide +kernel
def upErase (cfg : Word) : State := { up with tmp := { up.tmp with mons := up.tmp.mons.modify 1 fun m => { m with cfg := cfg } } }
theorem test_detector_erase : after (exec (.detectorAssert 1 false 55 true) (upErase 0xA001010A)) (fun t => (t.key.scuttle, t.tmp.eraseWait)) = some (0xFFFFFFFF, none) := by decide +kernel
theorem case_detector_erase_disagree : after (exec (.detectorAssert 1 false 55 false) (upErase 0xA001010A)) (fun t => (t.key.scuttle, t.tmp.eraseWait)) = some (0, some 3400) := by decide +kernel
theorem case_detector_both : after (exec (.detectorAssert 1 false 55 true) (upErase 0xD001010A)) (fun t => ((mon t 1).st, (mon t 1).d1)) = some (0, true) := by decide +kernel
theorem test_detector_deassert : after (exec (.detectorDeassert 1 false) (upAlarm 1 1 1)) (fun t => ((mon t 1).st, (mon t 1).d1, t.tmp.mark)) = some (2, false, true) := by decide +kernel
theorem test_detector_deassert_log : after (exec (.detectorDeassert 1 false) (upAlarm 1 0 1)) (fun t => (mon t 1).st) = some 0 := by decide +kernel
theorem wit_no_sample : (mon up 7).d1 = false ∧ (mon up 7).st = 0 ∧ (mon up 7).cfg.getLsbD 31 = true ∧ (mon up 7).cfg.getLsbD 30 = false ∧
    (mon up 7).lastSample + 240000 ≤ (dueRef up ((mon up 7).lastSample + 240000)).clk.ref := by decide +kernel
theorem test_no_sample : after (exec (.detectorNoSample 7 false) up) (fun t => (t.clk.ref, (mon t 7).st, (mon t 7).reason)) = some (240000, 1, 5) := by decide +kernel
def upDis : State := { up with tmp := { up.tmp with mons := up.tmp.mons.modify 2 fun m => { m with d2 := true, disSince := some 500 } } }
theorem wit_dis : (mon upDis 2).disSince = some 500 ∧ (mon upDis 2).cfg.getLsbD 31 = true ∧ (mon upDis 2).dis = false ∧ (mon upDis 2).d2 = true ∧
    500 + 24000 * bits (mon upDis 2).cfg 7 0 ≤ (dueRef upDis (500 + 24000 * bits (mon upDis 2).cfg 7 0)).clk.ref ∧ upDis.tmp.staging.length < 32 := by decide +kernel
theorem test_dis : after (exec (.detectorDisagree 2 true) upDis) (fun t => (t.clk.ref, (mon t 2).dis, (mon t 2).disagrees, t.tmp.next)) = some (240500, true, 1, 1) := by decide +kernel
def upRetry (st : Nat) : State := { upAlarm 1 2 st with tmp := { (upAlarm 1 2 st).tmp with eraseWait := some 3400 } }
theorem wit_retry : (upRetry 1).tmp.eraseWait = some 3400 ∧ 3400 ≤ (dueRef (upRetry 1) 3400).clk.ref ∧ (mon (upRetry 1) 1).st = 1 ∧ (mon (upRetry 1) 1).resp = 2 := by decide +kernel
theorem test_retry : after (exec (.eraseDecisionRetry true) (upRetry 1)) (fun t => (t.key.scuttle, t.tmp.eraseWait)) = some (0xFFFFFFFF, none) := by decide +kernel
theorem test_retry_disagree : after (exec (.eraseDecisionRetry false) (upRetry 1)) (fun t => (t.key.scuttle, t.tmp.eraseWait)) = some (0, some 5800) := by decide +kernel
theorem case_retry_gone : after (exec (.eraseDecisionRetry true) (upRetry 2)) (fun t => (t.key.scuttle, t.tmp.eraseWait)) = some (0, none) := by decide +kernel
theorem wit_handover : (upLog.tmp.ring.find? (fun e => decide (upLog.tmp.handed ≤ e.eseq))).isSome = true ∧ alive upLog = true ∧ 0 < upLog.tmp.handed + 3 ∧
    24000000 ≤ (dueRef upLog 24000000).clk.ref ∧ ¬(ldgFree upLog < 128) := by decide +kernel
theorem test_handover : after (exec .strandlineHandoverTimeout upLog) (fun t => (t.clk.ref, t.tmp.handed, t.ldg.subSeq)) = some (24000000, 1, 0) := by decide +kernel
theorem wit_startup : ({ up.clk with mode := 1 } : Clk).tmpChecked = false ∧ ∀ d ∈ [(19, 5)], d.1 < 20 := by decide +kernel
theorem test_startup : after (exec (.tmpStartupCheckDone [(3, 5)]) up) (fun t => (t.clk.tmpChecked, (mon t 1).d2, (mon t 1).d1)) = some (true, true, false) := by decide +kernel

/-! ### Witnesses for PAIR and LANE_PASS (06, 07) -/

/-- A result frame: its number, its KIND and point byte, its FLAGS bit 8 (FIRST), a CRC field. -/
def frame (seq : Nat) (b : Byte) (first : Bool) (crc : Nat) : List Byte := le 4 seq ++ [b, 0, 0, if first then 1 else 0] ++ List.replicate 52 0 ++ le 4 crc

/-- Both lanes run; point 3 is an AC point; EBB's buffer holds `f`; the other lane is in state `st`. -/
def upPair (st : Nat) (f : List (List Byte)) (p : PPoint) : State :=
  { upLane with
    flood := { Lane.zero with running := true }
    defs := upLane.defs.set 3 [0x100, 0, 0, 0, 0]
    pair := { upLane.pair with pts := upLane.pair.pts.set 3 p, ebb := { upLane.pair.ebb with inbuf := f }, flood := { upLane.pair.flood with st := st } } }
def heldBy (l : LaneId) (f : List Byte) : PPoint := { PPoint.zero with held := some { frame := f, lane := l, opened := 0 } }
def pt3 (t : State) : PPoint := t.pair.pts.getD 3 PPoint.zero
theorem wit_pair : let s := upPair 2 [frame 5 3 true 9] PPoint.zero
    alive s = true ∧ s.pair.pts.length = 32 ∧ frMp (frame 5 3 true 9) = 3 ∧ frKind (frame 5 3 true 9) < 2 ∧ mpDefined s 3 = true ∧ lagging s .ebb (frame 5 3 true 9) = false ∧
      (pt3 s).held = none ∧ (pt3 s).last = none ∧ (pl s .flood).st = 2 := by decide +kernel
theorem test_pair_held : after (exec (.pairFrameArrival .ebb) (upPair 2 [frame 5 3 true 9] PPoint.zero)) (fun t => ((pt3 t).held.map (·.lane), t.pair.bilIn.length, (pl t .ebb).inbuf.length)) = some (some .ebb, 0, 0) := by decide +kernel
theorem test_pair_single : after (exec (.pairFrameArrival .ebb) (upPair 3 [frame 5 3 true 9] PPoint.zero)) (fun t => (t.pair.bilIn.map (·.2), t.pair.single, (pt3 t).last, (pt3 t).hist)) = some ([1], 1, some 5, [(5, 9)]) := by decide +kernel
theorem case_pair_replay : after (exec (.pairFrameArrival .ebb) (upPair 2 [frame 5 3 false 9] { PPoint.zero with last := some 5, hist := [(5, 9)] })) (fun t => (t.pair.bilIn.length, t.pair.replay, (pl t .ebb).st)) = some (0, 1, 1) := by decide +kernel
theorem case_pair_kind : after (exec (.pairFrameArrival .ebb) (upPair 2 [frame 5 0x43 true 9] PPoint.zero)) (fun t => ((pl t .ebb).cause, (pl t .ebb).st, t.pair.active, t.ebb.running)) = some (10, 3, .flood, false) := by decide +kernel
theorem case_pair_paired : after (exec (.pairFrameArrival .ebb) (upPair 2 [frame 5 3 true 9] (heldBy .flood (frame 5 3 true 9)))) (fun t => (t.pair.bilIn.map (·.2), (pt3 t).held.isSome, t.pair.single)) = some ([0], false, 0) := by decide +kernel
theorem wit_pair_twin : let s := upPair 2 [frame 5 3 true 9] (heldBy .flood (frame 5 3 true 8))
    frSeq (frame 5 3 true 8) = frSeq (frame 5 3 true 9) ∧ frCrc (frame 5 3 true 9) ≠ frCrc (frame 5 3 true 8) ∧ s.clk.sysRef < 0 + 6000 ∧ s.pair.active = .ebb ∧ (pl s .ebb).st = 1 ∧
      (pl s .flood).probation = none := by decide +kernel
theorem case_pair_disagree : after (exec (.pairFrameArrival .ebb) (upPair 2 [frame 5 3 true 9] (heldBy .flood (frame 5 3 true 8))))
    (fun t => (t.pair.bilIn.map (·.2), t.pair.disagree, (pl t .flood).cause, (pl t .flood).st, t.pair.active)) = some ([2], 1, 5, 3, .ebb) := by decide +kernel
theorem case_pair_probation : after (exec (.pairFrameArrival .ebb) (let s := upPair 2 [frame 5 3 true 9] (heldBy .flood (frame 5 3 true 8)); { s with pair := { s.pair with flood := { s.pair.flood with probation := some 20000 } } }))
    (fun t => ((pl t .ebb).cause, t.pair.active, (pl t .flood).st)) = some (6, .flood, 1) := by decide +kernel
theorem case_pair_joining : after (exec (.pairFrameArrival .ebb) (upPair 5 [frame 5 3 true 9] (heldBy .flood (frame 5 3 true 8))))
    (fun t => (t.pair.bilIn.map (·.2), t.pair.disagree, (pl t .flood).cause)) = some ([1], 0, 7) := by decide +kernel
theorem wit_pair_window : (pt3 (upPair 2 [] (heldBy .ebb (frame 5 3 true 9)))).held.isSome = true ∧ frMp (frame 5 3 true 9) = 3 ∧
    1000 + (0 + 6000 - 0) ≤ (dueRef (upPair 2 [] (heldBy .ebb (frame 5 3 true 9))) 7000).clk.ref := by decide +kernel
theorem test_pair_window : after (exec (.pairingWindowEnd 3) (upPair 2 [] (heldBy .ebb (frame 5 3 true 9)))) (fun t => (t.clk.ref, t.pair.bilIn.map (·.2), (pt3 t).held.isSome)) = some (7000, [1], false) := by decide +kernel
theorem test_pair_window_joining : after (exec (.pairingWindowEnd 3) (upPair 5 [] (heldBy .flood (frame 5 3 true 9)))) (fun t => (t.pair.bilIn.length, (pt3 t).held.isSome)) = some (0, false) := by decide +kernel
def upExt (f : List Byte) (tab : List Held) (done : List (List Byte)) : State :=
  let s := upPair 2 [] PPoint.zero
  { s with pair := { s.pair with ebb := { s.pair.ebb with xbuf := [f] }, xtab := tab, xdone := done } }
theorem wit_ext : (pl (upExt (frame 5 0xC3 true 9) [] []) .ebb).xbuf = [frame 5 0xC3 true 9] ∧ 6 ≤ frKind (frame 5 0xC3 true 9) := by decide +kernel
theorem test_ext_waits : after (exec (.extFrameArrival .ebb) (upExt (frame 5 0xC3 true 9) [] [])) (fun t => (t.pair.xtab.length, t.pair.bilIn.length)) = some (1, 0) := by decide +kernel
theorem test_ext_done : after (exec (.extFrameArrival .ebb) (upExt (frame 5 0xC3 true 9) [] [(frame 5 0xC3 true 9).take 5])) (fun t => (t.pair.xtab.length, (pl t .ebb).xbuf.length)) = some (0, 0) := by decide +kernel
theorem case_ext_equal : after (exec (.extFrameArrival .ebb) (upExt (frame 5 0xC3 true 9) [{ frame := frame 5 0xC3 true 9, lane := .flood, opened := 0 }] [])) (fun t => (t.pair.xtab.length, t.pair.xdone.length)) = some (0, 1) := by decide +kernel
theorem case_ext_disagree : after (exec (.extFrameArrival .ebb) (upExt (frame 5 0xC3 true 9) [{ frame := frame 5 0xC3 true 8, lane := .flood, opened := 0 }] []))
    (fun t => (t.pair.xdisagree, t.pair.disagree, (pl t .flood).st)) = some (1, 0, 2) := by decide +kernel
/-- LanesFaultRestartAndRejoin. -/
theorem test_clock_fault : after (exec (.laneClockFault .ebb) (upPair 2 [] PPoint.zero)) (fun t => ((pl t .ebb).st, (pl t .ebb).cause, t.pair.active, t.pair.lastFault)) = some (3, 4, .flood, 0x400) := by decide +kernel
theorem test_clock_fault_sole : after (exec (.laneClockFault .ebb) (upPair 6 [] PPoint.zero)) (fun t => ((pl t .ebb).st, (pl t .ebb).reload)) = some (7, true) := by decide +kernel
theorem case_clock_fault_eighth : after (exec (.laneClockFault .ebb) (let s := upPair 2 [] PPoint.zero; { s with pair := { s.pair with ebb := { s.pair.ebb with faults := List.replicate 8 9000 } } }))
    (fun t => (pl t .ebb).st) = some 6 := by decide +kernel
/-- The STANDBY lane has faulted in the same SYS cycle: the ACTIVE lane rebuilds (07 R207). -/
theorem case_clock_fault_both : after (exec (.laneClockFault .ebb) (let s := upPair 3 [] PPoint.zero; { s with pair := { s.pair with flood := { s.pair.flood with faultAt := some s.clk.sys } } }))
    (fun t => ((pl t .ebb).st, (pl t .flood).st, t.pair.active)) = some (7, 3, .ebb) := by decide +kernel
def upSilent : State := let s := upPair 2 [] PPoint.zero; { s with pair := { s.pair with flood := { s.pair.flood with lastMark := 9000, marked := some 9000 } } }
theorem wit_silence : (pl upSilent .ebb).st = 1 ∧ (pl upSilent .flood).st = 2 ∧ (pl upSilent .ebb).lastMark + 32000 ≤ now (dueTick upSilent 32000) ∧ now (dueTick upSilent 32000) < (pl upSilent .flood).lastMark + 32000 := by decide +kernel
theorem test_silence : after (exec (.laneSilenceTimeout .ebb) upSilent) (fun t => (now t, (pl t .ebb).cause, t.pair.active)) = some (32000, 2, .flood) := by decide +kernel
def upLaneSt (f : PLane → PLane) : State := let s := upPair 3 [] PPoint.zero; { s with pair := { s.pair with flood := f s.pair.flood } }
theorem test_join_timeout : after (exec (.joinTimeout .flood) (upLaneSt fun p => { p with st := 5, joinDead := some 12000 })) (fun t => (now t, (pl t .flood).cause, (pl t .flood).st)) = some (12000, 7, 3) := by decide +kernel
theorem test_probation : after (exec (.probationEnd .flood) (upLaneSt fun p => { p with st := 2, probation := some 12000 })) (fun t => (now t, (pl t .flood).probation)) = some (12000, none) := by decide +kernel
/-- SHA-256 of no bytes (FIPS 180-4). -/
def shaEmpty : List Byte := [0xe3, 0xb0, 0xc4, 0x42, 0x98, 0xfc, 0x1c, 0x14, 0x9a, 0xfb, 0xf4, 0xc8, 0x99, 0x6f, 0xb9, 0x24, 0x27, 0xae, 0x41, 0xe4, 0x64, 0x9b, 0x93, 0x4c, 0xa4, 0x95, 0x99, 0x1b, 0x78, 0x52, 0xb8, 0x55]
theorem test_sha256_empty : sha256 [] = shaEmpty := by decide +kernel
def upReload (good bad : Bool) (st : Nat) : State :=
  let s := upLaneSt fun p => { p with st := st, reload := true, reloadBad := bad, reloadAt := 9000 }
  { s with mram := if good then Mem.writeN [] (dirAddr 0 + 0x10) shaEmpty else [] }
theorem wit_reload : measureImage (upReload true false 3) 0 = dirMeasure (upReload true false 3) 0 ∧ measureImage (upReload false false 3) 0 ≠ dirMeasure (upReload false false 3) 0 ∧
    (upReload true false 3).clk.fallback = none ∧ (pl (upReload true true 7) .flood).reloadBad = true ∧ 21000 ≤ now (dueTick (upReload true true 7) (9000 + 12000)) := by decide +kernel
theorem test_reload : after (exec (.laneReloadDone .flood) (upReload true false 3)) (fun t => (pl t .flood).st) = some 4 := by decide +kernel
theorem test_reload_bad : after (exec (.laneReloadDone .flood) (upReload false false 3)) (fun t => ((pl t .flood).st, (pl t .flood).cause)) = some (6, 9) := by decide +kernel
theorem case_reload_sole : after (exec (.laneReloadDone .flood) (upReload false false 7)) (fun t => ((pl t .flood).st, (pl t .flood).reloadBad, (pl t .flood).reloadAt)) = some (7, true, 10000) := by decide +kernel
theorem test_reload_retry : after (exec (.laneReloadRetry .flood) (upReload true true 7)) (fun t => (now t, (pl t .flood).reload)) = some (21000, false) := by decide +kernel
/-- A copy of a lane's segment. -/
def copyOf (l : LaneId) : SegCopy := { lane := l, mark := 9000, prog := Prog.zero, seg := [], pos := List.replicate 128 none, stream := List.replicate 128 1, started := 0 }
def upSnap : State := let s := upLaneSt fun p => { p with st := 4 }; { s with pair := { s.pair with snap := some (copyOf .ebb), ckCopy := some (copyOf .ebb), ck0 := { Ckpt.zero with ckseq := 4, good := true } } }
theorem wit_snap : upSnap.pair.snap = some (copyOf .ebb) ∧ (pl upSnap .flood).st = 4 ∧ upSnap.pair.ckCopy = some (copyOf .ebb) ∧ (copyOf .ebb).lane = .ebb := by decide +kernel
theorem test_snap : after (exec (.snapshotCopyDone .flood) upSnap) (fun t => ((pl t .flood).st, getG t (.ref .flood) 2, t.flood.running)) = some (5, 1, true) := by decide +kernel
theorem test_ckpt_commit : after (exec (.checkpointCommit .ebb) upSnap) (fun t => (t.pair.ck1.ckseq, t.pair.ck1.good, t.pair.ckBase, t.pair.ck0.ckseq)) = some (5, true, 9000, 4) := by decide +kernel
def upRebuild (ck : Ckpt) : State :=
  let s := upLaneSt fun p => { p with st := 7 }
  { s with flood := { s.flood with running := false }, pair := { s.pair with ck0 := ck, ebb := { s.pair.ebb with st := 6 }, active := .flood } }
theorem wit_rebuild : (pl (upRebuild { ckseq := 4, copy := some (copyOf .ebb), good := true }) .flood).reload = false ∧ (upRebuild Ckpt.zero).flood.running = false ∧
    ckInForce (upRebuild { ckseq := 4, copy := some (copyOf .ebb), good := true }) = some (copyOf .ebb) ∧ ckInForce (upRebuild Ckpt.zero) = none ∧
    posGone (upRebuild { ckseq := 4, copy := some (copyOf .ebb), good := true }) (copyOf .ebb).pos (copyOf .ebb).stream = false := by decide +kernel
theorem test_rebuild : after (exec (.rebuildRelease .flood) (upRebuild { ckseq := 4, copy := some (copyOf .ebb), good := true })) (fun t => (t.flood.running, getG t (.ref .flood) 2)) = some (true, 2) := by decide +kernel
theorem test_cold_start : after (exec (.rebuildRelease .flood) (upRebuild Ckpt.zero)) (fun t => (t.flood.running, getG t (.ref .flood) 2, t.flood.prog.batch, (pt3 t).mark)) = some (true, 0, 2, true) := by decide +kernel
theorem wit_mark : Runs (upPair 4 [] PPoint.zero) .ebb (.ref .ebb) ∧ (pl (upPair 4 [] PPoint.zero) .ebb).st = 1 ∧ (pl (upPair 4 [] PPoint.zero) .flood).st = 4 ∧ (upPair 4 [] PPoint.zero).pair.snap = none ∧
    (upPair 4 [] PPoint.zero).clk.pfw = none := ⟨⟨by decide +kernel, by decide⟩, by decide +kernel, by decide +kernel, by decide +kernel, by decide⟩
theorem test_mark : after (exec (.frmCkpt .ebb) (upPair 4 [] PPoint.zero)) (fun t => ((pl t .ebb).lastMark, t.ebb.bank.pc, t.pair.snap.map (·.mark), t.pair.ckCopy.isSome)) = some (10000, 0x204, some 10000, false) := by decide +kernel
theorem test_mark_ckpt : after (exec (.frmCkpt .ebb) (let s := upPair 2 [] PPoint.zero; { s with clk := { s.clk with modtick := 800000 } })) (fun t => (t.pair.snap.isSome, t.pair.ckCopy.map (·.mark))) = some (false, some 800000) := by decide +kernel
theorem wit_pair_rdst : Issues (withRec [8] (upPair 2 [] PPoint.zero)) .headland 5 .pair .read 8 L [8, 0, 0, 0, 0, 0, 0, 0] := issues_of (by decide +kernel)
theorem test_pair_rdst : after (exec (.pairRdst .headland 5) (withRec [8] (upPair 2 [] PPoint.zero))) (fun t => rec t 1) = some 0x21 := by decide +kernel
theorem wit_pair_cnt : Issues (withRec [10, 1] up) .headland 5 .pair .read 10 L [10, 1, 0, 0, 0, 0, 0, 0, 0, 0] ∧ Issues (withRec [2, 3] up) .headland 5 .pair .more 2 L [2, 3] ∧ (3 : Word) &&& 0xFFFFFFFC = 0 :=
  ⟨issues_of (by decide +kernel), issues_of (by decide +kernel), by decide⟩
theorem test_pair_cnt : after (exec (.pairCnt .headland 5) (withRec [10, 1] { up with pair := { up.pair with flood := { up.pair.flood with ended := [7, 0, 0, 0], aborted := [0, 0, 0, 9] } } }))
    (fun t => (rec t 2, rec t 9)) = some (7, 9) := by decide +kernel
theorem test_pair_clr : after (exec (.pairClr .headland 5) (withRec [2, 1] { up with pair := { up.pair with disagree := 3, ebb := { up.pair.ebb with ended := [1, 0, 0, 0] } } }))
    (fun t => (t.pair.disagree, t.pair.ebb.ended.head?)) = some (0, some 1) := by decide +kernel
def upMaint (st : Nat) : State := let s := upPair st [] PPoint.zero; { s with clk := { s.clk with mode := 4 } }
theorem wit_pair_lane : Issues (withRec [2, 1] (upMaint 2)) .headland 5 .pair .more 2 L [2, 1] ∧ (1 : Word) &&& 0xFFFFFFFE = 0 ∧ pendingOf (withRec [2, 1] (upMaint 2)) .pair .legal < 8 := ⟨issues_of (by decide +kernel), by decide⟩
theorem test_pair_lane_order : after (exec (.pairLane .headland 5) (withRec [2, 1] (upPair 2 [] PPoint.zero))) g1 = some 7 := by decide +kernel
theorem test_pair_lane : after (exec (.pairLane .headland 5) (withRec [2, 1] (upMaint 2))) (fun t => (g1 t, (pl t .flood).st, (pl t .flood).cause)) = some (0, 3, 8) := by decide +kernel
theorem case_pair_lane_offline : after (exec (.pairLane .headland 5) (withRec [2, 1] (upMaint 6))) (fun t => (g1 t, (pl t .flood).st, (pl t .flood).faults, t.posts.length)) = some (0, 3, [], 1) := by decide +kernel
/-- LanePassEmitsTheCyclesThatEnded: a point's accumulators; a pass over two batches without channels; a lost position. -/
theorem wit_close_cycle : (31 : Nat) < 32 ∧ LPoint.zero.acc.length = 5 := by decide +kernel
def upPass : State := { upLane with clk := { upLane.clk with modtick := 20000 } }
theorem wit_pass : laneRuns upPass .ebb = true ∧ anyLost upPass .ebb = false ∧ (progCal (auxRoll upPass) (lane upPass .ebb).prog).use.isSome = true := by decide +kernel
theorem test_pass_lost : after (exec (.lanePass .ebb) { upPass with chs := upPass.chs.set 5 { Ch.zero with str := { Stream.zero with base := 4, words := 4096 } } }) (fun t => (t.ebb.ctl.cause, t.ebb.running)) = some (0x109, false) := by decide +kernel
theorem test_pass_waits : after (exec (.lanePass .ebb) { upPass with clk := { upPass.clk with modtick := 8191 } }) (fun t => t.ebb.prog.batch) = some 0 := by decide +kernel
theorem case_pass : after (exec (.lanePass .ebb) upPass) (fun t => (t.ebb.prog.batch, (pl t .ebb).inbuf.length)) = some (1, 0) := by decide +kernel

/-! ### Witnesses for BIL (06, 08, 09) -/

/-- Point 3 is a DC point over channels 0 and 1; `y` is its state in BIL. -/
def upBil (y : BPoint) : State :=
  { up with
    clk := { up.clk with mode := 4 }
    chs := up.chs.set 1 { Ch.zero with input := 0x88 }
    defs := up.defs.set 3 [0x603, 0xFFFFFF00, 0xFFFFFF01, 1, 0]
    bil := { up.bil with pts := up.bil.pts.set 3 y } }
def upBill : State := upBil BPoint.zero
def sess7 : Sess := { (default : Sess) with id := 7, o := 9000, oBt := 0, c := none }
theorem wit_mpcfg : Issues (withRec [12, 0x603, 0xFFFFFF00, 0xFFFFFF01, 1] upBill) .headland 5 .bil .more 12 L [12, 0x603, 0xFFFFFF00, 0xFFFFFF01, 1, 0, 0, 0, 0, 0, 0, 0] ∧
    upBill.bil.pts.length = 32 ∧ upBill.defs.length = 32 ∧ upBill.pair.pts.length = 32 ∧ (0x603 : Word) &&& 0xFFFE00E0 = 0 ∧ upBill.clk.mode = 4 := ⟨issues_of (by decide +kernel), by decide⟩
theorem test_mpcfg : after (exec (.bilMpcfg .headland 5) (withRec [12, 0x603, 0xFFFFFF00, 0xFFFFFF01, 1] upBill)) (fun t => (g1 t, (bp t 3).mark, (pt3 t).mark, defWord t 3 3)) = some (0, true, true, 0xFFFFFF01) := by decide +kernel
theorem test_mpcfg_sensor : after (exec (.bilMpcfg .headland 5) (withRec [12, 0x603, 0xFFFFFF01, 0xFFFFFF00, 1] upBill)) g1 = some 6 := by decide +kernel
theorem wit_rdreg : Issues (withRec [20, 0x1083] upBill) .headland 5 .bil .read 20 L ([20, 0x1083] ++ List.replicate 18 0) ∧ (0x1083 : Word) &&& 0xFFFFE060 = 0 ∧ mpDefined upBill 3 = true ∧
    bits (0x683 : Word) 11 8 ≤ 6 ∧ 7 ≤ bits (0x783 : Word) 11 8 ∧ bits (0x983 : Word) 11 8 ≤ 9 ∧ 10 ≤ bits (0xA83 : Word) 11 8 := ⟨issues_of (by decide +kernel), by decide⟩
theorem test_rdreg : after (exec (.bilRdreg .headland 5) (withRec [20, 0x103] (upBil { BPoint.zero with regs := BPoint.zero.regs.set 1 [256 * 5 + 255, 256 * (2 ^ 32 + 7), 0, 0, 0, 0, 0, 0, 0] })))
    (fun t => (rec t 2, rec t 3, rec t 4, rec t 5)) = some (5, 0, 7, 1) := by decide +kernel
theorem test_rdreg_undefined : after (exec (.bilRdreg .headland 5) (withRec [20, 4] upBill)) g1 = some 6 := by decide +kernel
theorem wit_sess : Issues (withRec [8, 3, 7] upBill) .headland 5 .bil .more 8 L [8, 3, 7, 0, 0, 0, 0, 0] ∧ Issues (withRec [8, 0x103, 7] (upBil { BPoint.zero with sess := some sess7 })) .headland 5 .bil .more 8 L [8, 0x103, 7, 0, 0, 0, 0, 0] ∧
    pendingOf (withRec [8, 3, 7] upBill) .bil .legal < 8 ∧ (bp upBill 3).sess = none ∧ sess7.id = 7 ∧ sess7.c = none ∧ coilOn (rel upBill 3) = false ∧ upBill.rly.length = 32 :=
  ⟨issues_of (by decide +kernel), issues_of (by decide +kernel), by decide⟩
theorem test_sess_open : after (exec (.bilSessOpen .headland 5) (withRec [8, 3, 7] upBill)) (fun t => (g1 t, (bp t 3).sess.map fun z => (z.id, z.o), t.posts.map (·.outcome))) = some (0, some (7, 10000), [some 0]) := by decide +kernel
theorem test_sess_open_twice : after (exec (.bilSessOpen .headland 5) (withRec [8, 3, 8] (upBil { BPoint.zero with sess := some sess7 }))) (fun t => (g1 t, t.posts.map (·.outcome))) = some (0, [some 7]) := by decide +kernel
theorem test_sess_close : after (exec (.bilSessClose .headland 5) (withRec [8, 0x103, 7] (upBil { BPoint.zero with sess := some sess7 }))) (fun t => (g1 t, (bp t 3).sess.map fun z => z.c.isSome)) = some (0, some true) := by decide +kernel
theorem test_sess_close_opens : after (exec (.bilSessClose .headland 5) (withRec [8, 0x103, 7] (let s := upBil { BPoint.zero with sess := some sess7 }; { s with rly := s.rly.set 3 { Relay.zero with st := 3, coils := [(9000, true)] } })))
    (fun t => ((rel t 3).st, (rel t 3).trigger)) = some (5, 4) := by decide +kernel
theorem wit_tarw : Issues (withRec [20, 33] upBill) .headland 5 .bil .more 20 L ([20, 33] ++ List.replicate 18 0) ∧ upBill.bil.swap = none ∧ bits (33 : Word) 5 0 < 34 ∧ 34 ≤ bits (34 : Word) 5 0 :=
  ⟨issues_of (by decide +kernel), by decide⟩
theorem test_tarw : after (exec (.bilTarw .headland 5) (withRec [20, 33, 9] upBill)) (fun t => (g1 t, t.bil.sgen, (t.bil.shadow.getD 33 none).map (·.take 2))) = some (0, 1, some [9, 0]) := by decide +kernel
theorem test_tarw_range : after (exec (.bilTarw .headland 5) (withRec [20, 34] upBill)) g1 = some 6 := by decide +kernel
theorem wit_tswap : Issues (withRec [3, 0] upBill) .headland 5 .bil .more 3 L [3, 0, 0] := issues_of (by decide +kernel)
theorem test_tswap_order : after (exec (.bilTswap .headland 5) (withRec [3, 0] upBill)) g1 = some 7 := by decide +kernel
theorem wit_credit : Issues (withRec [6, 3, 0, 5] upBill) .headland 5 .bil .read 6 L [6, 3, 0, 5, 0, 0] ∧ (0x1103 : Word) &&& 0xFFFF8CE0 = 0 ∧ Room (withRec [6, 3, 0, 5] upBill) L .bil ∧ (bp upBill 3).crgen = 0 :=
  ⟨issues_of (by decide +kernel), by decide +kernel, by unfold Room; decide, by decide⟩
theorem test_credit_add : after (exec (.bilCreditAdd .headland 5) (withRec [6, 3, 0, 0xFFFFFFFF, 0xFFFFFFFF] upBill)) (fun t => (g1 t, (bp t 3).credit, (bp t 3).crgen)) = some (0, -1, 1) := by decide +kernel
theorem test_credit_stale : after (exec (.bilCreditAdd .headland 5) (withRec [6, 3, 1, 5] upBill)) g1 = some 4 := by decide +kernel
theorem test_credit_set : after (exec (.bilCreditSet .headland 5) (withRec [6, 0x1103, 0, 5] upBill)) (fun t => (g1 t, (bp t 3).warn, (bp t 3).crgen)) = some (0, 5, 1) := by decide +kernel
theorem test_credit_set_order : after (exec (.bilCreditSet .headland 5) (withRec [6, 0x2103, 0, 5] upBill)) g1 = some 6 := by decide +kernel
theorem case_credit_prepay : after (exec (.bilCreditSet .headland 5) (withRec [6, 0x5103, 0, 1] upBill)) (fun t => (g1 t, (bp t 3).prepay, (bp t 3).level)) = some (0, true, 3) := by decide +kernel
theorem case_credit_prepay_session : after (exec (.bilCreditSet .headland 5) (withRec [6, 0x5103, 0, 1] (upBil { BPoint.zero with sess := some sess7 }))) g1 = some 7 := by decide +kernel
theorem test_credit_read : after (exec (.bilCreditRead .headland 5) (withRec [6, 0x1203] (upBil { BPoint.zero with warn := -2 }))) (fun t => (g1 t, t.posts.map (·.results))) =
    some (0, [[(3, 0xFFFFFFFE), (4, 0xFFFFFFFF), (5, 0)]]) := by decide +kernel
theorem wit_demcfg : Issues (withRec [5, 0x102203] upBill) .headland 5 .bil .more 5 L [5, 0x102203, 0, 0, 0] ∧ bits (0xF2203 : Word) 19 16 = 15 := ⟨issues_of (by decide +kernel), by decide⟩
theorem test_demcfg : after (exec (.bilDemcfg .headland 5) (withRec [5, 0x32303] upBill)) (fun t => (g1 t, ((bp t 3).dems.getD 1 Demand.zero).pend)) = some (0, some (60000000, 0x32303)) := by decide +kernel
theorem test_demcfg_range : after (exec (.bilDemcfg .headland 5) (withRec [5, 0x72203] upBill)) g1 = some 6 := by decide +kernel
theorem wit_bil_rdst : Issues (withRec [6] upBill) .headland 5 .bil .read 6 L [6, 0, 0, 0, 0, 0] := issues_of (by decide +kernel)
theorem test_bil_rdst : after (exec (.bilRdst .headland 5) (withRec [6] (upBil { BPoint.zero with sess := some sess7 }))) (fun t => (rec t 3, rec t 4)) = some (0, 8) := by decide +kernel
/-- FramesAreAppliedOnceAndBoundariesProcessed: a frame of 1000 µWh import at the meter. -/
def bFrame (seq ep : Nat) : List Byte := le 4 seq ++ [0x23, 0, 0, 1] ++ le 4 9990 ++ le 4 4000 ++ le 4 ep ++ List.replicate 40 0 ++ le 4 9
def upApply (y : BPoint) (f : List Byte) : State := let s := upBil y; { s with pair := { s.pair with bilIn := [(f, 0)] } }
theorem wit_apply : let s := upApply BPoint.zero (bFrame 5 1000)
    alive s = true ∧ s.bil.pts.length = 32 ∧ (∀ p ∈ s.bil.pts, p.regs.length = 14 ∧ ∀ l ∈ p.regs, l.length = 9) ∧ frMp (bFrame 5 1000) = 3 ∧ (bp s 3).held = none ∧ (bp s 3).lastSeq = none ∧
      (bp s 3).tariff < 8 ∧ (∀ p ∈ (bp s 3).preStep, p.tariff < 8) := by decide +kernel
theorem test_apply : after (exec (.bilFrameApply 3 false true) (upApply BPoint.zero (bFrame 5 1000))) (fun t => (((bp t 3).regs.getD 0 []).take 2, (bp t 3).lastSeq, (bp t 3).applied, t.pair.bilIn.length)) =
    some ([1000, 1000], some 5, 1, 0) := by decide +kernel
theorem test_apply_dup : after (exec (.bilFrameApply 3 true true) (upApply { BPoint.zero with lastSeq := some 5 } (bFrame 5 1000))) (fun t => ((bp t 3).dup, (bp t 3).applied)) = some (1, 0) := by decide +kernel
theorem case_apply_held : after (exec (.bilFrameApply 3 false false) (upApply BPoint.zero (bFrame 5 1000))) (fun t => ((bp t 3).held.isSome, (bp t 3).retryAt, (bp t 3).applied)) = some (true, 10400, 0) := by decide +kernel
/-- The frame with status 1, which ended at MODTICK 9990. -/
def bSaved : Saved := { frame := bFrame 5 1000, status := 1, start := 1497, stamp := 1, endBt := 2497, pdisc := false, par := false }
theorem wit_saved : let s : State := { upBill with bil := { upBill.bil with saved := [bSaved] } }
    s.bil.saved = bSaved :: [] ∧ frMp bSaved.frame = 3 ∧ (bp s 3).held = none := by decide +kernel
def upHeld : State := upBil { BPoint.zero with held := some bSaved, retryAt := 10400 }
theorem wit_held : (bp upHeld 3).held = some bSaved ∧ 10400 ≤ now (dueTick upHeld 10400) := by decide +kernel
theorem test_retry_frame : after (exec (.bilHoldRetry 3 true true) upHeld) (fun t => (now t, (bp t 3).applied, (bp t 3).single, (bp t 3).held.isSome)) = some (10400, 1, 1, false) := by decide +kernel
theorem wit_timeout : mpDefined upBill 3 = true ∧ (bp upBill 3).sess = none ∧ (bp upBill 3).steps = [] ∧ (bp upBill 3).due = none ∧
    btTick upBill (nextBoundary upBill 3 + 100000) ≤ now (dueTick upBill (btTick upBill (nextBoundary upBill 3 + 100000))) ∧
    nextBoundary upBill 3 + 100000 ≤ btNow (dueTick upBill (btTick upBill (nextBoundary upBill 3 + 100000))) := by decide +kernel
theorem wit_minute : alive upBill = true ∧ (btTick upBill (upBill.bil.minute + 60000000)) ≤ now (dueTick upBill (btTick upBill (upBill.bil.minute + 60000000))) := by decide +kernel
theorem test_minute : after (exec .minuteBoundary upBill) (fun t => (t.bil.minute, t.bil.hw)) = some (60000000, 60000000) := by decide +kernel

/-! ### Witnesses for RLY (09) -/

/-- Relay 3 serves DC point 3. -/
def upRly (y : Relay) : State := let s := upBil { BPoint.zero with sess := some sess7 }; { s with clk := { s.clk with mode := 2 }, grant := true, ldg := { s.ldg with capacity := 100000, setIn := some 1 }, rly := s.rly.set 3 y }
theorem wit_predict : (chan { up with chs := up.chs.set 5 { Ch.zero with zc := [(true, 9000), (false, 9000 - 30769 + 40000), (true, 1)] } } 5).zc.length = 3 ∧
    now up - 9000 ≤ 88889 ∧ (30769 : Nat) ≤ 44445 := by decide +kernel
theorem test_predict : predict { up with clk := { up.clk with modtick := 80000 }, chs := up.chs.set 5 { Ch.zero with zc := [(true, 79000), (false, 39000), (true, 1)] } } 5 80000 = some 119000 := by decide +kernel
theorem test_predict_slow : predict { up with clk := { up.clk with modtick := 80000 }, chs := up.chs.set 5 { Ch.zero with zc := [(true, 79000), (false, 34554), (true, 1)] } } 5 80000 = none := by decide +kernel
theorem wit_rly_cfg : Issues (withRec [6, 0x800A0003, 0x3A984E20] (upRly Relay.zero)) .headland 5 .rly .more 6 L [6, 0x800A0003, 0x3A984E20, 0, 0, 0] ∧ (0x800A0003 : Word) &&& 0x7FE001E0 = 0 ∧
    1 ≤ bits (0x800A0003 : Word) 20 16 ∧ (upRly Relay.zero).rly.length = 32 ∧ (rel (upRly Relay.zero) 3).a = (rel (upRly Relay.zero) 3).polA ∧ (rel (upRly Relay.zero) 3).frames = [] := ⟨issues_of (by decide +kernel), by decide⟩
theorem test_rly_cfg : after (exec (.rlyCfg .headland 5) (withRec [6, 0x1E0003, 0x3A984E20] (upRly Relay.zero))) (fun t => (g1 t, (rel t 3).grace, (rel t 3).openT, (rel t 3).closeT)) = some (0, 30, 15000, 20000) := by decide +kernel
theorem test_rly_clrflt : after (exec (.rlyCfgClrflt .headland 5) (withRec [6, 0x800A0003, 0x3A984E20] (upRly { Relay.zero with st := 7, fault := 3 }))) (fun t => (g1 t, (rel t 3).st, (rel t 3).fault)) = some (0, 0, 0) := by decide +kernel
theorem test_rly_cfg_range : after (exec (.rlyCfg .headland 5) (withRec [6, 0x1F0003] (upRly Relay.zero))) g1 = some 6 := by decide +kernel
theorem case_rly_cfg_order : after (exec (.rlyCfg .headland 5) (withRec [6, 0x0A0003] (upRly { Relay.zero with st := 3 }))) g1 = some 7 := by decide +kernel
/-- A dead load in the last two frames; the last ended within 60 ms. -/
def deadFrames : List (List Byte × Nat) := [(bFrame 5 0, 0), (bFrame 4 0, 0)]
def upClose : State := let s := upRly { Relay.zero with frames := deadFrames }; { s with defs := s.defs.set 3 [0x603, 0x02FFFF00, 0xFFFFFF01, 1, 0] }
theorem wit_close : Issues (withRec [2, 3] upClose) .headland 5 .rly .more 2 L [2, 3] ∧ (3 : Word) &&& 0xFFFF00E0 = 0 ∧ Room (withRec [2, 3] upClose) L .rly ∧ upClose.grant = true ∧ upClose.hl.grantLost = false ∧
    ldgHold upClose = false ∧ lcState upClose < 5 ∧ bits (defWord upClose 3 2) 31 24 ≠ 0xFF ∧ now upClose ≤ frEnd upClose (bFrame 5 0) + 240000 ∧ (fld 6 2 (bFrame 5 0)).testBit 10 = false :=
  ⟨issues_of (by decide +kernel), by decide +kernel, by unfold Room; decide, by decide⟩
theorem test_close : after (exec (.rlyClose .headland 5 true) (withRec [2, 3] upClose)) (fun t => (g1 t, (rel t 3).st, (rel t 3).cmd, t.posts.map (·.outcome))) = some (0, 1, 10000, [none]) := by decide +kernel
theorem test_close_session : after (exec (.rlyClose .headland 5 true) (withRec [2, 3] { upClose with bil := up.bil })) (fun t => t.posts.map fun p => (p.outcome, p.results)) = some [(some 7, [(1, 0x203)])] := by decide +kernel
theorem case_close_disagree : after (exec (.rlyClose .headland 5 false) (withRec [2, 3] upClose)) (fun t => (t.posts.map (·.outcome), (rel t 3).st)) = some ([some 9], 0) := by decide +kernel
theorem wit_open : Issues (withRec [2, 3] (upRly { Relay.zero with st := 3 })) .headland 5 .rly .more 2 L [2, 3] ∧ (3 : Word) &&& 0xFFFFFEE0 = 0 ∧ mpKind (upRly Relay.zero) 3 = 2 := ⟨issues_of (by decide +kernel), by decide⟩
theorem test_open : after (exec (.rlyOpen .headland 5) (withRec [2, 3] (upRly { Relay.zero with st := 3, coils := [(9000, true)] }))) (fun t => ((rel t 3).st, (rel t 3).trigger, (rel t 3).cmd, t.posts.map (·.outcome))) = some (5, 1, 10000, [none]) := by decide +kernel
theorem test_open_armed : after (exec (.rlyOpen .headland 5) (withRec [2, 3] (upRly { Relay.zero with st := 1 }))) (fun t => ((rel t 3).st, t.posts.map (·.outcome))) = some (0, [some 0]) := by decide +kernel
theorem wit_grant : Issues (withRec [2, 1] up) .headland 5 .rly .more 2 L [2, 1] ∧ (1 : Word) &&& 0xFFFFF8FE = 0 := ⟨issues_of (by decide +kernel), by decide⟩
theorem test_grant : after (exec (.rlyGrant .headland 5) (withRec [2, 1] { up with hl := { up.hl with grantLost := true } })) (fun t => (g1 t, t.grant, t.hl.grantLost, rec t 1)) = some (0, true, false, 0x201) := by decide +kernel
theorem test_grant_tampered : after (exec (.rlyGrant .headland 5) (withRec [2, 1] { up with key := { up.key with scuttle := 1 } })) g1 = some 7 := by decide +kernel
theorem wit_rly_rdst : Issues (withRec [4, 3] (upRly Relay.zero)) .headland 5 .rly .read 4 L [4, 3, 0, 0] ∧ (3 : Word) &&& 0xFFFFFFE0 = 0 ∧ (rel (upRly Relay.zero) 3).pilot < 8 := ⟨issues_of (by decide +kernel), by decide⟩
theorem test_rly_rdst : after (exec (.rlyRdst .headland 5) (withRec [4, 3] (upRly { Relay.zero with st := 4, coils := [(9000, true)], a := true, graceAt := some 8010000, closes := 6 }))) (fun t => (rec t 2, rec t 3)) = some (0x00021184, 6) := by decide +kernel
/-- RelaySequencesConfirmFailAndFault. -/
theorem wit_rly_time : let s := upRly { Relay.zero with st := 4, graceAt := some 20000, coils := [(9000, true)] }
    alive s = true ∧ s.rly.length = 32 ∧ absentUnit s .rly = false ∧ (rel s 3).graceAt = some 20000 ∧ 20000 ≤ now (dueTick s 20000) ∧ s.clk.pfw = none := by decide +kernel
theorem test_grace : after (exec (.graceExpiry 3) (upRly { Relay.zero with st := 4, graceAt := some 20000, coils := [(9000, true)] })) (fun t => (now t, (rel t 3).st, (rel t 3).trigger)) = some (20000, 5, 2) := by decide +kernel
theorem test_command : after (exec (.relayCommandInstant 3) (upRly { Relay.zero with st := 1, cmd := 20000 })) (fun t => (now t, (rel t 3).cmdDone)) = some (20000, true) := by decide +kernel
theorem test_command_warned : after (exec (.relayCommandInstant 3) (let s := upRly { Relay.zero with st := 1, cmd := 20000 }; { s with clk := { s.clk with pfw := some 900 } })) (fun t => (rel t 3).cmdDone) = some false := by decide +kernel
theorem test_coil : after (exec (.coilChange 3) (upRly { Relay.zero with st := 1, cmd := 20000, cmdDone := true })) (fun t => (now t, (rel t 3).st, (rel t 3).coils, (rel t 3).m)) = some (20040, 2, [(20040, true)], 20040) := by decide +kernel
theorem test_feedback_closed : after (exec (.feedbackChange 3 true true) (upRly { Relay.zero with st := 2, m := 9000, a := true, vMet := true, coils := [(9000, true)] })) (fun t => ((rel t 3).st, (rel t 3).closes, t.ldg.subSeq)) = some (3, 1, 1) := by decide +kernel
theorem test_feedback_open : after (exec (.feedbackChange 3 true false) (upRly { Relay.zero with st := 6, m := 9000, b := true, vMet := true, trigger := 1 })) (fun t => ((rel t 3).st, t.ldg.subSeq)) = some (0, 1) := by decide +kernel
theorem case_feedback_steady : after (exec (.feedbackChange 3 true true) (upRly { Relay.zero with st := 0 })) (fun t => ((rel t 3).st, (rel t 3).badSince)) = some (0, some 10000) := by decide +kernel
theorem wit_deadlines : 9000 + 240000 ≤ now (dueTick (upRly { Relay.zero with st := 2, m := 9000 }) 249000) ∧ 9000 + 400000 ≤ now (dueTick (upRly { Relay.zero with st := 6, m := 9000, vMet := true }) 409000) := by decide +kernel
theorem test_close_deadline : after (exec (.closeDeadline 3) (upRly { Relay.zero with st := 2, m := 9000, coils := [(9000, true)] })) (fun t => (now t, (rel t 3).st, (rel t 3).fault, (rel t 3).coils.head?)) = some (249000, 7, 1, some (249000, false)) := by decide +kernel
theorem test_open_deadline : after (exec (.openDeadline 3) (upRly { Relay.zero with st := 6, m := 9000, vMet := true })) (fun t => (now t, (rel t 3).st, (rel t 3).fault)) = some (409000, 7, 3) := by decide +kernel
theorem test_open_deadline_live : after (exec (.openDeadline 3) (upRly { Relay.zero with st := 6, m := 9000 })) (fun t => (now t, (rel t 3).st)) = some (409000, 6) := by decide +kernel
theorem test_steady_open : after (exec (.feedbackSteadyTimeout 3) (upRly { Relay.zero with badSince := some 10000 })) (fun t => (now t, (rel t 3).st, (rel t 3).fault)) = some (50000, 7, 9) := by decide +kernel
theorem test_steady_closed : after (exec (.feedbackSteadyTimeout 3) (upRly { Relay.zero with st := 3, badSince := some 10000, coils := [(9000, true)] })) (fun t => ((rel t 3).st, (rel t 3).trigger, (rel t 3).fault)) = some (5, 5, 7) := by decide +kernel

/-! ### Witnesses for LDG and OBJ (10) -/

def upLdg (f : Ldg → Ldg) : State := { up with ldg := f { up.ldg with next := 5, fullSeen := true, capacity := 8388608, setIn := some 1 } }
def recN (i : Nat) : PendRec := { index := i, bytes := List.replicate 128 7, eseqs := [] }
theorem wit_group : 2048 - (upLdg id).ldg.recs.length < 128 ∨ 128 ≤ 2048 - (upLdg id).ldg.recs.length ∧ (upLdg id).ldg.fullSeen = true := by decide +kernel
theorem wit_reserve : 2048 - (upLdg fun l => { l with recs := List.replicate 1921 (recN 0) }).ldg.recs.length < 128 := by decide +kernel
theorem test_reserve : (ldgGroup (upLdg fun l => { l with recs := List.replicate 1921 (recN 0) }) 3 false [] [[]]).ldg.dropped = [0, 0, 0, 1, 0, 0, 0, 0] := by decide +kernel
theorem test_first_record : (ldgGroup up 3 false [] [[]]).ldg.next = 2 := by decide +kernel
theorem test_checkpoint_due : ((ldgGroup (upLdg fun l => { l with since := 254 }) 3 false [] [[]]).ldg.next, (ldgGroup (upLdg fun l => { l with since := 254 }) 3 false [] [[]]).ldg.lastCkpt) = (7, 6) := by decide +kernel
theorem wit_event : 128 ≤ 2048 - (upLdg id).ldg.recs.length ∧ (upLdg id).ldg.next ≠ 0 ∧ (upLdg id).ldg.since < 254 ∧ (upLdg id).ldg.fullSeen = true := by decide +kernel
theorem wit_append : Issues (withRec [34, 6] (upLdg id)) .headland 5 .ldg .more 34 L ([34, 6] ++ List.replicate 32 0) ∧ (∀ i < 7, rw ([34, 6] ++ List.replicate 32 (0 : Word)) (27 + i) = 0) ∧
    Room (withRec [34, 6] (upLdg id)) L .ldg := ⟨issues_of (by decide +kernel), by decide +kernel, by unfold Room; decide⟩
theorem test_append : after (exec (.ldgAppend .headland 5) (withRec [34, 6] (upLdg id))) (fun t => (g1 t, t.ldg.next, t.posts.map (·.results))) = some (0, 6, [[(26, 5)]]) := by decide +kernel
theorem test_append_range : after (exec (.ldgAppend .headland 5) (withRec [34, 4] (upLdg id))) g1 = some 6 := by decide +kernel
theorem case_append_full : after (exec (.ldgAppend .headland 5) (withRec [34, 3] (upLdg fun l => { l with recs := List.replicate 1921 (recN 0) }))) g1 = some 8 := by decide +kernel
def upRead : State := upLdg fun l => { l with recs := [recN 4], flash := [(3, List.replicate 128 9)] }
theorem wit_read : Issues (withRec [35, 4] upRead) .headland 5 .ldg .read 35 L ([35, 4] ++ List.replicate 33 0) ∧ (upRead.ldg.recs.find? (fun r => r.index == 4)).isSome = true ∧
    upRead.ldg.recs.find? (fun r => r.index == 3) = none ∧ (upRead.ldg.flash.find? (fun r => r.1 == 3)).isSome = true ∧ upRead.ldg.fault = false ∧ upRead.ldg.nodev = false := ⟨issues_of (by decide +kernel), by decide⟩
theorem test_read_pending : after (exec (.ldgRead .headland 5) (withRec [35, 4] upRead)) (fun t => t.posts.map fun p => (p.outcome, p.results.take 2)) = some [(some 0, [(2, 1), (3, 0x07070707)])] := by decide +kernel
theorem test_read_flash : after (exec (.ldgRead .headland 5) (withRec [35, 3] upRead)) (fun t => t.posts.map fun p => (p.outcome, p.results.take 2)) = some [(some 0, [(2, 0), (3, 0x09090909)])] := by decide +kernel
theorem wit_flash : Issues (withRec [4, 0x103, 1] up) .headland 5 .ldg .more 4 L [4, 0x103, 1, 0] ∧ (0x103 : Word) &&& 0xFFFFFEF8 = 0 ∧ up.ldg.setIn ≠ some (lcState up) ∧ up.ldg.device = some 1 := ⟨issues_of (by decide +kernel), by decide⟩
theorem test_flash : after (exec (.ldgFlash .headland 5) (withRec [4, 0x103, 1] up)) (fun t => (g1 t, t.ldg.capacity, t.ldg.dtr, t.ldg.setIn)) = some (0, 67108864, true, some 1) := by decide +kernel
theorem test_flash_order : after (exec (.ldgFlash .headland 5) (withRec [4, 0x103, 2] up)) g1 = some 7 := by decide +kernel
theorem wit_ldg_rdst : Issues (withRec [8] up) .headland 5 .ldg .read 8 L [8, 0, 0, 0, 0, 0, 0, 0] := issues_of (by decide +kernel)
theorem test_ldg_rdst : after (exec (.ldgRdst .headland 5) (withRec [8] (upLdg fun l => { l with lastCkpt := 2 }))) (fun t => (rec t 1, rec t 4, rec t 5)) = some (5, 1, 2) := by decide +kernel
def upProg (f : Ldg → Ldg) : State := upLdg fun l => f { l with recs := [recN 4], prog := some 900 }
theorem wit_prog : alive (upProg id) = true ∧ (upProg id).ldg.prog.isSome = true ∧ (upProg id).ldg.fault = false ∧ (upProg id).ldg.tries < 2 ∧ 900 + 240000 ≤ (dueRef (upProg id) 240900).clk.ref := by decide +kernel
theorem test_prog_done : after (exec (.flashProgramDone true) (upProg id)) (fun t => (t.ldg.flash.map (·.1), t.ldg.recs.length)) = some ([4], 0) := by decide +kernel
theorem test_prog_again : after (exec (.flashProgramDone false) (upProg id)) (fun t => (t.ldg.tries, t.ldg.prog)) = some (1, some 1000) := by decide +kernel
theorem case_prog_third : after (exec (.flashProgramDone false) (upProg fun l => { l with tries := 2 })) (fun t => (t.ldg.fault, t.ldg.prog, t.ldg.next)) = some (true, none, 6) := by decide +kernel
theorem test_prog_timeout : after (exec .flashProgramTimeout (upProg id)) (fun t => (t.clk.ref, t.ldg.tries)) = some (240900, 1) := by decide +kernel
theorem case_prog_gap : after (exec (.flashProgramDone true) (upProg fun l => { l with gapDue := true, dropped := [0, 0, 0, 7, 0, 0, 0, 0] })) (fun t => (t.ldg.gapDue, t.ldg.next, t.ldg.recs.length)) = some (false, 6, 1) := by decide +kernel
def upRetryF : State := upLdg fun l => { l with recs := [recN 4], fault := true, retryAt := some 2000 }
theorem wit_flash_retry : upRetryF.ldg.retryAt = some 2000 ∧ upRetryF.ldg.fault = true ∧ upRetryF.ldg.prog = none ∧ upRetryF.clk.pfw = none ∧ 2000 ≤ (dueRef upRetryF 2000).clk.ref := by decide +kernel
theorem test_flash_retry : after (exec .flashRetry upRetryF) (fun t => (t.clk.ref, t.ldg.prog, t.ldg.retryAt)) = some (2000, some 2000, none) := by decide +kernel

/-- A request in the LEGAL queue, and one taken. -/
def req7 : ObjReq := { master := 0, node := 0, reqid := 9, oid := 0x05000080, offset := 0, exec := false, role := 2, data := [1, 2, 3], born := 9000, handle := 7, opn := false }
def upObj (f : Obj → Obj) : State := { up with obj := f up.obj }
theorem wit_take : Issues (withRec [4, 0, 0x1000] up) .headland 5 .obj .more 4 L [4, 0, 0x1000, 0] ∧ isWorld L = true ∧ bufOk (withRec [4, 0, 0x1000] up) .legal 0x1000 1024 = true ∧ (0 : Word) &&& 0x00E008FE = 0 :=
  ⟨issues_of (by decide +kernel), by decide +kernel⟩
theorem test_take_empty : after (exec (.objTake .headland 5) (withRec [4, 0, 0x1000] up)) (fun t => (g1 t, Tests.rec t 2, Tests.rec t 3)) = some (0, 0x1000, 0) := by decide +kernel
theorem test_take : after (exec (.objTake .headland 5) (withRec [4, 0, 0x1000] (upObj fun o => { o with legalQ := [req7] }))) (fun t => (Tests.rec t 1, Tests.rec t 2, Tests.rec t 3, Mem.read t.hl.dmem 0x1002, t.obj.taken.length, t.obj.legalQ.length)) =
    some (0x07012000, 0x00301000, 0x05000080, 3, 1, 0) := by decide +kernel
theorem wit_reply : Issues (withRec [4, 0x07000000, 0x1000] (upObj fun o => { o with taken := [req7] })) .headland 5 .obj .more 4 L [4, 0x07000000, 0x1000, 0] ∧ (0x07000000 : Word) &&& 0x00FFFFF0 = 0 ∧
    bits (0x07000000 : Word) 31 24 = req7.handle ∧ Room (upObj fun o => { o with taken := [req7] }) L .obj := ⟨issues_of (by decide +kernel), by decide +kernel, by decide +kernel, by unfold Room; decide⟩
theorem test_reply : after (exec (.objReply .headland 5) (withRec [4, 0x07000000, 0x1000] (upObj fun o => { o with taken := [req7] }))) (fun t => (g1 t, t.obj.taken.length, (t.hst.getD 0 HPort.zero).objs)) =
    some (0, 0, [[0x82, 0, 9, 0, 0x80, 0, 0, 5, 0, 0, 0, 0, 0, 0, 0, 0]]) := by decide +kernel
theorem test_reply_stale : after (exec (.objReply .headland 5) (withRec [4, 0x08000000, 0x1000] (upObj fun o => { o with taken := [req7] }))) g1 = some 4 := by decide +kernel
theorem case_reply_range : after (exec (.objReply .headland 5) (withRec [4, 0x0700000A, 0x1000] (upObj fun o => { o with taken := [req7] }))) g1 = some 6 := by decide +kernel
/-- An access table of one entry: class 4, every instance and attribute, read by PUBLIC. -/
def aclBytes : List Byte := let b := le 4 1 ++ [0xFF, 0xFF, 0xFF, 0xFF, 9] ++ List.replicate 7 0 ++ le 4 0x04000000 ++ le 4 0x00FFFF7F ++ le 4 1; b ++ le 4 (crc32c b).toNat
def upAcl (b : List Byte) (mode : Nat) : State :=
  let s := withRec [3, 0x1000] { up with clk := { up.clk with mode := mode } }
  { s with hl := { s.hl with dmem := Mem.writeN s.hl.dmem 0x1000 b } }
theorem wit_acl : Issues (upAcl aclBytes 4) .headland 5 .obj .more 3 L [3, 0x1000, 0] ∧ bufOk (upAcl aclBytes 4) .legal 0x1000 32 = true ∧
    fld 28 4 (dataRead (upAcl aclBytes 4) L 0x1000 32) = (crc32c ((dataRead (upAcl aclBytes 4) L 0x1000 32).take 28)).toNat := ⟨issues_of (by decide +kernel), by decide +kernel⟩
theorem test_acl : after (exec (.objAcl .headland 5) (upAcl aclBytes 4)) (fun t => (g1 t, t.obj.aclGen, t.obj.acl.map (·.rights), t.obj.keySlots.getD 4 0)) = some (0, 1, [1], 9) := by decide +kernel
theorem test_acl_order : after (exec (.objAcl .headland 5) (upAcl aclBytes 2)) g1 = some 7 := by decide +kernel
theorem case_acl_crc : after (exec (.objAcl .headland 5) (upAcl (aclBytes.set 5 3) 4)) g1 = some 6 := by decide +kernel
theorem wit_obj_rdst : Issues (withRec [6] up) .headland 5 .obj .read 6 L [6, 0, 0, 0, 0, 0] := issues_of (by decide +kernel)
theorem test_obj_rdst : after (exec (.objRdst .headland 5) (withRec [6] (upObj fun o => { o with legalQ := [req7], abandoned := 3 }))) (fun t => (rec t 1, rec t 4)) = some (1, 3) := by decide +kernel
theorem wit_request : alive up = true ∧ req7.born + 8000000 ≤ now (dueTick (upObj fun o => { o with legalQ := [req7] }) (9000 + 8000000)) := by decide +kernel
theorem test_request_timeout : after (exec (.requestTimeout .legal) (upObj fun o => { o with legalQ := [req7] })) (fun t => (now t, t.obj.legalQ.length, t.obj.abandoned, (t.hst.getD 0 HPort.zero).objs.map (·.take 2))) =
    some (8009000, 0, 1, [[0x82, 1]]) := by decide +kernel
theorem test_request_taken : after (exec (.requestTimeout .legal) (upObj fun o => { o with legalQ := [req7], taken := [{ req7 with born := 8999 }] })) (fun t => (now t, t.obj.legalQ.length, t.obj.taken.length)) =
    some (8008999, 1, 0) := by decide +kernel
theorem test_idle_port : after (exec (.associationIdleTimeout .hosta 0) (upObj fun o => { o with ports := o.ports.set 0 { Assoc.zero with role := 2, last := 9000 } })) (fun t => (now t, (t.obj.ports.getD 0 Assoc.zero).role)) =
    some (1200009000, 0) := by decide +kernel
theorem test_idle_site : after (exec (.associationIdleTimeout .site 5) (upObj fun o => { o with site := [{ Assoc.zero with node := 5, last := 9000 }] })) (fun t => (now t, t.obj.site.length)) = some (1200009000, 0) := by decide +kernel
/-- ObjectRequestsAreJudgedServedAndQueued: the standing premises, and one answer of each kind. -/
def upReq (role : Nat) : State :=
  upObj fun o => { o with ports := o.ports.set 0 { Assoc.zero with role := role }, acl := [{ cls := 4, instLo := 0, instHi := 65535, attrLo := 0, attrHi := 255, rights := 0x3FFFF },
    { cls := 5, instLo := 0, instHi := 65535, attrLo := 0, attrHi := 255, rights := 0x3FFFF }, { cls := 0x80, instLo := 0, instHi := 65535, attrLo := 0, attrHi := 255, rights := 0x3FFFF }] }
theorem wit_requests : alive (upReq 0) = true ∧ (upReq 0).clk.bootStage ≠ 3 ∧ (upReq 0).obj.ports.length = 3 ∧ (upReq 0).obj.fails.length = 4 ∧ (upReq 0).obj.lockEnd.length = 4 ∧ (65535 < 2 ^ 16) := by decide +kernel
def said (t : State) : List (List Byte) := (t.hst.getD 0 HPort.zero).objs.map fun b => b.take 2 ++ b.drop 12
theorem test_obj_read : after (exec (.read .hosta 0 9 0x04000000 0 8) (upReq 0)) said = some [[0x81, 0, 8, 0, 0, 0, 0, 0, 0, 0, 0, 0, 0, 0]] := by decide +kernel
theorem test_obj_read_beyond : after (exec (.read .hosta 0 9 0x04000000 71 2) (upReq 0)) said = some [[0x81, 6, 0, 0, 0, 0]] := by decide +kernel
theorem test_obj_denied : after (exec (.write .hosta 0 9 0x05000080 [1]) (upReq 0)) said = some [[0x82, 2, 0, 0, 0, 0]] := by decide +kernel
theorem test_obj_write : after (exec (.write .hosta 0 9 0x05000080 [1]) (upReq 2)) (fun t => (t.obj.legalQ.map (·.data), t.legal.ctl.evpend)) = some ([[1]], 0x80) := by decide +kernel
theorem test_obj_exec : after (exec (.exec .hosta 0 9 0x800000C5 [1]) (upReq 2)) (fun t => (t.obj.openQ.map (·.exec), t.obj.legalQ.length)) = some ([true], 0) := by decide +kernel
theorem case_obj_duplicate : after (exec (.write .hosta 0 9 0x05000080 [1]) (let s := upReq 2; { s with obj := { s.obj with legalQ := [req7] } })) said = some [[0x82, 7, 0, 0, 0, 0]] := by decide +kernel
theorem case_obj_site_full : after (exec (.read .site 99 9 0x04000000 0 8) (upObj fun o => { o with site := List.replicate 16 { Assoc.zero with role := 2 } })) (fun t => t.obj.siteOut.map fun e => (e.1, e.2.take 2)) =
    some [(99, [0x81, 1])] := by decide +kernel
theorem case_obj_site_new : after (exec (.read .site 99 9 0x04000000 0 8) (upReq 0)) (fun t => t.obj.site.map (·.node)) = some [99] := by decide +kernel
/-- Operators authenticate with the key of slot 9, drivers with a proof of that slot's key, in lifecycle state 2. -/
def upAuth : State :=
  { up with
    key := { up.key with drbgOk := true, shadow := 1, recs := up.key.recs.set 9 { SlotRec.zero with st := 1, attr0 := 0x00400800 }, cache := up.key.cache.set 9 (some { key := List.replicate 32 3, gen := 0 }) }
    obj := { up.obj with keySlots := [9, 9, 9, 9, 9] } }
theorem test_auth_begin : after (exec (.authBegin .hosta 0 9 [2]) upAuth) (fun t => ((t.obj.ports.getD 0 Assoc.zero).nonce.map fun n => (n.1.length, n.2), t.key.requests, (t.hst.getD 0 HPort.zero).objs.length)) =
    some (some (16, (2, 10000)), 1, 1) := by decide +kernel
theorem test_auth_begin_denied : after (exec (.authBegin .hosta 0 9 [1]) (upReq 0)) said = some [[0x84, 2, 0, 0, 0, 0]] := by decide +kernel
theorem case_auth_begin_role : after (exec (.authBegin .hosta 0 9 [6]) upAuth) said = some [[0x84, 6, 0, 0, 0, 0]] := by decide +kernel
def nonceOf (role t1 : Nat) : State := { upAuth with obj := { upAuth.obj with ports := upAuth.obj.ports.set 0 { Assoc.zero with nonce := some (List.replicate 16 5, role, t1) } } }
def driverProof : List Nat :=
  let c := [1, 0, 0, 0, 3]
  let m := hmac (kdf (List.replicate 32 3) 0x10 0 2 c 256) (List.replicate 16 5 ++ uidBytes upAuth ++ [4, 1])
  c.map (·.toNat) ++ m.map (·.toNat)
theorem wit_prove : roleGranted 1 (lcState upAuth) = true ∧ proofOk upAuth 0 1 (List.replicate 16 5) (driverProof.map (BitVec.ofNat 8)) = true := by decide +kernel
theorem test_prove : after (exec (.authProve .hosta 0 9 driverProof true) (nonceOf 1 9000)) (fun t => ((t.obj.ports.getD 0 Assoc.zero).role, (t.obj.ports.getD 0 Assoc.zero).mp, (t.obj.ports.getD 0 Assoc.zero).sessid, said t)) =
    some (1, 3, 1, [[0x85, 0, 0, 0, 0, 0]]) := by decide +kernel
theorem test_prove_late : after (exec (.authProve .hosta 0 9 [] true) { nonceOf 1 9000 with clk := { up.clk with modtick := 40009001 } }) said = some [[0x85, 7, 0, 0, 0, 0]] := by decide +kernel
theorem case_prove_bad : after (exec (.authProve .hosta 0 9 [] true) (nonceOf 1 9000)) (fun t => (said t, t.obj.fails.getD 0 0, t.obj.lockEnd.getD 0 0, t.obj.authFail)) = some ([[0x85, 2, 0, 0, 0, 0]], 1, 4010000, 1) := by decide +kernel
theorem test_logout : after (exec (.logout .hosta 0 9) (upReq 2)) (fun t => ((t.obj.ports.getD 0 Assoc.zero).role, said t)) = some (0, [[0x86, 0, 0, 0, 0, 0]]) := by decide +kernel

/-! ### Witnesses for KEY and posted operations (11; 05) -/

/-- Slot 9 holds key 3…3 with attributes `v`; the DRBG runs. -/
def upKey (v : Word) : State :=
  { up with key := { up.key with drbgOk := true, recs := up.key.recs.set 9 { SlotRec.zero with st := 1, attr0 := v }, cache := up.key.cache.set 9 (some { key := List.replicate 32 3, gen := 0 }) } }
def vSign : Word := 0x03080504
def vMac : Word := 0x02100504
def vEnc : Word := 0x01200504
def vDer : Word := 0x02C00504
theorem wit_key_sign : Issues (withRec [6, 9, 0x1000, 4, 0x2000] (upKey vSign)) .headland 5 .key .more 6 L [6, 9, 0x1000, 4, 0x2000, 0] ∧ isWorld L = true ∧ (upKey vSign).key.recs.length = 64 ∧
    (upKey vSign).key.cache.length = 64 ∧ (upKey vSign).key.pendKeys.length = 64 ∧ bufOk (withRec [6, 9, 0x1000, 4, 0x2000] (upKey vSign)) .legal 0x2000 64 = true ∧ vSign.getLsbD 2 = true ∧ vSign.getLsbD 8 = true ∧
    vSign.getLsbD (9 + lcState up) = true ∧ vSign.getLsbD 19 = true ∧ bits vSign 27 24 = 3 ∧ (upKey vSign).key.scuttle = 0 := ⟨issues_of (by decide +kernel), by decide +kernel⟩
theorem test_sign : after (exec (.keySign .headland 5) (withRec [6, 9, 0x1000, 4, 0x2000] (upKey vSign))) (fun t => (g1 t, t.posts.map fun p => (p.op, p.outcome))) = some (0, [(0, none)]) := by decide +kernel
theorem test_sign_type : after (exec (.keySign .headland 5) (withRec [6, 9, 0x1000, 4, 0x2000] (upKey vMac))) g1 = some 2 := by decide +kernel
theorem case_sign_unloaded : after (exec (.keySign .headland 5) (withRec [6, 10, 0x1000, 4, 0x2000] (upKey vSign))) g1 = some 7 := by decide +kernel
theorem case_sign_range : after (exec (.keySign .headland 5) (withRec [6, 9, 0x1001, 4, 0x2000] (upKey vSign))) g1 = some 6 := by decide +kernel
theorem case_sign_fault : after (exec (.keySign .headland 5) (withRec [6, 9, 0x1000, 4, 0x2000] (let s := upKey vSign; { s with key := { s.key with drbgOk := false } }))) g1 = some 9 := by decide +kernel
theorem case_sign_dead : after (exec (.keySign .headland 5) (withRec [6, 9, 0x1000, 4, 0x2000] (let s := upKey vSign; { s with key := { s.key with scuttle := 1 } }))) g1 = some 2 := by decide +kernel
theorem test_verify_stale : after (exec (.keyVerify .headland 5) (withRec [6, 9, 0x1000, 4, 0x2000] (let s := upKey vSign; { s with key := { s.key with recs := s.key.recs.modify 9 fun r => { r with gen := 1 } } }))) g1 = some 4 := by decide +kernel
theorem test_mac : after (exec (.keyMac .headland 5) (withRec [6, 9, 0x1000, 4, 0x2000] (upKey vMac))) (fun t => (g1 t, t.posts.map (·.op))) = some (0, [2]) := by decide +kernel
theorem wit_gcm : Issues (withRec [8, 9, 0x1000, 0x1100, 0x00040004, 0x1200, 0x1300, 0x1400] (upKey vEnc)) .headland 5 .key .more 8 L [8, 9, 0x1000, 0x1100, 0x00040004, 0x1200, 0x1300, 0x1400] := issues_of (by decide +kernel)
theorem test_gcm : after (exec (.keyGcmEncrypt .headland 5) (withRec [8, 9, 0x1000, 0x1100, 0x00040004, 0x1200, 0x1300, 0x1400] (upKey vEnc))) (fun t => (g1 t, t.posts.map (·.op))) = some (0, [3]) := by decide +kernel
theorem test_gcm_decrypt_denied : after (exec (.keyGcmDecrypt .headland 5) (withRec [8, 0x109, 0x1000, 0x1100, 0x00040004, 0x1200, 0x1300, 0x1400] (upKey vMac))) g1 = some 2 := by decide +kernel
theorem wit_derive : Issues (withRec [5, 0x0A09, 0x1000, 4, 0x02100504] (upKey vDer)) .headland 5 .key .more 5 L [5, 0x0A09, 0x1000, 4, 0x02100504] ∧ attrValid 0x02100504 = true ∧ slotFree (upKey vDer) 10 = true :=
  ⟨issues_of (by decide +kernel), by decide⟩
theorem test_derive_wider : after (exec (.keyDerive .headland 5) (withRec [5, 0x0A09, 0x1000, 4, 0x02100504] (upKey vDer))) g1 = some 6 := by decide +kernel
theorem test_derive : after (exec (.keyDerive .headland 5) (withRec [5, 0x0A09, 0x1000, 4, 0x02400504] (upKey vDer))) (fun t => (g1 t, t.posts.map (·.op))) = some (0, [4]) := by decide +kernel
theorem test_wrap : after (exec (.keyWrap .headland 5) (withRec [5, 9, 0x1000] (upKey vDer))) (fun t => (g1 t, t.posts.map (·.op))) = some (0, [5]) := by decide +kernel
def upBlob (b : List Byte) (v : Word) : State := let s := withRec [5, 0, 0x1000] (upKey v); { s with hl := { s.hl with dmem := Mem.writeN s.hl.dmem 0x1000 b } }
theorem test_unwrap : after (exec (.keyUnwrap .headland 5) (upBlob [1, 9, 1, 1, 0, 0, 0, 0, 4, 5, 0x10, 2, 0x7F] vMac)) (fun t => (g1 t, t.posts.map (·.op))) = some (0, [6]) := by decide +kernel
theorem test_unwrap_world : after (exec (.keyUnwrap .headland 5) (upBlob [1, 9, 2, 1, 0, 0, 0, 0, 4, 5, 0x10, 2, 0x7F] vMac)) g1 = some 2 := by decide +kernel
theorem wit_key_write : Issues (withRec [12, 0x7F09, 0x02100504, 1, 2, 3] (upKey vMac)) .headland 5 .key .more 12 L [12, 0x7F09, 0x02100504, 1, 2, 3, 0, 0, 0, 0, 0, 0] ∧ (0x7F09 : Word) &&& 0xFEFF80C0 = 0 ∧
    ((upKey vMac).key.recs.getD 9 default).pend = false := ⟨issues_of (by decide +kernel), by decide⟩
theorem test_key_write : after (exec (.keyWrite .headland 5) (withRec [12, 0x7F09, 0x02100504, 1, 2, 3] (upKey vMac)))
    (fun t => (g1 t, (t.key.recs.getD 9 default).pendGen, (t.key.recs.getD 9 default).attr1, (t.key.pendKeys.getD 9 none).map (·.take 5))) = some (0, 1, 0x02100504, some [1, 0, 0, 0, 2]) := by decide +kernel
theorem test_key_write_range : after (exec (.keyWrite .headland 5) (withRec [12, 0x7F03, 0x02100504] (upKey vMac))) g1 = some 6 := by decide +kernel
def upPend : State := let s := upKey vMac; { s with key := { s.key with recs := s.key.recs.modify 9 fun r => { r with pend := true, pendGen := 5 }, pendKeys := s.key.pendKeys.set 9 (some (List.replicate 32 8)) } }
theorem wit_commit : Issues (withRec [3, 9, 5] upPend) .headland 5 .key .more 3 L [3, 9, 5] ∧ (5 : Word) &&& 0xFF000000 = 0 ∧ (upPend.key.recs.getD 9 default).pendGen = (5 : Word).toNat := ⟨issues_of (by decide +kernel), by decide⟩
theorem test_commit : after (exec (.keyCommit .headland 5) (withRec [3, 9, 5] upPend)) (fun t => (g1 t, (t.key.recs.getD 9 default).gen, (t.key.recs.getD 9 default).bank, (t.key.cache.getD 9 none).map fun z => z.key.take 1)) =
    some (0, 5, true, some [8]) := by decide +kernel
theorem test_commit_stale : after (exec (.keyCommit .headland 5) (withRec [3, 9, 4] upPend)) g1 = some 4 := by decide +kernel
theorem test_inval : after (exec (.keyInval .headland 5) (withRec [3, 9] upPend)) (fun t => (g1 t, (t.key.recs.getD 9 default).st, t.key.cache.getD 9 none, t.key.pendKeys.getD 9 none)) = some (0, 2, none, none) := by decide +kernel
theorem wit_attest : Issues (withRec [6, 0, 0x1000, 0x1100, 617] (upKey vMac)) .headland 5 .key .more 6 L [6, 0, 0x1000, 0x1100, 617, 0] ∧ lcState up < 5 ∧ (617 : Word) &&& 0xFFFF0000 = 0 := ⟨issues_of (by decide +kernel), by decide⟩
theorem test_attest : after (exec (.keyAttest .headland 5) (withRec [6, 0, 0x1000, 0x1100, 617] (upKey vMac))) (fun t => (g1 t, t.posts.map (·.op))) = some (0, [11]) := by decide +kernel
theorem wit_rand : Issues (withRec [4] (upKey vMac)) .headland 5 .key .more 4 L [4, 0, 0, 0] ∧ (upKey vMac).key.requests < 65536 ∧ up.clk.ref < (upKey vMac).key.reseedAt + 1440000000 := ⟨issues_of (by decide +kernel), by decide⟩
theorem test_rand : after (exec (.keyRand .headland 5) (withRec [4] (upKey vMac))) (fun t => (g1 t, t.key.requests, t.free)) = some (0, 1, 1) := by decide +kernel
theorem test_rand_busy : after (exec (.keyRand .headland 5) (withRec [4] (let s := upKey vMac; { s with key := { s.key with requests := 65536 } }))) g1 = some 1 := by decide +kernel
theorem wit_key_mask : Issues (withRec [2, 8000] up) .headland 5 .key .more 2 L [2, 8000] ∧ 125 ≤ (125 : Word).toNat ∧ (8000 : Word).toNat ≤ 8000 := ⟨issues_of (by decide +kernel), by decide⟩
theorem test_key_mask : after (exec (.keyMask .headland 5) (withRec [2, 125] up)) (fun t => (g1 t, t.key.period)) = some (0, 125) := by decide +kernel
theorem test_key_mask_range : after (exec (.keyMask .headland 5) (withRec [2, 124] up)) g1 = some 6 := by decide +kernel
theorem wit_key_rdst : Issues (withRec [6] (upKey vMac)) .headland 5 .key .read 6 L [6, 0, 0, 0, 0, 0] := issues_of (by decide +kernel)
theorem test_key_rdst : after (exec (.keyRdst .headland 5) (withRec [6] (upKey vMac))) (fun t => (rec t 1, rec t 3)) = some (0x1101, 0x200) := by decide +kernel
/-- PostedOperationsRunAndKeysLiveAndDie. -/
def post (op : Nat) (ws : List Word) (o : Option Nat) (s : State) : State :=
  { s with posts := [{ unit := .key, world := .legal, live := true, addr := 0x200, op := op, words := ws, outcome := o, results := [(2, 7)] }] }
theorem wit_posted : ((post 9 [3, 9] (some 0) (upKey vMac)).posts.find? fun p => p.unit == .key && p.world == .legal).isSome = true ∧ alive (upKey vMac) = true ∧ absentUnit up .key = false := by decide +kernel
theorem test_posted : after (exec (.postedOperationComplete .key .legal) (post 9 [3, 9] (some 0) (upKey vMac))) (fun t => (t.posts.length, rec t 2, t.legal.ctl.evpend)) = some (0, 7, 0x100) := by decide +kernel
theorem test_posted_other : after (exec (.postedOperationComplete .bil .legal) (post 9 [3, 9] (some 0) (upKey vMac))) (fun t => t.posts.length) = some 1 := by decide +kernel
theorem case_posted_mac : after (exec (.postedOperationComplete .key .legal) (post 2 [6, 9, 0x1000, 0, 0x2000, 0] none (upKey vMac))) (fun t => dataRead t L 0x2000 4) =
    some ((hmac (List.replicate 32 3) []).take 4) := by decide +kernel
theorem case_posted_derive : after (exec (.postedOperationComplete .key .legal) (post 4 [5, 0x0A09, 0x1000, 4, 0x02400504] none (upKey vDer))) (fun t => ((t.key.cache.getD 10 none).isSome, (t.key.recs.getD 10 default).link0, (t.key.recs.getD 10 default).vol)) =
    some (true, 9, true) := by decide +kernel
theorem case_posted_unwrap_stale : after (exec (.postedOperationComplete .key .legal) (post 6 [5, 0, 0x1000, 0, 0] none (upBlob [1, 10, 1, 1, 0, 0, 0, 0, 4, 5, 0x10, 2, 0x7F] vMac))) (fun t => (t.posts.length, t.key.cache.getD 10 none)) = some (0, none) := by decide +kernel
theorem wit_erase : Issues (withRec [2] (upKey vMac)) .headland 5 .key .more 2 L [2, 0] ∧ (upKey vMac).key.scuttle = 0 ∧ Room (withRec [2] (upKey vMac)) L .key := ⟨issues_of (by decide +kernel), by decide +kernel, by unfold Room; decide⟩
theorem test_erase : after (exec (.keyErase .headland 5 true) (withRec [2] (upKey vMac))) (fun t => (g1 t, t.key.scuttle, t.key.cache.getD 9 none, t.key.erases, lcState t)) = some (0, 0xFFFFFFFF, none, 1, 5) := by decide +kernel
theorem test_erase_disagree : after (exec (.keyErase .headland 5 false) (withRec [2] (upKey vMac))) (fun t => (g1 t, t.key.scuttle, t.posts.map (·.outcome))) = some (0, 0, [some 9]) := by decide +kernel
/-- A lifecycle token: goal, role, the fuse word and the UID. -/
def token (goal role : Byte) : List Byte := [goal, role, 0, 0] ++ le 4 0 ++ le 4 1 ++ le 4 0 ++ List.replicate 64 0
def upLife (goal role : Byte) (v : Word) : State :=
  let s := withRec [3, 0x1000] (upKey v)
  { s with hl := { s.hl with dmem := Mem.writeN s.hl.dmem 0x1000 (token goal role) }, obj := { s.obj with keySlots := [9, 9, 9, 9, 9] } }
theorem wit_life : Issues (upLife 6 4 vSign) .headland 5 .key .more 3 L [3, 0x1000, 0] ∧ bufOk (upLife 6 4 vSign) .legal 0x1000 80 = true ∧ lcState (upLife 6 4 vSign) ≠ 6 ∧ moveCond (upLife 6 4 vSign) 6 = true ∧
    fld 2 2 (dataRead (upLife 6 4 vSign) L 0x1000 80) = 0 ∧ fld 4 4 (dataRead (upLife 6 4 vSign) L 0x1000 80) = (upLife 6 4 vSign).key.shadow ∧
    slice 8 8 (dataRead (upLife 6 4 vSign) L 0x1000 80) = le 4 1 ++ le 4 0 ∧ rolePub (upLife 6 4 vSign) 4 = some (List.replicate 64 0) := ⟨issues_of (by decide +kernel), by decide +kernel⟩
theorem test_life_order : after (exec (.keyLife .headland 5 true) (upLife 2 4 vSign)) (fun t => (g1 t, lcState t)) = some (7, 1) := by decide +kernel
theorem test_life_idle : after (exec (.keyLife .headland 5 true) (let s := upLife 5 4 vSign; { s with key := { s.key with scuttle := 1 } })) (fun t => (g1 t, t.posts.map (·.outcome))) = some (0, [some 0]) := by decide +kernel
theorem wit_remask : lcFuse (upKey vMac).fuse = (upKey vMac).key.shadow ∧ (upKey vMac).key.remaskAt + 24 * 1000 ≤ (dueRef (upKey vMac) 24000).clk.ref := by decide +kernel
theorem test_remask : after (exec .remask (upKey vMac)) (fun t => (t.clk.ref, t.key.remaskAt, t.free)) = some (24000, 24000, 1) := by decide +kernel
theorem test_remask_misread : after (exec .remask (let s := upKey vMac; { s with fuse := { s.fuse with lc := s.fuse.lc.set 0 3 } })) (fun t => (t.tmp.notes, t.key.shadow)) = some ([24000], 0) := by decide +kernel
theorem test_reseed : after (exec .drbgReseed (let s := upKey vMac; { s with key := { s.key with requests := 65536 } })) (fun t => (t.clk.ref, t.key.requests, t.key.reseedAt)) = some (1000, 0, 1000) := by decide +kernel
theorem test_reseed_time : after (exec .drbgReseed (upKey vMac)) (fun t => (t.clk.ref, t.key.reseedAt)) = some (1440000000, 1440000000) := by decide +kernel
theorem test_entropy_fail : after (exec (.entropyFail true) (upKey vMac)) (fun t => (t.key.drbgOk, t.key.entropyFail, t.key.restartAt, t.ldg.subSeq)) = some (false, true, 1000, 1) := by decide +kernel
theorem test_entropy_restart : after (exec (.entropyRestartTest true) up) (fun t => (t.clk.ref, t.key.drbgOk)) = some (240000000, true) := by decide +kernel
theorem wit_tamp : let s := { up with key := { up.key with tampPend := true } }; s.key.tampPend = true ∧ s.clk.pfw = none ∧ s.fuse.lc.length = 10 := by decide +kernel
theorem test_tamp : after (exec .tamperFuse { up with key := { up.key with tampPend := true } }) (fun t => (t.fuse.lc.getD 8 0, t.key.shadow, t.key.tampPend, t.ldg.subSeq)) = some (3, 256, false, 1) := by decide +kernel

/-! ### Witnesses for the site link (14): operations -/

/-- NODE 7 of network 0x51, trunk, rank 3, NETKEY slot 9, a member of node 9's network whose beacon region began 10000 MOD cycles ago. -/
def upSit (st : Nat) : State :=
  let s := upKey 0x02C00544
  { s with sit := { Sit.zero with
      st := st, cfg := [0x50310007, 0x00030009, 0x51, 0x0808], jn := List.replicate 16 5, members := 2 ^ 7 + 2 ^ 9, medAt := 10000
      bcn := some { coord := 9, backup := 0xFE, flags := 16, bpi := 40, epoch := 6, crank := 1, period := 20480000, start := 0, members := 2 ^ 7 + 2 ^ 9 }
      nbrs := [{ Nbr.zero 9 with uid := [1, 2, 3, 4, 5, 6, 7, 8], jn := List.replicate 16 6, hi := some 100, seen := [100], heard := 5000 }] } }
def sRec (ws : List Word) (st : Nat) : State := withRec ws (upSit st)
theorem wit_sit_absent : let s := withRec [8] { up with fuse := { up.fuse with variant := .fm } }; absentUnit (fetched s L) .sit = true ∧ Runs s .headland L ∧ recExc (fetched s L) L (getG (fetched s L) L 5) = none :=
  ⟨by decide +kernel, by unfold Runs; decide, by decide⟩
theorem test_sit_absent : after (exec (.sitNbr .headland 5) (withRec [8] { up with fuse := { up.fuse with variant := .fm } })) g1 = some 3 := by decide +kernel
def joinWs : List Word := [8, 0x50310007, 0x00030009, 0x51, 0x0808]
theorem wit_sit_cfg : Issues (sRec joinWs 0) .headland 5 .sit .more 8 L [8, 0x50310007, 0x00030009, 0x51, 0x0808, 0, 0, 0] ∧ L ≠ .world .opn ∧ (0x50310007 : Word) &&& 0x0700FF00 = 0 ∧
    (0x00030009 : Word) &&& 0xFF003FC0 = 0 ∧ (upSit 0).sit.st < 3 := ⟨issues_of (by decide +kernel), by decide⟩
theorem test_sit_join : after (exec (.sitCfgJoin .headland 5) (sRec joinWs 0)) (fun t => (g1 t, t.sit.st, t.sit.cfg, t.legal.ctl.evpend)) = some (0, 2, joinWs.tail, 0x400) := by decide +kernel
theorem test_sit_join_nokey : after (exec (.sitCfgJoin .headland 5) (let s := sRec joinWs 0; { s with key := { s.key with cache := s.key.cache.set 9 none } })) (fun t => (g1 t, t.sit.st)) = some (0, 1) := by decide +kernel
theorem case_sit_join_reduced : after (exec (.sitCfgJoin .headland 5) (let s := sRec joinWs 0; { s with clk := { s.clk with mode := 3 } })) (fun t => (g1 t, t.sit.st)) = some (0, 8) := by decide +kernel
theorem case_sit_join_member : after (exec (.sitCfgJoin .headland 5) (sRec joinWs 4)) (fun t => (g1 t, t.sit.st)) = some (7, 4) := by decide +kernel
theorem test_sit_leave : after (exec (.sitCfgLeave .headland 5) (sRec [8, 0x90310007, 0x00030009, 0x51, 0x0808] 4)) (fun t => (g1 t, t.sit.st)) = some (0, 0) := by decide +kernel
theorem test_sit_cfg_range : after (exec (.sitCfg .headland 5) (sRec [8, 0x103100FE, 0x00030009, 0x51, 0x0808] 0)) g1 = some 6 := by decide +kernel
/-- The OPEN world's record: a denied operation. -/
def openRec (ws : List Word) (s : State) : State :=
  { s with
    legal := { s.legal with waiting := true }
    hl := { s.hl with dmem := Mem.writeN s.hl.dmem 0x80200 (ws.flatMap fun w => le 4 w.toNat), run := true }
    opn := { s.opn with bank := { s.opn.bank with g := s.opn.bank.g.set 5 0x80200 } } }
theorem wit_sit_open : Issues (openRec [8] (upSit 4)) .headland 5 .sit .more 8 O [8, 0, 0, 0, 0, 0, 0, 0] := issues_of (by decide +kernel)
theorem test_sit_open_denied : after (exec (.sitCfg .headland 5) (openRec [8] (upSit 4))) (fun t => getG t O 1) = some 2 := by decide +kernel
def sendWs : List Word := [6, 0x09000004, 0x1000, 0, 0]
theorem wit_sit_send : Issues (sRec sendWs 4) .headland 5 .sit .more 6 L [6, 0x09000004, 0x1000, 0, 0, 0] ∧ (0x09000004 : Word) &&& 0x00FCF800 = 0 ∧ memOk (sRec sendWs 4) L 0x1000 4 false = true ∧
    bits 0x09000004 31 24 ≠ bits ((upSit 4).sit.cfg.getD 0 0) 7 0 ∧ Room (sRec sendWs 4) L .sit := ⟨issues_of (by decide +kernel), by decide +kernel, by decide +kernel, by decide +kernel, by unfold Room; decide⟩
theorem test_sit_send : after (exec (.sitSend .headland 5) (sRec sendWs 4)) (fun t => (g1 t, t.sit.q.map fun e => (e.dest, e.typ, e.payload.length), (nbr t 9).lseq, t.posts.map (·.op))) =
    some (0, [(9, 5, 4)], 1, [1]) := by decide +kernel
theorem test_sit_send_self : after (exec (.sitSend .headland 5) (sRec [6, 0x07000004, 0x1000] 4)) g1 = some 6 := by decide +kernel
theorem wit_sit_tmap : Issues (sRec [6, 11, 0x1000] 4) .headland 5 .sit .more 6 L [6, 11, 0x1000, 0, 0, 0] ∧ memOk (sRec [6, 11, 0x1000] 4) L 0x1000 32 false = true ∧ (upSit 4).sit.swap = false ∧
    dataRead (sRec [6, 11, 0x1000] 4) L 0x1000 32 = List.replicate 32 0 := ⟨issues_of (by decide +kernel), by decide⟩
theorem test_sit_tmap : after (exec (.sitTmap .headland 5) (sRec [6, 11, 0x1000] 4)) (fun t => (g1 t, t.sit.sgen, (t.sit.shadow.getD 11 none).isSome)) = some (0, 1, true) := by decide +kernel
theorem test_sit_tmap_range : after (exec (.sitTmap .headland 5) (sRec [6, 12, 0x1000] 4)) g1 = some 6 := by decide +kernel
theorem case_sit_tmap_busy : after (exec (.sitTmap .headland 5) (let s := sRec [6, 11, 0x1000] 4; { s with sit := { s.sit with swap := true } })) g1 = some 1 := by decide +kernel
def fullMap (s : State) : State := { s with sit := { s.sit with shadow := List.replicate 12 (some (List.replicate 32 0x22)) } }
theorem wit_sit_tswap : Issues (fullMap (sRec [3] 4)) .headland 5 .sit .more 3 L [3, 0, 0] ∧ (∀ z ∈ (fullMap (upSit 4)).sit.shadow, z.isSome) ∧ Room (fullMap (sRec [3] 4)) L .sit ∧
    Issues (sRec [3] 4) .headland 5 .sit .more 3 L [3, 0, 0] := ⟨issues_of (by decide +kernel), by decide +kernel, by unfold Room; decide, issues_of (by decide +kernel)⟩
theorem test_sit_tswap : after (exec (.sitTswap .headland 5) (fullMap (sRec [3] 4))) (fun t => (g1 t, t.sit.swap)) = some (0, true) := by decide +kernel
theorem test_sit_tswap_order : after (exec (.sitTswap .headland 5) (sRec [3] 4)) g1 = some 7 := by decide +kernel
def aMsg : SMsg := { src := 9, lseq := 77, trk := true, robust := false, data := [1, 2, 3, 4, 5] }
def upRecv : State := let s := sRec [5, 0, 0x1000] 4; { s with sit := { s.sit with legalQ := [aMsg] } }
theorem wit_sit_recv : Issues upRecv .headland 5 .sit .more 5 L [5, 0, 0x1000, 0, 0] ∧ memOk upRecv L 0x1000 1024 true = true ∧ upRecv.sit.legalQ = aMsg :: [] ∧
    Issues (sRec [5, 0x10000, 0x1000] 4) .headland 5 .sit .more 5 L [5, 0x10000, 0x1000, 0, 0] ∧ (upSit 4).sit.openQ = [] := ⟨issues_of (by decide +kernel), by decide +kernel, by decide +kernel, issues_of (by decide +kernel), by decide⟩
theorem test_sit_recv : after (exec (.sitRecv .headland 5) upRecv) (fun t => (g1 t, rec t 1, rec t 3, t.sit.legalQ.length, dataRead t L 0x1004 1)) = some (0, 0x09000005, 0x1004D, 0, [5]) := by decide +kernel
theorem test_sit_recv_empty : after (exec (.sitRecv .headland 5) (sRec [5, 0x10000, 0x1000] 4)) (fun t => (g1 t, rec t 1)) = some (0, 0x10000) := by decide +kernel
theorem wit_sit_nbr : Issues (sRec [8, 9] 4) .headland 5 .sit .more 8 L [8, 9, 0, 0, 0, 0, 0, 0] ∧ (upSit 4).sit.members.testBit 9 = true ∧ Issues (sRec [8, 7] 4) .headland 5 .sit .more 8 L [8, 7, 0, 0, 0, 0, 0, 0] ∧
    bits (7 : Word) 7 0 = bits ((upSit 4).sit.cfg.getD 0 0) 7 0 ∧ (upSit 4).sit.members.testBit 8 = false := ⟨issues_of (by decide +kernel), by decide +kernel, issues_of (by decide +kernel), by decide +kernel, by decide⟩
theorem test_sit_nbr : after (exec (.sitNbr .headland 5) (sRec [8, 9] 4)) (fun t => (g1 t, rec t 2, rec t 7)) = some (0, 40, 0) := by decide +kernel
theorem case_sit_nbr_self : after (exec (.sitNbr .headland 5) (sRec [8, 7] 5)) (fun t => (g1 t, rec t 2)) = some (0, 0x40300000) := by decide +kernel
theorem case_sit_nbr_unknown : after (exec (.sitNbr .headland 5) (sRec [8, 8] 4)) g1 = some 6 := by decide +kernel
theorem wit_sit_rdst : Issues (sRec [8] 4) .headland 5 .sit .read 8 L [8, 0, 0, 0, 0, 0, 0, 0] ∧ (upSit 4).sit.st < 16 := ⟨issues_of (by decide +kernel), by decide⟩
theorem test_sit_rdst : after (exec (.sitRdst .headland 5) (sRec [8] 4)) (fun t => (g1 t, rec t 1, rec t 2, rec t 3, rec t 4)) = some (0, 4, 0x09FE0006, 40, 2) := by decide +kernel

/-! ### Witnesses for the site link (14): received frames -/

theorem le_length (k n : Nat) : (le k n).length = k := by simp [le]
theorem fit_length (k : Nat) (b : List Byte) : (fit k b).length = k := by simp [fit]; omega
theorem slice_app (o k : Nat) (a b : List Byte) (h : o + k ≤ a.length) : slice o k (a ++ b) = slice o k a := by
  simp only [slice, fit]
  rw [List.drop_append_of_le_length (by omega), List.append_assoc, List.take_append_of_le_length (by simp; omega), List.take_append_of_le_length (by simp; omega)]
theorem slice_mid (a b c : List Byte) : slice a.length b.length (a ++ (b ++ c)) = b := by
  simp only [slice, fit, List.drop_left]
  rw [List.append_assoc, List.take_left]
theorem fld_app (o k : Nat) (a b : List Byte) (h : o + k ≤ a.length) : fld o k (a ++ b) = fld o k a := by simp only [fld, slice_app o k a b h]
theorem unle_le4 (n : Nat) (h : n < 2 ^ 32) : unle (le 4 n) = n := by
  simp [le, unle, List.range, List.range.loop]
  omega

/-- A frame: frame control `c`, header and payload `b`, TAG `t`, and its FCS. -/
def wire (c b t : List Byte) : List Byte := c ++ ((b ++ t) ++ le 4 (crc32c (b ++ t)).toNat)
def asNats (f : List Byte) : List Nat := f.map (·.toNat)
theorem of_asNats (f : List Byte) : (asNats f).map (BitVec.ofNat 8) = f := by simp [asNats, Function.comp_def]

/-- What a receiver finds in such a frame. -/
theorem wire_parts (c b t : List Byte) (hc : c.length = 16) (ht : t.length = 16) :
    let f := wire c b t
    let m := f.drop 16
    16 ≤ f.length ∧ f.take 14 = c.take 14 ∧ m.length = b.length + 20 ∧ m.take b.length = b ∧ slice b.length 16 m = t ∧
    fld (b.length + 16) 4 m = (crc32c (m.take (b.length + 16))).toNat ∧ (∀ o k, o + k ≤ 16 → fld o k f = fld o k c) ∧
    (∀ o k, o + k ≤ b.length → fld o k m = fld o k b ∧ slice o k m = slice o k b) := by
  intro f m
  have hm : m = (b ++ t) ++ le 4 (crc32c (b ++ t)).toNat := by simp only [m, f, wire, ← hc, List.drop_left]
  have hl : (b ++ t).length = b.length + 16 := by simp [ht]
  refine ⟨by simp [f, wire, hc], ?_, by simp [hm, ht, le_length], by simp [hm], ?_, ?_, ?_, ?_⟩
  · simp only [f, wire]; rw [List.take_append_of_le_length (by omega)]
  · rw [hm, List.append_assoc]; have := slice_mid b t (le 4 (crc32c (b ++ t)).toNat); rwa [ht] at this
  · have e : m.take (b.length + 16) = b ++ t := by rw [hm, ← hl, List.take_left]
    rw [e]
    have := slice_mid (b ++ t) (le 4 (crc32c (b ++ t)).toNat) []
    rw [le_length, hl, List.append_nil, ← hm] at this
    rw [fld, this]; exact unle_le4 _ (crc32c (b ++ t)).isLt
  · intro o k h; exact fld_app _ _ _ _ (by omega)
  · intro o k h
    rw [hm]
    exact ⟨by rw [fld_app _ _ _ _ (by omega), fld_app _ _ _ _ h], by rw [slice_app _ _ _ _ (by omega), slice_app _ _ _ _ h]⟩

/-- TAG of a frame with header and payload `b` under `k`. -/
def tagOf (k b : List Byte) (ty : Nat) : List Byte :=
  fit 16 (if ty ≤ 4 then gcmTag k (le 4 (fld 12 4 b) ++ List.replicate 8 0) (b.take 16 ++ b.drop 16) [] else gcmTag k (le 4 (fld 12 4 b) ++ List.replicate 8 0) (b.take 16) (b.drop 16))

/-- Frame control, header and payload are as a receiver in `v` needs them, its TAG apart. -/
def headB (v : State) (c b : List Byte) (ty : Nat) : Bool :=
  let me := bits (v.sit.cfg.getD 0 0) 7 0
  let y := nbr v (fld 4 1 b)
  let own := ty == 1 || ty == 3
  let uid := if own then (b.drop 16).take 8 else y.uid
  let jn := if own then slice 8 16 (b.drop 16) else y.jn
  decide (c.length = 16) && decide (fld 14 2 c = (crc32c (c.take 14)).toNat % 65536) && decide (fld 0 1 c % 16 = 1) && decide (16 ≤ b.length) && decide (fld 10 2 b = b.length - 16) &&
    decide (fld 0 4 b = (v.sit.cfg.getD 2 0).toNat) && decide (fld 4 1 b ≠ me) && decide (fld 4 1 b ≤ 253) && decide (fld 6 1 b = ty) && decide (fld 5 1 b = me ∨ fld 5 1 b = 0xFF) &&
    decide (jn ≠ []) && (sitKey v uid jn).isSome && decide (2 ≤ v.sit.st ∧ v.sit.st ≤ 6) && (v.sit.cfg.getD 0 0).getLsbD 28 &&
    decide (own = true → jn ∉ y.old ∧ (jn = y.jn → uid = y.uid)) && (match y.hi with | some h => later 32 (fld 12 4 b) h | none => true)

/-- The premises of a good frame of type `ty` in LinkFramesAreCheckedTakenAndAcknowledged. -/
def Good (v : State) (p : Coupling) (f : List Byte) (ty : Nat) (k : List Byte) : Prop :=
  let m := f.drop 16
  let me := bits (v.sit.cfg.getD 0 0) 7 0
  let n := fld 10 2 m
  let src := fld 4 1 m
  let ctr := fld 12 4 m
  let pay := slice 16 n m
  let y := nbr v src
  let own : Prop := ty = 1 ∨ ty = 3
  let uid : List Byte := if ty = 1 ∨ ty = 3 then pay.take 8 else y.uid
  let jn : List Byte := if ty = 1 ∨ ty = 3 then slice 8 16 pay else y.jn
  let tag : List Byte :=
    let iv := le 4 ctr ++ List.replicate 8 0
    fit 16 (if ty ≤ 4 then gcmTag k iv (m.take 16 ++ pay) [] else gcmTag k iv (m.take 16) pay)
  let fresh : Prop := y.hi = none ∨ ∃ h, y.hi = some h ∧ (later 32 ctr h = true ∨ ((h + 2 ^ 32 - ctr) % 2 ^ 32 ≤ 64 ∧ ctr ∉ y.seen))
  (2 ≤ v.sit.st ∧ v.sit.st ≤ 6 ∧ (p = .trk → (v.sit.cfg.getD 0 0).getLsbD 28 = true)) ∧
    ((16 ≤ f.length ∧ fld 14 2 f = (crc32c (f.take 14)).toNat % 65536) ∧ fld 0 1 f % 16 = 1 ∧ fld 0 4 m = (v.sit.cfg.getD 2 0).toNat ∧ src ≠ me ∧ src ≤ 253) ∧
    (m.length = 36 + n ∧ fld (32 + n) 4 m = (crc32c (m.take (32 + n))).toNat) ∧ (fld 6 1 m = ty ∧ (fld 5 1 m = me ∨ fld 5 1 m = 0xFF)) ∧ jn ≠ [] ∧ sitKey v uid jn = some k ∧
    slice (16 + n) 16 m = tag ∧ (¬own → fresh) ∧ (own → jn ∉ y.old ∧ (jn = y.jn → uid = y.uid ∧ fresh))


theorem good_of (v : State) (p : Coupling) (c b : List Byte) (ty : Nat) (h : headB v c b ty = true) :
    ∃ k, Good v p (wire c b (tagOf k b ty)) ty k := by
  simp only [headB, Bool.and_eq_true, decide_eq_true_eq] at h
  obtain ⟨⟨⟨⟨⟨⟨⟨⟨⟨⟨⟨⟨⟨⟨⟨hc, h1⟩, h2⟩, h3⟩, h4⟩, h5⟩, h6⟩, h7⟩, h8⟩, h9⟩, h10⟩, h11⟩, h12⟩, h13⟩, h14⟩, h15⟩ := h
  obtain ⟨k, hk⟩ := Option.isSome_iff_exists.mp h11
  refine ⟨k, ?_⟩
  have ht : (tagOf k b ty).length = 16 := fit_length _ _
  obtain ⟨w1, w2, w3, w4, w5, w6, w7, w8⟩ := wire_parts c b (tagOf k b ty) hc ht
  generalize wire c b (tagOf k b ty) = f at *
  have t16 : (f.drop 16).take 16 = b.take 16 := by
    have := congrArg (List.take 16) w4
    rwa [List.take_take, Nat.min_eq_left h3] at this
  have pay : slice 16 (b.length - 16) (f.drop 16) = b.drop 16 := by
    rw [(w8 16 (b.length - 16) (by omega)).2]; simp [slice, fit, List.take_of_length_le]
  have own : ∀ {α : Type} (a d : α), (if (ty == 1 || ty == 3) = true then a else d) = if ty = 1 ∨ ty = 3 then a else d := by
    intro α a d; simp [Bool.or_eq_true]
  have fr : (nbr v (fld 4 1 b)).hi = none ∨ ∃ h, (nbr v (fld 4 1 b)).hi = some h ∧ later 32 (fld 12 4 b) h = true := by
    cases e : (nbr v (fld 4 1 b)).hi with
    | none => exact .inl rfl
    | some x => rw [e] at h15; exact .inr ⟨x, rfl, h15⟩
  have e1 : 36 + (b.length - 16) = b.length + 20 := by omega
  have e2 : 32 + (b.length - 16) = b.length + 16 := by omega
  have e3 : 16 + (b.length - 16) = b.length := by omega
  simp only [Good, w2, w3, w5, w6, w7 14 2 (by omega), w7 0 1 (by omega), (w8 0 4 (by omega)).1, (w8 4 1 (by omega)).1, (w8 5 1 (by omega)).1, (w8 6 1 (by omega)).1,
    (w8 10 2 (by omega)).1, (w8 12 4 (by omega)).1, h4, pay, t16, e1, e2, e3]
  simp only [own] at h10 hk h14
  refine ⟨⟨h12.1, h12.2, fun _ => h13⟩, ⟨⟨w1, h1⟩, h2, h5, h6, h7⟩, ⟨trivial, trivial⟩, ⟨h8, h9⟩, h10, hk, rfl, fun _ => ?_, fun h => ?_⟩
  · rcases fr with h | ⟨x, hx, hl⟩
    · exact .inl h
    · exact .inr ⟨x, hx, .inl hl⟩
  · have o : (ty == 1 || ty == 3) = true := by simpa using h
    have := h14 o
    refine ⟨this.1, fun q => ⟨this.2 q, ?_⟩⟩
    rcases fr with h | ⟨x, hx, hl⟩
    · exact .inl h
    · exact .inr ⟨x, hx, .inl hl⟩

def hdr (ty n : Nat) : List Byte := le 4 0x51 ++ [9, 7, BitVec.ofNat 8 ty, 8] ++ le 2 77 ++ le 2 n ++ le 4 101
def ctlData : List Byte := frameControl 1 true 0 0 9 7 77 1
def jnp : List Byte := [1, 2, 3, 4, 5, 6, 7, 8] ++ List.replicate 16 6 ++ [2, 1]
theorem wit_site_runs : alive (upSit 4) = true ∧ absentUnit (upSit 4) .sit = false ∧ (upSit 4).sit.st ≠ 8 ∧ (upSit 4).clk.fallback = none := by decide +kernel
theorem wit_good_join : ∃ k, Good (onPreamble (sitTick (upSit 6)) .trk) .trk (wire ctlData (hdr 1 26 ++ jnp) (tagOf k (hdr 1 26 ++ jnp) 1)) 1 k := good_of _ _ _ _ _ (by decide +kernel)
theorem wit_good_reply : ∃ k, Good (onPreamble (sitTick (upSit 3)) .trk) .trk (wire ctlData (hdr 2 1 ++ [1]) (tagOf k (hdr 2 1 ++ [1]) 2)) 2 k := good_of _ _ _ _ _ (by decide +kernel)
theorem wit_good_phase : ∃ k, Good (onPreamble (sitTick (upSit 4)) .trk) .trk (wire ctlData (hdr 3 44 ++ jnp.take 24 ++ List.replicate 20 1) (tagOf k (hdr 3 44 ++ jnp.take 24 ++ List.replicate 20 1) 3)) 3 k :=
  good_of _ _ _ _ _ (by decide +kernel)
theorem wit_good_tmap : ∃ k, Good (onPreamble (sitTick (upSit 4)) .pl2) .pl2 (wire ctlData (hdr 4 357 ++ [0, 1] ++ List.replicate 355 0x88) (tagOf k (hdr 4 357 ++ [0, 1] ++ List.replicate 355 0x88) 4)) 4 k :=
  good_of _ _ _ _ _ (by decide +kernel)
theorem wit_good_legal : ∃ k, Good (onPreamble (sitTick (upSit 4)) .trk) .trk (wire ctlData (hdr 5 4 ++ [1, 2, 3, 4]) (tagOf k (hdr 5 4 ++ [1, 2, 3, 4]) 5)) 5 k := good_of _ _ _ _ _ (by decide +kernel)
theorem wit_good_object : ∃ k, Good (onPreamble (sitTick (upSit 4)) .trk) .trk (wire ctlData (hdr 6 4 ++ [1, 2, 3, 4]) (tagOf k (hdr 6 4 ++ [1, 2, 3, 4]) 6)) 6 k := good_of _ _ _ _ _ (by decide +kernel)
theorem wit_good_open : ∃ k, Good (onPreamble (sitTick (upSit 4)) .trk) .trk (wire ctlData (hdr 7 4 ++ [1, 2, 3, 4]) (tagOf k (hdr 7 4 ++ [1, 2, 3, 4]) 7)) 7 k := good_of _ _ _ _ _ (by decide +kernel)
/-- The clauses' further premises: the queues of the classes, the world of a response, a duplicate. -/
theorem wit_frame_cases : let v := onPreamble (sitTick (upSit 4)) .trk; 77 ∉ (nbr v 9).seqs ∧ v.sit.legalQ.length < 16 ∧ v.sit.openQ.length < 16 ∧
    (({ v with sit := { v.sit with reqs := [(9, 0x0201, .legal)] } } : State).sit.reqs.find? fun q => q.1 == 9 && q.2.1 == 0x0201) = some (9, 0x0201, .legal) := by decide +kernel
def badFcs : List Byte := ctlData ++ hdr 5 4 ++ [1, 2, 3, 4] ++ List.replicate 20 0
theorem test_frame_fcs : after (exec (.legalFrame .trk 20 (asNats badFcs)) (upSit 4)) (fun t => (t.sit.fcsFail, t.sit.replay, t.sit.legalQ.length)) = some (1, 0, 0) := by decide +kernel
theorem test_frame_off : after (exec (.legalFrame .trk 20 (asNats badFcs)) (upSit 0)) (fun t => t.sit.fcsFail) = some 0 := by decide +kernel
theorem test_frame_unknown : after (exec (.openFrame .trk 20 (asNats (wire ctlData (hdr 7 4 ++ [1, 2, 3, 4]) (List.replicate 16 0)))) (let s := upSit 4; { s with sit := { s.sit with nbrs := [] } }))
    (fun t => t.sit.fcsFail) = some 1 := by decide +kernel
theorem test_frame_replay : after (exec (.joinFrame .trk 20 (asNats (wire ctlData (hdr 1 26 ++ jnp) (List.replicate 16 0)))) (let s := upSit 4; { s with sit := { s.sit with nbrs := s.sit.nbrs.map fun x => { x with old := [List.replicate 16 6] } } }))
    (fun t => (t.sit.fcsFail, t.sit.replay)) = some (0, 1) := by decide +kernel
theorem test_frame_other : after (exec (.phaseFrame .trk 20 (asNats (wire ctlData (hdr 5 4 ++ [1, 2, 3, 4]) (List.replicate 16 0)))) (upSit 4)) (fun t => (t.sit.fcsFail, t.sit.replay)) = some (0, 0) := by decide +kernel
/-- A frame to node 9 waits for its ACK. -/
def upFlight : State :=
  let s := upSit 4
  { s with
    sit := { s.sit with
      q := [{ dest := 9, typ := 7, payload := [1, 2], world := some .legal, lseq := 55, born := 100, atP := 0, atT := 1, acked := 0, draw := none }], flight := some (9, 55, true, 20000) }
    posts := [{ unit := .sit, world := .legal, live := true, addr := 0x200, op := 1, words := [6, 0x09010002, 0x1000], outcome := none, results := [(3, 55)] }] }
def anAck : List Byte := frameControl 2 true 0 0 9 7 55 0
theorem wit_ack : let v := onPreamble (sitTick upFlight) .trk; rxOn v .trk = true ∧ 16 ≤ anAck.length ∧ fld 14 2 anAck = (crc32c (anAck.take 14)).toNat % 65536 ∧ fld 0 1 anAck % 16 = 2 ∧ fld 3 1 anAck = bits (v.sit.cfg.getD 0 0) 7 0 ∧
    (v.sit.q.find? fun e => e.dest == fld 2 1 anAck && e.lseq == fld 4 2 anAck).isSome ∧ v.sit.flight = some (fld 2 1 anAck, fld 4 2 anAck, true, 20000) := by decide +kernel
theorem test_ack : after (exec (.ackFrame .trk 20 (asNats anAck)) upFlight) (fun t => (t.sit.q.length, t.sit.flight.isNone, t.posts.map (·.outcome))) = some (0, true, [some 0]) := by decide +kernel
theorem test_ack_results : after (exec (.ackFrame .trk 20 (asNats anAck)) upFlight) (fun t => t.posts.map (·.results)) = some [[(3, w32 (131072 + 55)), (4, 1)]] := by decide +kernel

/-- A beacon's 92 authenticated bytes from node 9, and its frame control. -/
def bcnB (epoch : Nat) : List Byte :=
  le 4 0x51 ++ [9, 0xFE, 0, 16] ++ le 4 41 ++ le 2 epoch ++ [1, 0] ++ le 4 1024000 ++ le 4 20480000 ++ le 8 0 ++ le 32 (2 ^ 7 + 2 ^ 9) ++ [1, 2, 3, 4, 5, 6, 7, 8] ++ List.replicate 16 6 ++ le 4 101
def ctlBcn : List Byte := frameControl 0 true 0 0 9 0xFF 0 11
theorem bcn_ctr : ∀ epoch ∈ [6, 7], fld 88 4 (bcnB epoch) = 101 ∧ (bcnB epoch).length = 92 := by decide +kernel
theorem bcn_facts : ∀ st ∈ [2, 3, 4, 5, 6], ∀ epoch ∈ [6, 7], let v := onPreamble (sitTick (upSit st)) .trk; let b := bcnB epoch
    (2 ≤ v.sit.st ∧ v.sit.st ≤ 6) ∧ fld 14 2 ctlBcn = (crc32c (ctlBcn.take 14)).toNat % 65536 ∧ fld 0 1 ctlBcn % 16 = 0 ∧ fld 0 4 b = (v.sit.cfg.getD 2 0).toNat ∧
    (fld 7 1 b).testBit 1 = (v.sit.cfg.getD 0 0).getLsbD 29 ∧ fld 4 1 b ≤ 253 ∧ fld 4 1 b ≠ bits (v.sit.cfg.getD 0 0) 7 0 ∧ slice 72 16 b ∉ (nbr v (fld 4 1 b)).old ∧
    slice 64 8 b = [1, 2, 3, 4, 5, 6, 7, 8] ∧ slice 72 16 b = List.replicate 16 6 ∧ (nbr v (fld 4 1 b)).hi = some 100 ∧ later 32 101 100 = true ∧ fld 12 2 b = epoch ∧ (fld 32 32 b).testBit 7 = true := by decide +kernel
theorem bcn_key : ∀ st ∈ [2, 3, 4, 5, 6], (sitKey (onPreamble (sitTick (upSit st)) .trk) [1, 2, 3, 4, 5, 6, 7, 8] (List.replicate 16 6)).isSome = true := by decide +kernel
theorem wit_beacon (st : Nat) (h : st ∈ [2, 3, 4, 5, 6]) (epoch : Nat) (he : epoch ∈ [6, 7]) : let v := onPreamble (sitTick (upSit st)) .trk; ∃ k, sitKey v [1, 2, 3, 4, 5, 6, 7, 8] (List.replicate 16 6) = some k ∧
    (let f := wire ctlBcn (bcnB epoch) (fit 16 (gcmTag k (le 4 101 ++ List.replicate 8 0) (bcnB epoch) []))
     let m := f.drop 16
     let src := fld 4 1 m
     (2 ≤ v.sit.st ∧ v.sit.st ≤ 6) ∧ (16 ≤ f.length ∧ fld 14 2 f = (crc32c (f.take 14)).toNat % 65536) ∧ fld 0 1 f % 16 = 0 ∧ fld 0 4 m = (v.sit.cfg.getD 2 0).toNat ∧
     (fld 7 1 m).testBit 1 = (v.sit.cfg.getD 0 0).getLsbD 29 ∧ src ≤ 253 ∧ src ≠ bits (v.sit.cfg.getD 0 0) 7 0 ∧ m.length = 112 ∧ fld 108 4 m = (crc32c (m.take 108)).toNat ∧ slice 72 16 m ∉ (nbr v src).old ∧
     slice 64 8 m = [1, 2, 3, 4, 5, 6, 7, 8] ∧ slice 72 16 m = List.replicate 16 6 ∧ fld 88 4 m = 101 ∧ (nbr v src).hi = some 100 ∧ later 32 101 100 = true ∧
     slice 92 16 m = fit 16 (gcmTag k (le 4 (fld 88 4 m) ++ List.replicate 8 0) (m.take 92) []) ∧ fld 12 2 m = epoch ∧ (fld 32 32 m).testBit 7 = true) := by
  intro v
  have hk : (sitKey v [1, 2, 3, 4, 5, 6, 7, 8] (List.replicate 16 6)).isSome = true := bcn_key st h
  obtain ⟨k, hk⟩ := Option.isSome_iff_exists.mp hk
  refine ⟨k, hk, ?_⟩
  have hb : (bcnB epoch).length = 92 := (bcn_ctr epoch he).2
  obtain ⟨w1, w2, w3, w4, w5, w6, w7, w8⟩ := wire_parts ctlBcn (bcnB epoch) (fit 16 (gcmTag k (le 4 101 ++ List.replicate 8 0) (bcnB epoch) [])) (by decide +kernel) (fit_length _ _)
  generalize wire ctlBcn (bcnB epoch) _ = f at *
  rw [hb] at w3 w4 w5 w6 w8
  simp only [w1, w2, w3, w4, w5, w6, w7 14 2 (by omega), w7 0 1 (by omega), (w8 0 4 (by omega)).1, (w8 4 1 (by omega)).1, (w8 7 1 (by omega)).1, (w8 12 2 (by omega)).1, (w8 32 32 (by omega)).1,
    (w8 64 8 (by omega)).2, (w8 72 16 (by omega)).2, (w8 88 4 (by omega)).1]
  rw [(bcn_ctr epoch he).1]
  simpa only [true_and] using bcn_facts st h epoch he
theorem test_beacon_fcs : after (exec (.beacon .trk 20 2560000 (asNats (ctlBcn ++ bcnB 6 ++ List.replicate 20 0))) (upSit 4)) (fun t => t.sit.fcsFail) = some 1 := by decide +kernel

/-! ### Witnesses for the site link (14): sending and time -/

def aFrame (typ atP atT : Nat) : SOut := { dest := 9, typ := typ, payload := [1, 2], world := some .legal, lseq := 55, born := 100, atP := atP, atT := atT, acked := 0, draw := some (3, 9900) }
def upQ (st : Nat) (e : SOut) : State := let s := upSit st; { s with sit := { s.sit with q := [e] } }
/-- The link's own account finds nothing to do. -/
theorem wit_quiet : let z := upSit 4; (netKey z).isSome ∧ z.sit.st ≠ 1 ∧ z.sit.twin = none ∧ z.obj.siteOut = [] ∧ sweepSpent z = z ∧ csmaHead z = none := by decide +kernel
theorem wit_slot : let v := sitTick (upQ 4 (aFrame 5 0 0)); let w := sitTick (dueTick v (slotNext v)); sitIn v.sit.st = true ∧ slotNext v ≤ now (dueTick v (slotNext v)) ∧ cfpSlot w = some (40, 0, false) ∧
    slotMine w 40 0 false = true ∧ sitIn w.sit.st = true ∧ findAt (fun (e : SOut) => e.typ == 5) w.sit.q 0 = some (0, aFrame 5 0 0) ∧ w.sit.swap = false ∧ legalDue false (aFrame 5 0 0) = true ∧
    (sitKey w (uidBytes w) w.sit.jn).isSome = true ∧ legalDue false (aFrame 5 4 0) = false := by decide +kernel
theorem test_slot_idle : after (exec (.cfpSlotStart false) (upQ 4 (aFrame 5 4 0))) (fun t => (t.sit.txctr, t.sit.air.length)) = some (0, 0) := by decide +kernel
theorem test_slot_pfw : after (exec (.cfpSlotStart false) (let s := upQ 4 (aFrame 5 0 0); { s with clk := { s.clk with pfw := some 5 } })) (fun t => t.sit.txctr) = some 0 := by decide +kernel
def upCsma : State := let s := upQ 4 (aFrame 7 0 0); { s with clk := { s.clk with modtick := 20000 } }
theorem wit_csma : let v := sitTick upCsma; csmaHead v = some (0, aFrame 7 0 0) ∧ v.sit.flight = none ∧ (let u := dueTick v (9900 + 128 * 3); 9900 + 128 * 3 ≤ now u ∧ u.sit.swap = false ∧ csmaFits u (aFrame 7 0 0) = true ∧
    (sitKey u (uidBytes u) u.sit.jn).isSome = true) ∧ (let w := sitTick (upQ 4 (aFrame 7 0 0)); csmaHead w = some (0, aFrame 7 0 0) ∧ csmaFits (dueTick w 10284) (aFrame 7 0 0) = false) := by decide +kernel
theorem test_csma_unfit : after (exec (.csmaBackoffEnd false) (upQ 4 (aFrame 7 0 0))) (fun t => (now t, t.sit.txctr)) = some (10284, 0) := by decide +kernel
theorem wit_ack_timeout : upFlight.sit.flight = some (9, 55, true, 20000) ∧ 20000 ≤ now (dueTick upFlight 20000) := by decide +kernel
theorem test_ack_timeout : after (exec .ackTimeout upFlight) (fun t => (now t, t.sit.flight.isNone, (nbr t 9).tk.fails, t.sit.q.length)) = some (20000, true, 1, 1) := by decide +kernel
theorem test_ack_spent : after (exec .ackTimeout (let s := upFlight; { s with sit := { s.sit with q := s.sit.q.map fun e => { e with atT := 4 } } })) (fun t => (t.sit.q.length, t.posts.map (·.outcome))) = some (0, [some 9]) := by decide +kernel
theorem wit_join_retry : let v := sitTick (upSit 3); v.sit.st = 3 ∧ v.sit.joinAt + 2000000 ≤ now (dueTick v (v.sit.joinAt + 2000000)) := by decide +kernel
theorem test_join_retry : after (exec .joinRetry (upSit 3)) (fun t => (now t, t.sit.joinAt, t.sit.q.map fun e => (e.typ, e.dest, e.payload.length))) = some (2000000, 2000000, [(1, 9, 26)]) := by decide +kernel
theorem wit_phase_due : let v := sitTick (upSit 4); sitIn v.sit.st = true ∧ bpiTick v (v.sit.phaseBpi + 16) ≤ now (dueTick v (bpiTick v (v.sit.phaseBpi + 16))) := by decide +kernel
theorem test_phase_due : after (exec .phaseReportDue (let s := upSit 4; { s with sit := { s.sit with phaseBpi := 30 } })) (fun t => (now t, t.sit.phaseBpi, t.sit.q.map fun e => (e.typ, e.dest, e.payload.length))) =
    some (960000, 46, [(3, 255, 44)]) := by decide +kernel
theorem wit_member_timeout : let v := sitTick (upSit 6); v.sit.st = 6 ∧ v.sit.members.testBit 9 = true ∧ 9 ≠ bits (v.sit.cfg.getD 0 0) 7 0 ∧ (nbr v 9).heard + 40000000 ≤ now (dueTick v ((nbr v 9).heard + 40000000)) := by decide +kernel
theorem test_member_timeout : after (exec (.memberTimeout 9) (upSit 6)) (fun t => (now t, t.sit.members)) = some (40005000, 128) := by decide +kernel
theorem wit_coordinator : let v := sitTick (upSit 4); let m := v.sit.since + (3 + 2 * 3) * (2 * 80000); (v.sit.cfg.getD 0 0).getLsbD 28 = true ∧ bits (v.sit.cfg.getD 0 0) 23 20 = 3 ∧ (v.sit.cfg.getD 0 0).getLsbD 27 = false ∧ m ≤ now (dueTick v m) ∧
    sitIn v.sit.st = true := by decide +kernel
theorem test_coordinator : after (exec .coordinatorStart (upSit 4)) (fun t => (now t, t.sit.st, t.sit.members, t.sit.bcn.map (·.bpi))) = some (1440000, 6, 640, some 4294967295) := by decide +kernel
theorem wit_takeover : let v := sitTick (upSit 5); v.sit.st = 5 ∧ (v.sit.bcn.map fun o => decide ((o.start + 3 * (2 * o.period) + 256 * 6144 + 255) / 256 ≤ now (dueTick v ((o.start + 3 * (2 * o.period) + 256 * 6144 + 255) / 256)))) = some true := by decide +kernel
theorem test_takeover : after (exec .backupTakeover (upSit 5)) (fun t => (now t, t.sit.st, t.sit.bcn.map fun b => (b.epoch, b.bpi))) = some (486144, 6, some (7, 43)) := by decide +kernel
def upSpentCtr : State := let s := upSit 4; { s with sit := { s.sit with txctr := 2 ^ 32 - 1 } }
theorem wit_txctr : let v := sitTick upSpentCtr; sitIn v.sit.st = true ∧ 2 ^ 32 - 1 ≤ v.sit.txctr := by decide +kernel
theorem test_txctr : after (exec .txctrExhausted upSpentCtr) (fun t => (t.sit.st, t.legal.ctl.evpend)) = some (2, 0x400) := by decide +kernel
theorem wit_send_timeout : let s := upQ 2 (aFrame 7 0 0); sitIn s.sit.st = false ∧ s.sit.memUntil = none ∧ findAt (fun (e : SOut) => e.world.isSome && (match s.sit.memUntil with | some m => decide (m ≤ e.born) | none => true)) s.sit.q 0 = some (0, aFrame 7 0 0) ∧
    (aFrame 7 0 0).born + 40000000 ≤ now (dueTick s ((aFrame 7 0 0).born + 40000000)) := by decide +kernel
theorem test_send_timeout : after (exec .sendMemberTimeout (upQ 2 (aFrame 7 0 0))) (fun t => (now t, t.sit.q.length, t.sit.st)) = some (40000100, 0, 2) := by decide +kernel
theorem wit_beacon_due : let v := sitTick (upSit 6); v.sit.st = 6 ∧ zRef v = some (160000, 80000, false) ∧ 164000 ≤ now (dueTick v 164000) ∧ (let w := sitTick (dueTick v 164000); w.sit.bcn.isSome = true ∧ (sitKey w (uidBytes w) w.sit.jn).isSome = true ∧
    w.sit.swap = false) := by decide +kernel
/-- Joining draws a fresh JNONCE: at COORDINATOR_START from LISTEN the DRBG must run. -/
theorem test_coordinator_drbg : after (exec .coordinatorStart (let s := upSit 2; { s with key := { s.key with drbgOk := false } })) (fun t => t.sit.st) = some 2 := by decide +kernel

/-! ### Witnesses for the display (15) -/

/-- The display is enabled; the mode is `m`. -/
def upDpy (m : Nat) : State := { up with dpy := { up.dpy with cfg1 := 0x843F0062 }, clk := { up.clk with mode := m } }
def dRec (ws : List Word) (m : Nat) : State := withRec ws (upDpy m)
theorem wit_dpy_cfg : Issues (dRec [8, 0x843F0064, 0x00646464, 0x00401000] 4) .headland 5 .dpy .more 8 L [8, 0x843F0064, 0x00646464, 0x00401000, 0, 0, 0, 0] ∧ (0x843F0064 : Word) &&& 0x0000FE00 = 0 ∧
    16 ≤ bits 0x843F0064 8 0 ∧ bits 0x843F0064 8 0 ≤ 488 ∧ Issues (openRec [8] (upDpy 4)) .headland 5 .dpy .more 8 O [8, 0, 0, 0, 0, 0, 0, 0] := ⟨issues_of (by decide +kernel), by decide +kernel, by decide +kernel, by decide +kernel, issues_of (by decide +kernel)⟩
theorem test_dpy_cfg : after (exec (.dpyCfg .headland 5) (dRec [8, 0x843F0064, 0x00646464, 0x00401000] 4)) (fun t => (g1 t, t.dpy.cfg1, t.dpy.cfgDone, t.ldg.subSeq)) = some (0, 0x843F0064, true, 1) := by decide +kernel
theorem test_dpy_cfg_order : after (exec (.dpyCfg .headland 5) (let s := dRec [8, 0x843F0064, 0x00646464, 0x00401000] 2; { s with dpy := { s.dpy with cfgDone := true } })) g1 = some 7 := by decide +kernel
theorem case_dpy_cfg_range : after (exec (.dpyCfg .headland 5) (dRec [8, 0x843F000F, 0x00646464, 0x00401000] 4)) g1 = some 6 := by decide +kernel
theorem case_dpy_cfg_denied : after (exec (.dpyCfg .headland 5) (openRec [8] (upDpy 4))) (fun t => getG t O 1) = some 2 := by decide +kernel
def updWs : List Word := [6, 0x03020300, 0, 0x1000]
theorem wit_dpy_upd : Issues (dRec updWs 2) .headland 5 .dpy .more 6 L [6, 0x03020300, 0, 0x1000, 0, 0] ∧ srcOk (dRec updWs 2) L 0x1000 24 = true ∧ (0x03020300 : Word) &&& 0x60E08080 = 0 ∧ Room (dRec updWs 2) L .dpy ∧
    Issues (dRec [6, 0x83020300, 0, 0x1000] 2) .headland 5 .dpy .more 6 L [6, 0x83020300, 0, 0x1000, 0, 0] := ⟨issues_of (by decide +kernel), by decide +kernel, by decide +kernel, by unfold Room; decide, issues_of (by decide +kernel)⟩
theorem test_dpy_upd : after (exec (.dpyUpd .headland 5) (dRec updWs 2)) (fun t => (g1 t, t.dpy.q.map fun e => (e.x1, e.y0, e.y1), t.posts.length)) = some (0, [(3, 2, 3)], 1) := by decide +kernel
theorem test_dpy_upd_reduced : after (exec (.dpyUpd .headland 5) (dRec updWs 3)) g1 = some 7 := by decide +kernel
theorem case_dpy_upd_rect : after (exec (.dpyUpd .headland 5) (dRec [6, 0x01020300, 0, 0x1000] 2)) g1 = some 6 := by decide +kernel
/-- An older OPEN entry of pixels 2 to 5, rows 3 to 9, running or waiting. -/
def anEntry (w : World) (st : Nat) : DEntry := { world := w, addr := 0x80300, x0 := 2, y0 := 3, x1 := 5, y1 := 9, what := 0, src := 0x90000, bsrc := 0, rows := 0, st := st, stop := none, frame := 0 }
def withEntry (st : Nat) (s : State) : State :=
  { s with dpy := { s.dpy with q := [anEntry .opn st] }, posts := [{ unit := .dpy, world := .opn, live := true, addr := 0x80300, op := 1, words := [6], outcome := none, results := [] }] }
theorem wit_dpy_sup : let s := withEntry 0 (dRec [6, 0x83020300, 0, 0x1000] 2); Issues s .headland 5 .dpy .more 6 L [6, 0x83020300, 0, 0x1000, 0, 0] ∧ Room s L .dpy ∧ dOp (anEntry .opn 0) (s.posts.getD 0 default) = true :=
  ⟨issues_of (by decide +kernel), by unfold Room; decide, by decide⟩
theorem case_dpy_sup : after (exec (.dpyUpd .headland 5) (withEntry 0 (dRec [6, 0x83020300, 0, 0x1000] 2))) (fun t => (g1 t, t.dpy.q.map (·.world), t.dpy.cuts, t.posts.map (·.outcome))) =
    some (0, [.legal], 1, [some 4, none]) := by decide +kernel
theorem case_dpy_sup_running : after (exec (.dpyUpd .headland 5) (withEntry 1 (dRec [6, 0x83020300, 0, 0x1000] 2))) (fun t => (t.dpy.q.map (·.stop), t.dpy.cuts)) = some ([some 4, none], 1) := by decide +kernel
theorem wit_dpy_lock : let s := withEntry 0 (dRec [4, 0x9F007F00] 4); Issues s .headland 5 .dpy .more 4 L [4, 0x9F007F00, 0, 0] ∧ (0x9F007F00 : Word) &&& 0x60E08080 = 0 ∧
    (∀ o ∈ s.dpy.q, o.x0 < 128 ∧ o.x1 < 128 ∧ o.y0 < 32 ∧ o.y1 < 32) := ⟨issues_of (by decide +kernel), by decide⟩
theorem test_dpy_lock : after (exec (.dpyLock .headland 5) (withEntry 0 (dRec [4, 0x9F007F00] 4))) (fun t => (g1 t, t.dpy.q.length, t.dpy.lock, t.posts.map (·.outcome))) = some (0, 0, 0x9F007F00, [some 2]) := by decide +kernel
theorem test_dpy_lock_rect : after (exec (.dpyLock .headland 5) (dRec [4, 0x9F00007F] 4)) g1 = some 6 := by decide +kernel
theorem wit_dpy_gamma : Issues (dRec [5, 47, 0x1000] 2) .headland 5 .dpy .more 5 L [5, 47, 0x1000, 0, 0] ∧ srcOk (dRec [5, 47, 0x1000] 2) L 0x1000 32 = true ∧ Room (dRec [5, 47, 0x1000] 2) L .dpy :=
  ⟨issues_of (by decide +kernel), by decide +kernel, by unfold Room; decide⟩
theorem test_dpy_gamma : after (exec (.dpyGamma .headland 5) (dRec [5, 47, 0x1000] 2)) (fun t => (g1 t, t.dpy.gsgen, (t.dpy.shadow.getD 47 none).isSome)) = some (0, 1, true) := by decide +kernel
theorem test_dpy_gamma_range : after (exec (.dpyGamma .headland 5) (dRec [5, 48, 0x1000] 2)) g1 = some 6 := by decide +kernel
def fullGamma (s : State) : State := { s with dpy := { s.dpy with shadow := List.replicate 48 (some (List.replicate 16 7)) } }
theorem wit_dpy_gswap : Issues (fullGamma (dRec [2] 2)) .headland 5 .dpy .more 2 L [2, 0] ∧ (∀ z ∈ (fullGamma (upDpy 2)).dpy.shadow, z.isSome) ∧ Room (fullGamma (dRec [2] 2)) L .dpy ∧
    (∀ k ∈ (fullGamma (upDpy 2)).dpy.shadow, ∀ z, k = some z → z.length = 16) := by
  refine ⟨issues_of (by decide +kernel), by decide +kernel, by unfold Room; decide, ?_⟩
  intro k hk z hz; subst hz
  have := List.eq_of_mem_replicate hk
  simp only [Option.some.injEq] at this; simp [this]
theorem test_dpy_gswap : after (exec (.dpyGswap .headland 5) (fullGamma (dRec [2] 2))) (fun t => (g1 t, t.dpy.gswap)) = some (0, true) := by decide +kernel
theorem test_dpy_gswap_order : after (exec (.dpyGswap .headland 5) (dRec [2] 2)) g1 = some 7 := by decide +kernel
theorem wit_dpy_blink : Issues (dRec [4, 1, 0x020304] 2) .headland 5 .dpy .more 4 L [4, 1, 0x020304, 0] ∧ bits 0x020304 15 8 ≤ bits 0x020304 7 0 ∧ bits 0x020304 23 16 < bits 0x020304 7 0 := ⟨issues_of (by decide +kernel), by decide⟩
theorem test_dpy_blink : after (exec (.dpyBlink .headland 5) (dRec [4, 1, 0x020304] 2)) (fun t => (g1 t, t.dpy.blinkNew.getD 1 (0, 0, 0))) = some (0, (4, 3, 2)) := by decide +kernel
theorem test_dpy_blink_range : after (exec (.dpyBlink .headland 5) (dRec [4, 1, 0x040304] 2)) g1 = some 6 := by decide +kernel
theorem wit_dpy_rdst : Issues (dRec [6] 2) .headland 5 .dpy .read 6 L [6, 0, 0, 0, 0, 0] ∧ (upDpy 2).dpy.q.length ≤ 8 ∧ (upDpy 2).dpy.row ≤ 32 := ⟨issues_of (by decide +kernel), by decide⟩
theorem test_dpy_rdst : after (exec (.dpyRdst .headland 5) (withEntry 0 (dRec [6] 2))) (fun t => (g1 t, rec t 1, rec t 4)) = some (0, 0x119000, 0x9F007F00) := by decide +kernel
/-- Frames and row times. -/
def upScan (row : Nat) (e : List DEntry) : State := let s := upDpy 2; { s with dpy := { s.dpy with scan := true, row := row, at' := 75 * 11000, q := e, balNow := true, frames := 8 } }
theorem wit_dpy_frame : let s := upDpy 2; alive s = true ∧ absentUnit s .dpy = false ∧ s.dpy.dark = false ∧ s.dpy.scan = false ∧ s.dpy.cfg1.getLsbD 31 = true ∧
    (let s := upScan 32 []; s.dpy.scan = true ∧ s.dpy.row = 32 ∧ (s.dpy.at' + 74) / 75 ≤ now (dueTick s ((s.dpy.at' + 74) / 75))) ∧
    (let s := upScan 4 []; s.dpy.scan = true ∧ s.dpy.row < 32 ∧ (s.dpy.at' + 74) / 75 ≤ now (dueTick s ((s.dpy.at' + 74) / 75)) ∧ Mem.wf s.dpy.acc = true ∧ (∀ g < 4, 1 ≤ (s.dpy.blink.getD g (1, 1, 0)).1)) := by decide +kernel
theorem test_dpy_first_frame : after (exec .frameStart (upDpy 2)) (fun t => (t.dpy.scan, t.dpy.row, t.dpy.frames, t.dpy.at')) = some (true, 0, 0, 75 * 10000 + 46872) := by decide +kernel
theorem test_dpy_frame : after (exec .frameStart (fullGamma (let s := upScan 32 []; { s with dpy := { s.dpy with gswap := true } }))) (fun t => (t.dpy.row, t.dpy.frames, t.dpy.bal, t.dpy.gamma.getD 767 0, t.dpy.gswap)) =
    some (0, 9, true, 7, false) := by decide +kernel
def legalEntry : DEntry := { world := .legal, addr := 0x200, x0 := 2, y0 := 3, x1 := 5, y1 := 4, what := 0, src := 0x1000, bsrc := 0, rows := 0, st := 0, stop := none, frame := 0 }
def upRows : State := let s := upScan 4 [legalEntry]; { s with hl := { s.hl with dmem := Mem.writeN s.hl.dmem 0x1000 (List.replicate 12 9) } }
theorem wit_dpy_boundary : let q := upRows.dpy.q; q[0]? = some legalEntry ∧ (∀ e ∈ q, e.st = 0) ∧ legalEntry.world = .legal ∧ Mem.wf upRows.dpy.fm = true ∧ Mem.wf upRows.dpy.bm = true ∧ legalEntry.y0 + legalEntry.rows < 32 := by decide +kernel
theorem test_dpy_row : after (exec .rowTimeBoundary upRows) (fun t => (t.dpy.row, t.dpy.q.map fun e => (e.rows, e.st), dataRead { t with hl := { t.hl with dmem := t.dpy.fm } } L 1156 4)) = some (5, [(1, 1)], [0, 0, 9, 9]) := by decide +kernel
/-- A lit pixel: account = drive × scale / 2048 less the balance pulse. -/
theorem test_dpy_account : after (exec .rowTimeBoundary (let s := upScan 4 []; { s with dpy := { s.dpy with fm := Mem.writeN [] (3 * 512) [255] } })) (fun t => ((Mem.read t.dpy.acc 3072).toNat, (Mem.read t.dpy.acc 3073).toNat)) = some (44, 0) := by decide +kernel

/-! ### Witnesses for clocks and modes (16) -/

def upClk (m : Nat) : State := { up with clk := { up.clk with mode := m } }
def cRec (ws : List Word) (m : Nat) : State := withRec ws (upClk m)
theorem wit_mode_run : Issues (cRec [3, 2] 3) .headland 5 .clk .more 3 L [3, 2, 0] ∧ (2 : Word) &&& 0xFFFFF8F8 = 0 ∧ (upClk 3).clk.mode = 3 ∧ Room (cRec [3, 2] 3) L .clk :=
  ⟨issues_of (by decide +kernel), by decide +kernel, by decide +kernel, by unfold Room; decide⟩
theorem test_mode_run : after (exec (.clkModeRun .headland 5) (cRec [3, 2] 3)) (fun t => (g1 t, t.clk.mode, t.clk.prevMode, t.clk.modechg, t.posts.map (·.outcome))) = some (0, 2, 3, 1, [some 0]) := by decide +kernel
theorem test_mode_service : after (exec (.clkModeService .headland 5) (cRec [3, 4] 2)) (fun t => (g1 t, t.clk.mode, t.legal.ctl.evpend, t.ldg.subSeq)) = some (0, 4, 0x1000, 1) := by decide +kernel
theorem test_mode_service_sealed : after (exec (.clkModeService .headland 5) (let s := cRec [3, 4] 2; { s with key := { s.key with shadow := 3 } })) (fun t => (g1 t, t.clk.mode, t.posts.map (·.outcome))) = some (0, 2, [some 7]) := by decide +kernel
theorem test_mode_range : after (exec (.clkModeRun .headland 5) (cRec [3, 5] 3)) g1 = some 6 := by decide +kernel
/-- Point 1 is channel 0 alone, which runs its MEAN preset: REDUCED is asked for it. -/
def meanPoint (s : State) : State :=
  { s with chs := s.chs.modify 0 fun z => { z with chain := { z.chain with st := 1, preset := 1 } }, defs := s.defs.set 1 [0x100, 0xFFFFFF00, 0xFFFFFFFF, 0, 0] }
theorem wit_mode_reduced : let s := meanPoint (cRec [3, 3, 2] 2); Issues s .headland 5 .clk .more 3 L [3, 3, 2] ∧ maskChans s 2 = [0] ∧ (chan s 0).chain.st ≠ 0 ∧ (chan s 0).chain.preset = 1 ∧ s.clk.mode = 2 ∧
    (∀ r < 32, (2 : Word).getLsbD r = false → coilOn (rel s r) = false) := ⟨issues_of (by decide +kernel), by decide +kernel⟩
theorem test_mode_reduced : after (exec (.clkModeReduced .headland 5) (meanPoint (cRec [3, 3, 2] 2))) (fun t => (g1 t, t.clk.mode, t.clk.reduceTo, t.posts.map (·.outcome))) = some (0, 2, some 16384, [none]) := by decide +kernel
theorem wit_slack : Issues (cRec [2, 1000] 2) .headland 5 .clk .more 2 L [2, 1000] ∧ Room (cRec [2, 1000] 2) L .clk ∧ lcState (upClk 2) = 1 ∧ (upClk 2).clk.pfw = none ∧ (upClk 2).clk.freezeEnd = none ∧
    (let s := cRec [2, 1000] 2; Issues { s with clk := { s.clk with freezeEnd := some 900 } } .headland 5 .clk .more 2 L [2, 1000]) := ⟨issues_of (by decide +kernel), by unfold Room; decide, by decide +kernel, by decide +kernel, by decide +kernel, issues_of (by decide +kernel)⟩
theorem test_slack : after (exec (.clkSlack .headland 5 true) (cRec [2, 1000] 2)) (fun t => (g1 t, t.clk.mode, t.clk.grants, (t.clk.freeze.bind (·.endRef)))) = some (0, 5, 1, some 24001000) := by decide +kernel
theorem test_slack_refused : after (exec (.clkSlack .headland 5 true) (let s := cRec [2, 1000] 2; { s with clk := { s.clk with freezeEnd := some 900 } })) (fun t => (g1 t, t.clk.mode, t.clk.refused, t.posts.map (·.outcome))) =
    some (0, 2, 1, [some 7]) := by decide +kernel
theorem case_slack_disagree : after (exec (.clkSlack .headland 5 false) (cRec [2, 1000] 2)) (fun t => (t.clk.mode, t.posts.map (·.outcome))) = some (2, [some 9]) := by decide +kernel
theorem case_slack_range : after (exec (.clkSlack .headland 5 true) (cRec [2, 0] 2)) g1 = some 6 := by decide +kernel
theorem wit_dbg : Issues (cRec [2, 1] 2) .headland 5 .clk .more 2 L [2, 1] ∧ lcState (upClk 2) = 1 ∧ Room (cRec [2, 1] 2) L .clk := ⟨issues_of (by decide +kernel), by decide +kernel, by unfold Room; decide⟩
theorem test_dbg : after (exec (.clkDbg .headland 5) (withRec [2, 1] (upKey vSign))) (fun t => (g1 t, t.clk.dbg, t.key.test, t.key.cache.getD 9 none)) = some (0, true, true, none) := by decide +kernel
theorem test_dbg_order : after (exec (.clkDbg .headland 5) (let s := cRec [2, 1] 2; { s with key := { s.key with shadow := 3 } })) g1 = some 7 := by decide +kernel
theorem wit_clk_rdst : Issues (cRec [6] 2) .headland 5 .clk .read 6 L [6, 0, 0, 0, 0, 0] ∧ (upClk 2).clk.mode < 16 ∧ (upClk 2).clk.prevMode < 16 := ⟨issues_of (by decide +kernel), by decide⟩
theorem test_clk_rdst : after (exec (.clkRdst .headland 5) (cRec [6] 2)) (fun t => (g1 t, rec t 1)) = some (0, 0x80402) := by decide +kernel
/-- The pin, the duration, the PLL and the batch boundary. -/
def upFrozen (cause : Nat) (e : Option Nat) : State :=
  { up with clk := { up.clk with slackPin := true, mode := 5, prevMode := 2, freeze := some { tick := 10000, rtc := 0, cause := cause, endRef := e, chains := 3, mode := 2 } } }
theorem wit_pin : (let s := { up with clk := { up.clk with slackArmed := true } }; alive s = true ∧ s.clk.slackPin = false ∧ s.clk.slackArmed = true ∧ s.clk.mode = 2 ∧ s.clk.pfw = none ∧ s.clk.freezeEnd = none) ∧
    (upFrozen 1 none).clk.freeze.isSome ∧ (up.clk.freeze = none) ∧ 5000 ≤ (dueRef (upFrozen 2 (some 5000)) 5000).clk.ref := by decide +kernel
theorem test_pin_fall : after (exec (.slackNFall true) { up with clk := { up.clk with slackArmed := true } }) (fun t => (t.clk.mode, t.clk.slackPin, t.clk.freeze.map (·.cause), t.clk.grants)) = some (5, true, some 1, 1) := by decide +kernel
theorem test_pin_rise : after (exec .slackNRise (upFrozen 1 none)) (fun t => (t.clk.mode, t.clk.prevMode, t.clk.freeze.isNone, t.clk.modtick, t.ldg.subSeq)) = some (2, 5, true, 10000, 2) := by decide +kernel
theorem test_duration : after (exec .slackDurationEnd (upFrozen 2 (some 5000))) (fun t => (t.clk.ref, t.clk.freezeEnd, t.clk.modtick, t.clk.mode)) = some (5000, some 5000, 10000, 2) := by decide +kernel
def chainUp (s : State) : State := { s with chs := s.chs.modify 3 fun z => { z with chain := { z.chain with st := 2, preset := 0 } } }
theorem wit_pll : let s := chainUp up; s.clk.powered = true ∧ s.clk.t0.isSome ∧ s.clk.pfw = none ∧ s.clk.fallback = none ∧ (chan s 3).chain.st ≠ 0 ∧ (chan s 3).chain.preset = 0 ∧ (chan s 3).chain.wait = false := by decide +kernel
theorem test_pll_loss : after (exec (.pllLoss 1) (chainUp up)) (fun t => (t.clk.fallback, t.clk.lock, t.clk.pllLoss, (chan t 3).chain.st, (chan t 3).chain.again)) = some (some 1000, false, 1, 0, 1) := by decide +kernel
theorem test_pll_holdoff : after (exec (.pllLoss 0) { up with clk := { up.clk with losses := List.replicate 7 900 } }) (fun t => t.clk.holdoff) = some (some 1440001000) := by decide +kernel
def upFall : State := { up with clk := { up.clk with fallback := some 500, lock := false } }
theorem wit_relock : alive upFall = true ∧ upFall.clk.fallback = some 500 ∧ upFall.clk.holdoff = none ∧ upFall.clk.pfw = none ∧ 24500 ≤ (dueRef upFall 24500).clk.ref := by decide +kernel
theorem test_relock : after (exec .pllRelock upFall) (fun t => (t.clk.ref, t.clk.fallback, t.clk.lock, t.clk.fbRef)) = some (24500, none, true, 24000) := by decide +kernel
theorem test_relock_held : after (exec .pllRelock { upFall with clk := { upFall.clk with holdoff := some 9000 } }) (fun t => t.clk.fallback) = some (some 500) := by decide +kernel
theorem wit_holdoff : let s := { upFall with clk := { upFall.clk with holdoff := some 9000 } }; s.clk.powered = true ∧ 9000 ≤ (dueRef s 9000).clk.ref := by decide +kernel
theorem test_holdoff : after (exec .relockHoldoffEnd { upFall with clk := { upFall.clk with holdoff := some 9000 } }) (fun t => (t.clk.ref, t.clk.holdoff)) = some (9000, none) := by decide +kernel
def upReduce (m : Nat) : State :=
  let s := meanPoint (chainUp (upClk m))
  { s with clk := { s.clk with reduceTo := some 16384 }, posts := [{ unit := .clk, world := .legal, live := true, addr := 0x200, op := 0, words := [3, 3, 2], outcome := none, results := [] }] }
theorem wit_reduced_entry : alive (upReduce 2) = true ∧ 16384 ≤ now (dueTick (upReduce 2) 16384) ∧ (let p := (upReduce 2).posts.getD 0 default; p.unit = .clk ∧ p.op = 0 ∧ bits (rw p.words 1) 2 0 = 3 ∧ p.outcome = none) := by decide +kernel
theorem test_reduced_entry : after (exec .reducedEntry (upReduce 2)) (fun t => (t.clk.mode, t.clk.redmask, (chan t 3).chain.st, t.posts.map (·.outcome))) = some (3, 2, 0, [some 0]) := by decide +kernel
theorem test_reduced_late : after (exec .reducedEntry (upReduce 4)) (fun t => (t.clk.mode, t.posts.map (·.outcome))) = some (4, [some 7]) := by decide +kernel

/-! ### Witnesses for host ports (17) -/

def hFrame (kind tseq aseq credit flags : Nat) (pl : List Byte) : List Byte :=
  let h := [0xA5, BitVec.ofNat 8 kind] ++ le 2 tseq ++ le 2 aseq ++ le 2 pl.length ++ [BitVec.ofNat 8 credit, BitVec.ofNat 8 flags] ++ le 2 0 ++ pl
  h ++ le 4 (crc32c h).toNat
def hIn (kind tseq : Nat) (pl : List Byte) : List Nat := asNats (hFrame kind tseq 0 8 0 pl)
def upHst (f : HPort → HPort) : State := { up with hst := up.hst.modify 0 f }
def hp (t : State) : HPort := port t 0
theorem wit_hst_send : Issues (withRec [5, 0x00040000, 0x1000] up) .headland 5 .hst .more 5 L [5, 0x00040000, 0x1000, 0, 0] ∧ isWorld L = true ∧ up.hst.length = 3 ∧ bufOk (withRec [5, 0x00040000, 0x1000] up) .legal 0x1000 4 = true ∧
    (0x00040000 : Word) &&& 0xF800FCFC = 0 ∧ Room (withRec [5, 0x00040000, 0x1000] up) L .hst ∧ Issues (openRec [5, 0x00040100, 0x81000] up) .headland 5 .hst .more 5 O [5, 0x00040100, 0x81000, 0, 0] :=
  ⟨issues_of (by decide +kernel), by decide +kernel, by decide +kernel, by decide +kernel, by decide +kernel, by unfold Room; decide, issues_of (by decide +kernel)⟩
theorem test_hst_send : after (exec (.hstSend .headland 5) (withRec [5, 0x00040002, 0x1000] up)) (fun t => (g1 t, t.hst.map fun q => q.msgs.map fun f => f.payload.length, t.posts.map (·.outcome))) = some (0, [[8], [8], []], [none]) := by decide +kernel
theorem test_hst_send_denied : after (exec (.hstSend .headland 5) (openRec [5, 0x00040100, 0x81000] up)) (fun t => getG t O 1) = some 2 := by decide +kernel
def fullMsgs (q : HPort) : HPort := { q with msgs := List.replicate 8 { kind := 2, tseq := 0, payload := [], world := some .legal, addr := 0 } }
theorem case_hst_send_full : after (exec (.hstSend .headland 5) (withRec [5, 0x00040000, 0x1000] (upHst fullMsgs))) g1 = some 8 := by decide +kernel
def evRec (s : State) : State := let t := withRec [5, 0x00040200, 0x1000] s; { t with hl := { t.hl with dmem := Mem.writeN t.hl.dmem 0x1000 [0x85, 1, 2, 3] } }
def fullEvents (q : HPort) : HPort := { q with events := List.replicate 32 { kind := 3, tseq := 0, payload := [], world := none, addr := 0 } }
theorem wit_hst_event : Issues (evRec up) .headland 5 .hst .more 5 L [5, 0x00040200, 0x1000, 0, 0] ∧ bufOk (evRec up) .legal 0x1000 4 = true ∧ (dataRead (evRec up) L 0x1000 1).getD 0 0 = 0x85 ∧ (port up 0).events.length < 31 ∧
    31 ≤ (port (upHst fullEvents) 0).events.length := ⟨issues_of (by decide +kernel), by decide⟩
theorem case_hst_event : after (exec (.hstSend .headland 5) (evRec up)) (fun t => (g1 t, (hp t).events.map fun f => (f.kind, f.payload.length), fld 8 8 ((hp t).events.map (·.payload)).flatten)) = some (0, [(3, 24)], 10000) := by decide +kernel
theorem case_hst_event_lost : after (exec (.hstSend .headland 5) (evRec (upHst fullEvents))) (fun t => ((hp t).evLost, (hp t).events.length)) = some (1, 32) := by decide +kernel
def inMail (q : HPort) : HPort := { q with inbox := [{ chan := 1, tseq := 9, data := [1, 2, 3] }, { chan := 0, tseq := 10, data := [4, 5] }] }
theorem wit_hst_recv : Issues (withRec [5, 0, 0x1000] (upHst inMail)) .headland 5 .hst .more 5 L [5, 0, 0x1000, 0, 0] ∧ bufOk (withRec [5, 0, 0x1000] up) .legal 0x1000 1024 = true ∧ (inMail HPort.zero).inbox[1]? = some { chan := 0, tseq := 10, data := [4, 5] } :=
  ⟨issues_of (by decide +kernel), by decide⟩
theorem test_hst_recv : after (exec (.hstRecv .headland 5) (withRec [5, 0, 0x1000] (upHst inMail))) (fun t => (g1 t, rec t 1, rec t 3, (hp t).inbox.length, dataRead t L 0x1000 2)) = some (0, 0x20000, 10, 1, [4, 5]) := by decide +kernel
theorem test_hst_recv_none : after (exec (.hstRecv .headland 5) (withRec [5, 1, 0x1000] (upHst inMail))) (fun t => (g1 t, rec t 1, rec t 3)) = some (0, 1, 0) := by decide +kernel
theorem wit_hst_rdst : Issues (withRec [6, 0] up) .headland 5 .hst .read 6 L [6, 0, 0, 0, 0, 0] ∧ (port up 0).unacked.length ≤ 8 ∧ (up.obj.ports.getD 0 Assoc.zero).role < 8 := ⟨issues_of (by decide +kernel), by decide⟩
theorem test_hst_rdst : after (exec (.hstRdst .headland 5) (withRec [6, 0] (upHst inMail))) (fun t => (g1 t, rec t 2)) = some (0, 0x6000) := by decide +kernel
theorem test_hst_rdst_range : after (exec (.hstRdst .headland 5) (withRec [6, 2] up)) g1 = some 6 := by decide +kernel

/-- Frames from the host: good ones of each kind, and the marks of order and credit. -/
def goodB (P : Nat) (b : List Byte) : Bool := frameOk P b && decide (16 ≤ b.length) && decide (b.getD 0 0 = 0xA5) && decide (fld 6 2 b ≤ 1040) && decide (16 + fld 6 2 b ≤ b.length) &&
  decide (fld (12 + fld 6 2 b) 4 b = (crc32c (b.take (12 + fld 6 2 b))).toNat)
theorem wit_hst_frames : goodB 0 (hFrame 0 0 0 8 0 []) = true ∧ goodB 0 (hFrame 2 0 0 8 0 [0, 0, 0, 0, 1]) = true ∧ goodB 0 (hFrame 5 0 0 8 0 (List.replicate 8 0)) = true ∧ goodB 0 (hFrame 7 0 0 8 0 (List.replicate 12 0)) = true ∧
    goodB 0 (hFrame 9 0 0 8 0 []) = true ∧ goodB 1 (hFrame 10 0 0 8 0 []) = true ∧ frameOk 1 (hFrame 9 0 0 8 0 []) = false ∧ frameOk 0 [0xA5] = false := by decide +kernel
theorem wit_hst_port : up.hst.length = 3 ∧ up.clk.powered = true ∧ up.clk.t0.isSome ∧ up.clk.pfw = none ∧ (∀ f ∈ (port up 0).unacked, f.tseq < 65536) ∧ up.clk.freeze = none ∧ up.clk.bootStage ≠ 3 ∧ (port up 0).rxSeq = none ∧
    (port up 0).lastCredit ≠ 0 ∧ (port up 0).inbox.length < 8 ∧ (port (upHst fun q => { q with lastCredit := 0 }) 0).lastCredit = 0 := by decide +kernel
theorem test_crcerr : after (exec (.crcerr .hosta [0xA5, 2]) up) (fun t => ((hp t).crcErr, (hp t).nak, (hp t).synced)) = some (1, true, false) := by decide +kernel
def sentOne (q : HPort) : HPort := { q with unacked := [{ kind := 2, tseq := 5, payload := [1], world := some .legal, addr := 0x200 }], txSeq := 6 }
def upSent : State := { upHst sentOne with posts := [{ unit := .hst, world := .legal, live := true, addr := 0x200, op := 0, words := [5], outcome := none, results := [] }] }
theorem wit_hst_acked : ∃ f ∈ (port upSent 0).unacked, f ∉ ((port upSent 0).unacked.filter fun f => decide (32768 ≤ (5 + 65536 - f.tseq % 65536) % 65536)) ∧ f.world = some .legal :=
  ⟨{ kind := 2, tseq := 5, payload := [1], world := some .legal, addr := 0x200 }, by decide +kernel, by decide +kernel, by decide⟩
theorem test_idle_acks : after (exec (.idle .hosta (asNats (hFrame 0 0 5 3 0 []))) upSent) (fun t => ((hp t).unacked.length, (hp t).hostCredit, (hp t).synced, t.posts.map (·.outcome))) = some (0, 3, true, [some 0]) := by decide +kernel
theorem test_idle_nak : after (exec (.idle .hosta (asNats (hFrame 0 0 4 3 1 []))) upSent) (fun t => ((hp t).unacked.length, (hp t).rep, t.posts.map (·.outcome))) = some (1, some 0, [none]) := by decide +kernel
theorem test_message : after (exec (.message .hosta (hIn 2 0 [0, 0, 0, 0, 7, 8]) true) up) (fun t => ((hp t).rxSeq, (hp t).inbox.map fun z => (z.chan, z.data), t.opn.ctl.evpend)) = some (some 0, [(0, [7, 8])], 0x2000) := by decide +kernel
theorem test_message_gap : after (exec (.message .hosta (hIn 2 3 [0, 0, 0, 0, 7, 8]) true) up) (fun t => ((hp t).rxSeq, (hp t).inbox.length, (hp t).nak)) = some (none, 0, true) := by decide +kernel
theorem case_message_overrun : after (exec (.message .hosta (hIn 2 0 [0, 0, 0, 0, 7, 8]) true) (upHst fun q => { q with lastCredit := 0 })) (fun t => ((hp t).overrun, (hp t).inbox.length)) = some (1, 0) := by decide +kernel
theorem case_message_legal : after (exec (.message .hosta (hIn 2 0 [1, 0, 0, 0, 7, 8]) true) up) (fun t => ((hp t).inbox.length, (hp t).msgs.map (·.payload))) = some (0, [[1, 0, 0, 0, 6, 0, 0, 0, 0, 0, 0, 0]]) := by decide +kernel
theorem test_stream : after (exec (.stream .hosta (hIn 5 0 (le 4 0xFFFFFFFF ++ le 4 1))) up) (fun t => ((hp t).rxSeq, (hp t).sub, (hp t).subExt)) = some (some 0, 0, true) := by decide +kernel
theorem test_readout_run : after (exec (.readout .hosta (hIn 7 0 (List.replicate 12 0))) up) (fun t => (hp t).boots.map (·.payload)) = some [[7, 0, 0, 0]] := by decide +kernel
theorem wit_readout : (upFrozen 1 none).clk.freeze.isSome ∧ up.clk.freeze = none ∧ lcState up = 1 ∧ 8 ≤ chainLen 13 := by decide +kernel
theorem test_readout_mem : after (exec (.readout .hosta (hIn 7 0 (le 4 13 ++ le 4 (8 * 0x1000) ++ le 4 8))) (let s := upFrozen 1 none; { s with hl := { s.hl with dmem := Mem.writeN [] 0x1000 [0xC4] } }))
    (fun t => ((hp t).boots.map (·.payload), t.clk.freeze.map fun f => f.chains.testBit 13)) = some ([[0, 0, 0, 0, 0xC4]], some true) := by decide +kernel
theorem test_host_release : after (exec (.release .hosta (hIn 9 0 [])) (upFrozen 1 none)) (fun t => (t.clk.mode, t.clk.freeze.isNone)) = some (2, true) := by decide +kernel
theorem test_host_reset : after (exec (.reset .hosta (hIn 10 0 [])) upSent) (fun t => ((hp t).txSeq, (hp t).rxSeq, (hp t).resetOut, (hp t).unacked.length)) = some (0, some 0, true, 0) := by decide +kernel
theorem wit_optical : let z := port up 2; (z.part ++ ([0xA5, 0] : List Byte)).length < 16 ∧ (z.part ++ ([0xA5, 0] : List Byte)).head? = some 0xA5 := by decide +kernel
theorem test_optical : after (exec (.hostTransaction .optical 0 [0xA5, 0] true) up) (fun t => (port t 2).part) = some [0xA5, 0] := by decide +kernel
theorem test_optical_timeout : after (exec .opticalCharTimeout { up with hst := up.hst.modify 2 fun q => { q with part := [0xA5] } }) (fun t => (port t 2).part) = some [] := by decide +kernel
/-- A port with a message to send and the host's credit. -/
def toSend (q : HPort) : HPort := { q with msgs := [{ kind := 2, tseq := 0, payload := [0, 0, 0, 0, 9], world := some .opn, addr := 0x80200 }], hostCredit := 8 }
theorem wit_transaction : (let q := port (upHst toSend) 0; q.resetOut = false ∧ q.rep = none ∧ q.unacked.length < min 8 q.hostCredit ∧ q.events = [] ∧ q.boots = [] ∧ q.objs = [] ∧ q.msgs ≠ []) ∧
    (let q := port (upHst fun q => { sentOne q with rep := some 0, idleTx := 3 }) 0; q.rep = some 0 ∧ (q.unacked[0]?).isSome ∧ q.unacked ≠ [] ∧ 3 ≤ q.idleTx) ∧ (port (upHst fun q => { q with resetOut := true }) 0).resetOut = true := by decide +kernel
theorem test_transaction : after (exec (.hostTransaction .hosta 100 [] true) (upHst toSend)) (fun t => ((hp t).sent, (hp t).txSeq, (hp t).unacked.map (·.tseq), (hp t).msgs.length)) =
    some (hFrame 2 0 0xFFFF 8 0 [0, 0, 0, 0, 9], 1, [0], 0) := by decide +kernel
theorem case_transaction_cut : after (exec (.hostTransaction .hosta 20 [] true) (upHst toSend)) (fun t => ((hp t).sent.length, (hp t).txSeq, (hp t).msgs.length)) = some (20, 0, 1) := by decide +kernel
theorem case_transaction_repeat : after (exec (.hostTransaction .hosta 100 [] true) (upHst fun q => { sentOne q with rep := some 0 })) (fun t => ((hp t).sent, (hp t).retx)) = some (hFrame 2 5 0xFFFF 8 2 [1], 1) := by decide +kernel
theorem case_transaction_idle : after (exec (.hostTransaction .hosta 16 [] true) up) (fun t => (hp t).sent) = some (hFrame 0 0 0xFFFF 8 0 []) := by decide +kernel

/-! ### Witnesses for pulses and the test port (17) -/

def upPls (f : Pulse → Pulse) : State := { up with pls := up.pls.modify 2 f }
def pRec (ws : List Word) (f : Pulse → Pulse) : State := withRec ws (upPls f)
def p2 (t : State) : Pulse := t.pls.getD 2 Pulse.zero
theorem wit_pls_cfg : Issues (pRec [4, 0x00031202, 1000, 0x528] id) .headland 5 .pls .more 4 L [4, 0x00031202, 1000, 0x528] ∧ up.pls.length = 8 ∧ (0x00031202 : Word) &&& 0xFE600CF8 = 0 ∧ bits 0x00031202 9 8 = 2 ∧
    bits (0x528 : Word) 31 8 = 5 ∧ bits (0x528 : Word) 7 0 = 40 ∧ (pulse (upPls id) 2).run = false ∧ Issues (pRec [4, 0x01000002] fun p => { p with run := true, level := true }) .headland 5 .pls .more 4 L [4, 0x01000002, 0, 0] :=
  ⟨issues_of (by decide +kernel), by decide +kernel, by decide +kernel, by decide +kernel, by decide +kernel, by decide +kernel, by decide +kernel, issues_of (by decide +kernel)⟩
theorem test_pls_run : after (exec (.plsCfgRun .headland 5) (pRec [4, 0x00031202, 1000, 0x528] id)) (fun t => (g1 t, (p2 t).src, (p2 t).mp, (p2 t).qty, (p2 t).count, (p2 t).run)) = some (0, 2, 3, 1, 5, true) := by decide +kernel
theorem test_pls_order : after (exec (.plsCfg .headland 5) (pRec [4, 0x00031102, 1000, 0x28] fun p => { p with run := true })) g1 = some 7 := by decide +kernel
theorem test_pls_abort : after (exec (.plsCfgAbort .headland 5) (pRec [4, 0x01000002] fun p => { p with run := true, level := true, overrate := true, backlog := 70 })) (fun t => (g1 t, (p2 t).backlog, (p2 t).stopping, t.legal.ctl.evpend)) =
    some (0, 0, true, 0x4000) := by decide +kernel
theorem test_pls_range : after (exec (.plsCfg .headland 5) (pRec [4, 0x00031102, 0, 0x28] id)) g1 = some 6 := by decide +kernel
theorem wit_pls_rdst : Issues (pRec [3, 2] id) .headland 5 .pls .read 3 L [3, 2, 0] := issues_of (by decide +kernel)
theorem test_pls_rdst : after (exec (.plsRdst .headland 5) (pRec [3, 2] fun p => { p with backlog := 9, run := true, pulses := 77 })) (fun t => (g1 t, rec t 1, rec t 2)) = some (0, 0x90102, 77) := by decide +kernel
def waiting (p : Pulse) : Pulse := { p with src := 2, run := true, backlog := 1, count := 4, started := 3, overrate := true, lastStart := 9000, spacing := 3000, lastEnd := 9900, width := 40 }
theorem wit_pulse : let s := upPls waiting; alive s = true ∧ 2 < s.pls.length ∧ s.clk.pfw = none ∧ (max ((9000 : Int) + 3000) (9900 + 200 * 40)).toNat ≤ now (dueTick s 17900) ∧
    (let s := upPls fun p => { p with level := true, lastStart := 9900 }; (pulse s 2).level = true ∧ 17900 ≤ now (dueTick s 17900)) := by decide +kernel
theorem test_pulse_start : after (exec (.pulseStart 2) (upPls waiting)) (fun t => (now t, (p2 t).level, (p2 t).overrate, (p2 t).run, (p2 t).runDone, t.legal.ctl.evpend)) = some (17900, true, false, false, true, 0x4000) := by decide +kernel
theorem test_pulse_none : after (exec (.pulseStart 2) up) (fun t => (now t, (p2 t).level)) = some (10000, false) := by decide +kernel
theorem test_pulse_end : after (exec (.pulseEnd 2) (upPls fun p => { p with level := true, lastStart := 9900, stopping := true, run := true })) (fun t => (now t, (p2 t).level, (p2 t).lastEnd, (p2 t).run)) = some (17900, false, 17900, false) := by decide +kernel
def upDbg : State := { up with clk := { up.clk with dbg := true } }
theorem wit_tap : up.clk.powered = true ∧ upDbg.clk.dbg = true ∧ alive upDbg = true ∧ upDbg.clk.mode = 2 ∧ lcState upDbg = 1 ∧ upDbg.clk.pfw = none ∧ upDbg.clk.freezeEnd = none ∧ State.reset.clk.dbg = false := by decide +kernel
theorem test_tap_closed : after (exec .extest up) (fun t => t.clk.tap) = some 0xFF ∧ after (exec .idcode up) (fun t => t.clk.tap) = some 0xFE := by decide +kernel
theorem test_tap_open : [Instr.extest, .samplePreload, .clamp, .highz, .bypass].map (fun i => after (exec i upDbg) fun t => t.clk.tap) = [some 0, some 1, some 2, some 3, some 0xFF] := by decide +kernel
theorem test_idcode : idcode up = 0x1712855D := by decide +kernel
theorem test_dbgacc : after (exec (.dbgacc true) upDbg) (fun t => (t.clk.tap, t.clk.mode, t.clk.freeze.map (·.cause))) = some (0x20, 5, some 1) := by decide +kernel

/-! ### Witnesses for billing time (08) -/

def upTim (f : Tim → Tim) : State := { up with tim := f up.tim }
theorem wit_tim_read : Issues (withRec [5] up) .headland 5 .tim .laneRead 5 L [5, 0, 0, 0, 0] ∧ -500 ≤ rateNow up ∧ rateNow up ≤ 500 := ⟨issues_of (by decide +kernel), by decide⟩
theorem test_tim_read : after (exec (.timRead .headland 5) (withRec [5] (upTim fun t => { t with segs := [{ m0 := 2000, b0 := 5000000, r := 0 }] }))) (fun t => (g1 t, rec t 1, rec t 2)) = some (0, 5002000, 0) := by decide +kernel
theorem wit_tim_set : Issues (withRec [4, 1, 3000000] up) .headland 5 .tim .more 4 L [4, 1, 3000000, 0] ∧ (1 : Word) &&& 0xFFFFFCFE = 0 ∧ Room (withRec [4, 1, 3000000] up) L .tim ∧ ¬(up.tim.beacons = true ∧ up.tim.locked = true) ∧
    btNow up < 2 ^ 62 ∧ ¬(2 ≤ bits 1 9 8) := ⟨issues_of (by decide +kernel), by decide +kernel, by unfold Room; decide, by decide +kernel, by decide +kernel, by decide⟩
theorem test_tim_adjust : after (exec (.timSetAdjust .headland 5) (withRec [4, 1, 3000000] up)) (fun t => (g1 t, t.tim.rtcOff - up.tim.rtcOff, t.tim.segs.head?.map (·.b0), t.posts.map (·.outcome))) = some (0, 3000000, some (btNow up + 3000000), [some 0]) := by decide +kernel
theorem test_tim_slew : after (exec (.timSetAdjust .headland 5) (withRec [4, 1, 1000] (upTim fun t => { t with unset := false, segs := [{ m0 := 0, b0 := 0, r := 0 }] }))) (fun t => (t.tim.slew, t.tim.segs.head?.map (·.r))) = some (1000, some 500) := by decide +kernel
theorem test_tim_order : after (exec (.timSetAbsolute .headland 5) (withRec [4, 0, 5] (upTim fun t => { t with beacons := true, locked := true }))) (fun t => (g1 t, t.posts.map (·.outcome))) = some (0, [some 7]) := by decide +kernel
theorem test_tim_set_range : after (exec (.timSetAbsolute .headland 5) (withRec [4, 2] up)) g1 = some 6 := by decide +kernel
theorem wit_tim_disc : let s := withRec [3, 1] up; Runs s .headland L ∧ recExc (fetched s L) L (getG (fetched s L) L 5) = none ∧ recWords (fetched s L) L (getG (fetched s L) L 5) = [3, 1, 0] ∧ permitted L .tim .more = true ∧ bits (3 : Word) 7 0 = 3 ∧
    absentUnit up .sit = false := ⟨by unfold Runs; decide, by decide +kernel, by decide +kernel, by decide +kernel, by decide +kernel, by decide⟩
theorem test_tim_disc : after (exec (.timDisc .headland 5) (withRec [3, 1] up)) (fun t => (g1 t, t.tim.beacons, rec t 2)) = some (0, true, 0) := by decide +kernel
theorem test_tim_disc_absent : after (exec (.timDisc .headland 5) (withRec [3, 1] { up with fuse := { up.fuse with variant := .fm } })) g1 = some 3 := by decide +kernel
theorem wit_tim_ledge : Issues (withRec [18] up) .headland 5 .tim .read 18 L (18 :: List.replicate 17 0) ∧ Issues (withRec [18, 0x100] up) .headland 5 .tim .read 18 L (18 :: 0x100 :: List.replicate 16 0) := ⟨issues_of (by decide +kernel), issues_of (by decide +kernel)⟩
theorem test_tim_ledge : after (exec (.timLedge .headland 5) (withRec [18] { up with bk := { up.bk with ledge := { up.bk.ledge with pupcnt := 7 } } })) (fun t => (g1 t, rec t 1, rec t 2, rec t 3)) = some (0, 3, 0x4C454447, 0x70000) := by decide +kernel
theorem wit_tim_due : alive up = true ∧ up.tim.lastDisc + 4000000 ≤ now (dueTick up (up.tim.lastDisc + 4000000)) ∧
    (let s := upTim fun t => { t with lastBeacon := some 500, locked := true }; s.tim.locked = true ∧ 40000500 ≤ now (dueTick s 40000500)) := by decide +kernel
theorem test_discipline : after (exec .timDisciplineTick up) (fun t => (now t, t.tim.lastDisc)) = some (4000000, 4000000) := by decide +kernel
theorem test_beacon_loss : after (exec .beaconLossTimeout (upTim fun t => { t with lastBeacon := some 500, locked := true })) (fun t => (now t, t.tim.locked)) = some (40000500, false) := by decide +kernel
/-- A slew of 1 µs at 500 ppm over 2,000 µs. -/
def upSlew : State := upTim fun t => { t with slew := 1, segs := [{ m0 := 2000, b0 := 500, r := 500 }, { m0 := 0, b0 := 0, r := 0 }], unset := false, slewSum := 4, slewNet := 2 }
theorem wit_slew : alive upSlew = true ∧ upSlew.tim.segs.head? = some { m0 := 2000, b0 := 500, r := 500 } ∧ 0 < upSlew.tim.slew * 500 ∧
    2000 + (4000000 * upSlew.tim.slew.natAbs + 500 - 1) / 500 = 10000 ∧ 10000 ≤ now (dueTick upSlew 10000) := by decide +kernel
theorem test_slew_complete : after (exec .slewComplete upSlew) (fun t => (t.tim.slew, t.tim.slewSum, t.tim.slewNet, t.tim.segs.head?.map fun g => [(g.m0 : Int), g.b0, g.r])) = some (0, 5, 3, some [10000, 2501, 0]) := by decide +kernel
def cell (f : Backup → Backup) : State := { State.reset with clk := { State.reset.clk with powered := false }, bk := f { State.reset.bk with vbak := true } }
theorem wit_cell : (cell id).clk.powered = false ∧ (cell id).bk.ledge.lflags.getLsbD 6 = false ∧ (cell id).bk.vbak = true ∧ (cell fun b => { b with trims := 1 }).bk.trims ≠ 0 := by decide +kernel
theorem test_vbaklow : after (exec .vbaklow (cell id)) (fun t => (t.bk.vbak, t.bk.ledge.lflags)) = some (true, 0x40) := by decide +kernel
theorem test_vbaklow_again : after (exec .vbaklow (cell fun b => { b with ledge := { b.ledge with lflags := 0x40 } })) (fun t => t.bk.vbak) = some false := by decide +kernel
theorem test_rtc_trim : after (exec .rtcTrim (cell fun b => { b with trims := 2, rtc := 100, frac := 4294967200, ledge := { b.ledge with rtctrim := 2 } })) (fun t => (t.bk.trims, t.bk.rtc, t.bk.frac)) =
    some (1, 101, 4294967200 + 2 * 70368744 - 4294967296) := by decide +kernel

/-! ### Witnesses for power and start-up (16, 04) -/

/-- An image of 8 bytes of code at `load` for entry `n`, with the hash `h` of its table and body and the signature `sig`. -/
def anImage (kind load : Nat) (h sig : List Byte) : List Byte :=
  le 4 0x58435747 ++ le 2 1 ++ [BitVec.ofNat 8 kind, 0] ++ le 4 0 ++ le 4 0x10 ++ le 4 (load + 4) ++ le 4 0 ++ le 4 0 ++ le 4 1 ++ le 4 8 ++ [1] ++ List.replicate 27 0 ++ h ++ List.replicate 32 0 ++ sig ++ List.replicate 64 0 ++
    [1, 0, 0, 0] ++ le 4 load ++ le 4 8 ++ le 4 0 ++ List.replicate 112 0 ++ [1, 2, 3, 4, 5, 6, 7, 8]
def hash5 : List Byte := [41, 253, 141, 210, 22, 87, 153, 93, 85, 142, 117, 31, 231, 244, 153, 220, 163, 80, 30, 184, 155, 226, 120, 237, 69, 171, 156, 178, 70, 168, 73, 81]
/-- By the private key of RFC 6979, appendix A.2.5, whose public part State.reset holds as the image key (log 4). -/
def sig5 : List Byte := be 32 0x8e533b6fa0bf7b4625bb30667c01fb607ef9f8b8a80fef5b300628703187b2a3 ++ be 32 0x75ecbdb338a934bf015f52dfa4de1eaf0472e69e6b2c79535b1bdcb090a39d2e
def image5 : List Byte := anImage 3 0x200 hash5 sig5
/-- The reference program's and the Legal image stored, with directory state 1 (04 Tables 4.16, 4.20). -/
def stored : Mem :=
  [(1024, 136), (1025, 1), (1026, 64), (1027, 5), (1028, 9), (1040, 145), (1041, 166), (1042, 100), (1043, 184), (1044, 63), (1045, 136), (1046, 238), (1047, 20), (1048, 178), (1049, 17), (1050, 228), (1051, 228), (1052, 17), (1053, 171), (1054, 50), (1055, 199), (1056, 103), (1057, 205), (1058, 34)] ++
  [(1059, 222), (1060, 89), (1061, 51), (1062, 229), (1063, 115), (1064, 225), (1065, 83), (1066, 43), (1067, 169), (1068, 42), (1069, 131), (1070, 80), (1071, 209), (1664, 136), (1665, 1), (1666, 64), (1667, 5), (1668, 9), (1680, 113), (1681, 90), (1682, 127), (1683, 126), (1684, 86), (1685, 176)] ++
  [(1686, 12), (1687, 211), (1688, 30), (1689, 190), (1690, 166), (1691, 218), (1692, 30), (1693, 118), (1694, 76), (1695, 136), (1696, 27), (1697, 246), (1698, 213), (1699, 17), (1700, 68), (1701, 221), (1702, 198), (1703, 224), (1704, 174), (1705, 165), (1706, 166), (1707, 70), (1708, 20), (1709, 99)] ++
  [(1710, 158), (1711, 112), (262144, 71), (262145, 87), (262146, 67), (262147, 88), (262148, 1), (262150, 1), (262156, 16), (262160, 4), (262161, 1), (262172, 1), (262176, 8), (262180, 1), (262208, 192), (262209, 27), (262210, 108), (262211, 168), (262212, 13), (262213, 109), (262214, 26), (262215, 9), (262216, 175), (262217, 77)] ++
  [(262218, 133), (262219, 51), (262220, 233), (262221, 85), (262222, 95), (262223, 88), (262224, 130), (262225, 204), (262226, 164), (262227, 251), (262228, 199), (262229, 91), (262230, 116), (262231, 118), (262232, 120), (262233, 132), (262234, 200), (262235, 199), (262236, 91), (262237, 67), (262238, 135), (262239, 39), (262272, 142), (262273, 83)] ++
  [(262274, 59), (262275, 111), (262276, 160), (262277, 191), (262278, 123), (262279, 70), (262280, 37), (262281, 187), (262282, 48), (262283, 102), (262284, 124), (262285, 1), (262286, 251), (262287, 96), (262288, 126), (262289, 249), (262290, 248), (262291, 184), (262292, 168), (262293, 15), (262294, 239), (262295, 91), (262296, 48), (262297, 6)] ++
  [(262298, 40), (262299, 112), (262300, 49), (262301, 135), (262302, 178), (262303, 163), (262304, 163), (262305, 205), (262306, 232), (262307, 142), (262308, 127), (262309, 106), (262310, 162), (262311, 97), (262312, 212), (262313, 200), (262314, 255), (262315, 77), (262316, 228), (262318, 130), (262319, 21), (262320, 232), (262321, 32), (262322, 93)] ++
  [(262323, 43), (262324, 99), (262325, 171), (262326, 89), (262327, 209), (262328, 84), (262329, 43), (262330, 15), (262331, 45), (262332, 147), (262333, 91), (262334, 194), (262335, 49), (262400, 1), (262405, 1), (262408, 8), (262528, 1), (262529, 2), (262530, 3), (262531, 4), (262532, 5), (262533, 6), (262534, 7), (262535, 8)] ++
  [(786432, 71), (786433, 87), (786434, 67), (786435, 88), (786436, 1), (786438, 3), (786444, 16), (786448, 4), (786449, 2), (786460, 1), (786464, 8), (786468, 1), (786496, 41), (786497, 253), (786498, 141), (786499, 210), (786500, 22), (786501, 87), (786502, 153), (786503, 93), (786504, 85), (786505, 142), (786506, 117), (786507, 31)] ++
  [(786508, 231), (786509, 244), (786510, 153), (786511, 220), (786512, 163), (786513, 80), (786514, 30), (786515, 184), (786516, 155), (786517, 226), (786518, 120), (786519, 237), (786520, 69), (786521, 171), (786522, 156), (786523, 178), (786524, 70), (786525, 168), (786526, 73), (786527, 81), (786560, 142), (786561, 83), (786562, 59), (786563, 111)] ++
  [(786564, 160), (786565, 191), (786566, 123), (786567, 70), (786568, 37), (786569, 187), (786570, 48), (786571, 102), (786572, 124), (786573, 1), (786574, 251), (786575, 96), (786576, 126), (786577, 249), (786578, 248), (786579, 184), (786580, 168), (786581, 15), (786582, 239), (786583, 91), (786584, 48), (786585, 6), (786586, 40), (786587, 112)] ++
  [(786588, 49), (786589, 135), (786590, 178), (786591, 163), (786592, 117), (786593, 236), (786594, 189), (786595, 179), (786596, 56), (786597, 169), (786598, 52), (786599, 191), (786600, 1), (786601, 95), (786602, 82), (786603, 223), (786604, 164), (786605, 222), (786606, 30), (786607, 175), (786608, 4), (786609, 114), (786610, 230), (786611, 158)] ++
  [(786612, 107), (786613, 44), (786614, 121), (786615, 83), (786616, 91), (786617, 27), (786618, 220), (786619, 176), (786620, 144), (786621, 163), (786622, 157), (786623, 46), (786688, 1), (786693, 2), (786696, 8), (786816, 1), (786817, 2), (786818, 3), (786819, 4), (786820, 5), (786821, 6), (786822, 7), (786823, 8)]
/-- The Legal image in staging, an install for entry 5 pending. -/
def staged : Mem :=
  [(1666, 128), (1667, 5), (1672, 136), (1673, 1), (1712, 113), (1713, 90), (1714, 127), (1715, 126), (1716, 86), (1717, 176), (1718, 12), (1719, 211), (1720, 30), (1721, 190), (1722, 166), (1723, 218), (1724, 30), (1725, 118), (1726, 76), (1727, 136), (1728, 27), (1729, 246), (1730, 213), (1731, 17)] ++
  [(1732, 68), (1733, 221), (1734, 198), (1735, 224), (1736, 174), (1737, 165), (1738, 166), (1739, 70), (1740, 20), (1741, 99), (1742, 158), (1743, 112), (3211264, 71), (3211265, 87), (3211266, 67), (3211267, 88), (3211268, 1), (3211270, 3), (3211276, 16), (3211280, 4), (3211281, 2), (3211292, 1), (3211296, 8), (3211300, 1)] ++
  [(3211328, 41), (3211329, 253), (3211330, 141), (3211331, 210), (3211332, 22), (3211333, 87), (3211334, 153), (3211335, 93), (3211336, 85), (3211337, 142), (3211338, 117), (3211339, 31), (3211340, 231), (3211341, 244), (3211342, 153), (3211343, 220), (3211344, 163), (3211345, 80), (3211346, 30), (3211347, 184), (3211348, 155), (3211349, 226), (3211350, 120), (3211351, 237)] ++
  [(3211352, 69), (3211353, 171), (3211354, 156), (3211355, 178), (3211356, 70), (3211357, 168), (3211358, 73), (3211359, 81), (3211392, 142), (3211393, 83), (3211394, 59), (3211395, 111), (3211396, 160), (3211397, 191), (3211398, 123), (3211399, 70), (3211400, 37), (3211401, 187), (3211402, 48), (3211403, 102), (3211404, 124), (3211405, 1), (3211406, 251), (3211407, 96)] ++
  [(3211408, 126), (3211409, 249), (3211410, 248), (3211411, 184), (3211412, 168), (3211413, 15), (3211414, 239), (3211415, 91), (3211416, 48), (3211417, 6), (3211418, 40), (3211419, 112), (3211420, 49), (3211421, 135), (3211422, 178), (3211423, 163), (3211424, 117), (3211425, 236), (3211426, 189), (3211427, 179), (3211428, 56), (3211429, 169), (3211430, 52), (3211431, 191)] ++
  [(3211432, 1), (3211433, 95), (3211434, 82), (3211435, 223), (3211436, 164), (3211437, 222), (3211438, 30), (3211439, 175), (3211440, 4), (3211441, 114), (3211442, 230), (3211443, 158), (3211444, 107), (3211445, 44), (3211446, 121), (3211447, 83), (3211448, 91), (3211449, 27), (3211450, 220), (3211451, 176), (3211452, 144), (3211453, 163), (3211454, 157), (3211455, 46)] ++
  [(3211520, 1), (3211525, 2), (3211528, 8), (3211648, 1), (3211649, 2), (3211650, 3), (3211651, 4), (3211652, 5), (3211653, 6), (3211654, 7), (3211655, 8)]
/-- t0 has passed, nothing is released; the LEGAL world's and the lanes' images are stored. -/
def upBoot (stage : Nat) : State :=
  { State.reset with mram := stored, clk := { up.clk with mode := 1, bootStage := stage, tmpChecked := true } }
theorem wit_boot : let s := upBoot 0; alive s = true ∧ Mem.wf s.mram = true ∧ s.clk.mode = 1 ∧ s.clk.bootStage = 0 ∧ s.clk.tmpChecked = true ∧ dirState s 0 = 1 ∧ dirState s 5 = 1 ∧ (upBoot 1).legal.released = false ∧
    (upBoot 1).hl.restarting = false := by decide +kernel
/-- Nothing refuses the Legal image: its conditions hold and its signature verifies. -/
theorem wit_image_legal : imgReason (upBoot 1) 5 image5 0 true = 0 := by decide +kernel
theorem image5_bytes : imgBytes (upBoot 1) 5 = image5 ∧ Mem.readN staged 0x310000 (bits (Mem.word staged (0x408 + 128 * 5)) 21 0) = image5 ∧ dirMeasure (upBoot 1) 5 = Mem.readN staged (0x430 + 128 * 5) 32 := by decide +kernel
theorem image5_hash : sha256 image5 = Mem.readN staged (0x430 + 128 * 5) 32 := by decide +kernel
theorem wit_image_stored : measureImage (upBoot 1) 5 = dirMeasure (upBoot 1) 5 := by rw [measureImage, image5_bytes.1, image5_hash, image5_bytes.2.2]
theorem case_lane_release : after (exec (.laneRelease 0x1F) (upBoot 0)) (fun t => (t.clk.bootStage, t.ebb.running, t.flood.running, t.ebb.bank.pc.toNat, t.pair.ebb.st, t.pair.flood.st)) = some (1, true, true, 0x104, 1, 2) := by decide +kernel
theorem test_lane_release_none : after (exec (.laneRelease 0x1F) { State.reset with clk := { up.clk with mode := 1, bootStage := 0, tmpChecked := true } }) (fun t => (t.clk.bootStage, t.clk.bootEntry, t.clk.bootReason, t.ebb.running)) = some (3, 0, 1, false) := by decide +kernel
theorem test_lane_release_false : after (exec (.laneRelease 0x1E) (upBoot 0)) (fun t => (t.clk.bootStage, t.clk.bootEntry, t.clk.bootReason)) = some (3, 0, 4) := by decide +kernel
theorem test_legal_release_false : after (exec (.legalWorldRelease false) (upBoot 1)) (fun t => (t.clk.bootStage, t.clk.bootEntry, t.clk.bootReason, t.legal.released)) = some (3, 5, 4, false) := by decide +kernel
theorem wit_open_image : let s := { up with hl := { up.hl with loaded := false }, opn := { up.opn with released := false } }; alive s = true ∧ s.legal.released = true ∧ s.hl.loaded = false ∧ s.opn.released = false ∧ dirState s 6 = 0 := by decide +kernel
theorem test_open_absent : after (exec (.openImageLoaded true) { up with opn := { up.opn with released := false } }) (fun t => (t.opn.released, Mem.read t.mram (0x404 + 128 * 6))) = some (false, 1) := by decide +kernel
/-- Power. -/
def off : State := { State.reset with clk := { State.reset.clk with powered := false } }
theorem wit_power : off.clk.powered = false ∧ State.reset.clk.powered = true ∧ State.reset.clk.refStable = none ∧ State.reset.clk.pfw = none ∧ (let s := { State.reset with clk := { State.reset.clk with pfw := some 3 } }; s.clk.pfw.isSome ∧ s.clk.refLost = false) ∧
    (let s := { State.reset with clk := { State.reset.clk with pfw := some 3, refLost := true } }; s.clk.refLost = true) ∧ up.clk.powered = true ∧ up.clk.pfw = none ∧ up.clk.t0.isSome ∧ up.clk.freeze = none ∧ up.clk.refStable.isSome ∧ (upFrozen 1 none).clk.freeze.isSome := by decide +kernel
theorem test_power_on_cell : after (exec (.powerOn false) { off with bk := { off.bk with vbak := true, rtc := 77, ledge := { off.bk.ledge with pdRtc := 5, cellRtc := 6 } } }) (fun t => (t.clk.powered, t.bk.rtc, t.bk.rtcLost, t.bk.found.pdRtc, t.bk.ledge.cellRtc)) =
    some (true, 77, false, 5, 0) := by decide +kernel
theorem test_power_on_no_cell : after (exec (.powerOn true) { off with bk := { off.bk with vbak := false, rtc := 77 } }) (fun t => (t.clk.vio33, t.bk.rtc, t.bk.rtcLost, t.bk.ledge.valid)) = some (true, 0, true, 0x4C454447) := by decide +kernel
theorem test_ref_stable : after (exec .refStable State.reset) (fun t => (t.clk.refStable, t.clk.refOk, t.aux.calRun)) = some (some State.reset.clk.ref, true, true) := by decide +kernel
theorem wit_pll_startup : let s := { State.reset with clk := { State.reset.clk with refStable := some 100, refOk := true } }; s.clk.powered = true ∧ s.clk.t0 = none ∧ 9700 ≤ (dueRef s 9700).clk.ref := by decide +kernel
def atT0 : State := { State.reset with clk := { State.reset.clk with refStable := some 100, refOk := true }, bk := { State.reset.bk with ledge := { State.reset.bk.ledge with lflags := 0x3D } } }
def pendingInstall (s : State) : State := { s with mram := staged }
theorem wit_install : let s := pendingInstall State.reset; Mem.wf s.mram = true ∧ dirState s 5 = 2 ∧ (∀ k < 7, k ≠ 5 → dirState s k ≠ 2) ∧ sha256 (Mem.readN s.mram 0x310000 (bits (Mem.word s.mram (0x408 + 128 * 5)) 21 0)) = Mem.readN s.mram (0x430 + 128 * 5) 32 := by
  intro s
  have e : s.mram = staged := rfl
  rw [e, image5_bytes.2.1, image5_hash]
  exact ⟨by decide +kernel, by decide +kernel, by decide +kernel, rfl⟩
theorem test_warning : after (exec .powerFailWarning up) (fun t => (t.clk.pfw, t.clk.t0, t.clk.mode, t.bk.ledge.lflags, t.dpy.dark)) = some (some 1000, none, 1, 0xD, true) := by decide +kernel
theorem test_ref_loss : after (exec .refLoss up) (fun t => (t.clk.refLost, t.bk.ledge.lflags.getLsbD 5, t.clk.t0)) = some (true, true, none) := by decide +kernel
theorem test_supply_loss : after (exec .supplyLoss up) (fun t => (t.clk.powered, t.clk.mode, t.bk.ledge.cellRtc, t.bk.ledge.lflags)) = some (false, 0, up.bk.rtc, 1) := by decide +kernel
theorem test_supply_return : after (exec .supplyReturn { State.reset with clk := { State.reset.clk with pfw := some 3 } }) (fun t => t.clk.pfw) = some none := by decide +kernel
theorem test_ref_restored : after (exec .refRestored { State.reset with clk := { State.reset.clk with pfw := some 3, refLost := true } }) (fun t => (t.clk.pfw, t.clk.refLost)) = some (none, false) := by decide +kernel
theorem test_t0 : after (exec .pllLockStartup atT0) (fun t => (t.clk.t0, t.clk.modtick, t.bk.ledge.pupcnt, t.bk.ledge.lflags, (port t 0).boots.map fun f : OutFrame => f.payload.length)) = some (some 9700, 0, 1, 0, [12]) := by decide +kernel

/-! ### Ill-formed terms, and the invariant -/

theorem smoke_decide : Instr.wf (.pllLoss 3) = false ∧ Instr.wf (.pllLoss 2) = true := by decide
theorem smoke_wordOk : Instr.wf (.auxConversionDone 16384) = false ∧ Instr.wf (.auxConversionDone 16383) = true := by decide
theorem smoke_codeOk : Instr.wf (.reliefSlotStart 0 5 (2147483648, 0) 0) = false ∧ Instr.wf (.reliefMjReconnect 0 5 (2147483647, -2147483648) 0) = true := by decide
theorem smoke_fastBits : Instr.wf (.zeroCrossing 0 1 [true] []) = false ∧ Instr.wf (.zeroCrossing 0 0 [] []) = false ∧ Instr.wf (.zeroCrossing 0 1 (List.replicate 64 true) []) = true := by decide
theorem smoke_nodeOk : Instr.wf (.logout .site 254 0) = false ∧ Instr.wf (.logout .site 253 0) = true := by decide
theorem smoke_dataOk : Instr.wf (.write .hosta 0 0 0 [256]) = false ∧ Instr.wf (.write .hosta 0 0 0 (List.replicate 1025 0)) = false ∧ Instr.wf (.write .hosta 0 0 0 [255]) = true := by decide +kernel
theorem smoke_bytesOk : Instr.wf (.idle .hosta [0xA5, 256]) = false ∧ Instr.wf (.idle .hosta [0xA5, 255]) = true := by decide
theorem smoke_assertedOk : Instr.wf (.tmpStartupCheckDone [(20, 0)]) = false ∧ Instr.wf (.tmpStartupCheckDone [(3, 1), (3, 2)]) = false ∧ Instr.wf (.tmpStartupCheckDone [(3, 1), (4, 65535)]) = true := by decide
/-- The invariant of EveryStepKeepsMemoriesCountsAndFuses holds at reset, and in a state that has a command in front. -/
theorem wit_sound_reset : Sound State.reset := by unfold Sound; decide +kernel
theorem wit_sound_step : Sound { up with pending := [.clz .headland 1 2], fuse := { up.fuse with lc := up.fuse.lc.set 0 3 }, key := { up.key with scuttle := 1 } } ∧
    (∃ t, step { up with pending := [.clz .headland 1 2] } = .next t) := ⟨by unfold Sound; decide +kernel, ⟨_, rfl⟩⟩
theorem test_step_idle : after (step up) (fun t => (t.clk.ref, t.clk.modtick, t.pending.length)) = some (1001, 10000, 0) := by decide +kernel
theorem test_step_front : after (step { up with pending := [.clz .headland 1 2, .wfe .headland] }) (fun t => (getG t L 1, t.pending)) = some (29, [.wfe .headland]) := by decide +kernel

/-! ### Cryptography: examples of the standards, and the signed and sealed inputs of the commands -/

/-- FIPS 197, appendix C.3. -/
theorem test_aes : aesEnc (aesKey ((List.range 32).map (BitVec.ofNat 8 ·))) 0x00112233445566778899aabbccddeeff = 0x8ea2b7ca516745bfeafc49904b496089 := by decide +kernel
theorem test_aes_inverse : aesDec (aesKey ((List.range 32).map (BitVec.ofNat 8 ·))) 0x8ea2b7ca516745bfeafc49904b496089 = 0x00112233445566778899aabbccddeeff := by decide +kernel
/-- The GCM specification's test case 16. -/
def gcmKey : List Byte := be 32 0xfeffe9928665731c6d6a8f9467308308feffe9928665731c6d6a8f9467308308
def gcmText : List Byte := be 60 0xd9313225f88406e5a55909c5aff5269a86a7a9531534f7da2e4c303d8a318a721c3c0c95956809532fcf0e2449a6b525b16aedf5aa0de657ba637b39
def gcmCipher : List Byte := be 60 0x522dc1f099567d07f47f37a32a84427d643a8cdcbfe5c0c97598a2bd2555d1aa8cb08e48590dbb3da7b08b1056828838c5f61e6393ba7a0abcc9f662
theorem test_gcm_text : gcmCrypt gcmKey (be 12 0xcafebabefacedbaddecaf888) gcmText = gcmCipher := by decide +kernel
theorem test_gcm_tag : gcmTag gcmKey (be 12 0xcafebabefacedbaddecaf888) (be 20 0xfeedfacedeadbeeffeedfacedeadbeefabaddad2) gcmCipher = be 16 0x76fc6ece0f4e1768cddf8853bb2d551b := by decide +kernel
/-- RFC 3394, section 4.3: the wrapping passes under another initial value. -/
theorem test_wrap_passes : wrapPasses (aesKey ((List.range 32).map (BitVec.ofNat 8 ·))) 6 0 2 (0xA6A6A6A6A6A6A6A6, [0x0011223344556677, 0x8899AABBCCDDEEFF]) =
    (0x64E8C3F9CE0F5BA2, [0x63E9777905818A2A, 0x93C8191E7D6E8AE7]) := by decide +kernel
theorem test_unwrap_of_wrap : kwpUnwrap gcmKey (kwpWrap gcmKey (gcmText.take 16)) = some (gcmText.take 16) := by decide +kernel
/-- RFC 6979, appendix A.2.5: P-256, SHA-256, "sample". -/
def aScalar : List Byte := be 32 0xC9AFA9D845BA75166B5C215767B1D6934E50C3DB36E89B127B8A622B120F6721
def aPublic : List Byte := be 32 0x60FED4BA255A9D31C961EB74C6356D68C049B8923B61FA6CE669622E60F29FB6 ++ be 32 0x7903FE1008B8BC99A41AE9E95628BC64F2F1B20C2D7E9F5177A3C294D4462299
def aDigest : List Byte := sha256 [0x73, 0x61, 0x6D, 0x70, 0x6C, 0x65]
def aSignature : List Byte := be 32 0xEFD48B2AACB6A8FD1140DD9CD45E81D69D2C877B56AAF991C34D0EA84EAF3716 ++ be 32 0xF7CB1C942D657C41D436C7A1B6E29F65F3E900DBB9AFF4064DC4AB2F843ACDA8
theorem test_p256_pub : p256Pub aScalar = aPublic := by decide +kernel
theorem test_ecdsa_sign : ecdsaSignK aScalar aDigest 0xA6E3C57DD01ABE90086538398355DD4C3B17AA873382B0F24D6129493D8AAD60 = aSignature := by decide +kernel
theorem test_ecdsa_verify : ecdsaVerify aPublic aDigest aSignature = true ∧ ecdsaVerify aPublic (sha256 []) aSignature = false := by decide +kernel
theorem test_p256_decompress : p256Decompress (aPublic.take 32) true = aPublic := by decide +kernel

/-- Slot 9 holds the public key; the slot of every role is 9. -/
def upSigned (v : Word) : State :=
  let s := upKey v
  { s with key := { s.key with recs := s.key.recs.modify 9 fun r => { r with pub0 := aPublic } }, obj := { s.obj with keySlots := [9, 9, 9, 9, 9] } }
def verifyPost : State :=
  let s := upSigned 0x04100504
  { (post 1 [6, 9, 0x1000, 6, 0x2000, 0] none s) with hl := { s.hl with dmem := Mem.writeN (Mem.writeN s.hl.dmem 0x1000 [0x73, 0x61, 0x6D, 0x70, 0x6C, 0x65]) 0x2000 aSignature } }
theorem case_posted_verify : after (exec (.postedOperationComplete .key .legal) verifyPost) (fun t => (t.posts.length, rec t 5)) = some (0, 1) := by decide +kernel
theorem case_posted_verify_other : after (exec (.postedOperationComplete .key .legal) { verifyPost with hl := { verifyPost.hl with dmem := Mem.write verifyPost.hl.dmem 0x1000 0x74 } }) (fun t => rec t 5) = some 0 := by decide +kernel
/-- A move token signed by MAKER, and the move to PROVISIONED. -/
def signedToken (goal role : Byte) : List Byte := (token goal role).take 16 ++ ecdsaSignK aScalar (sha256 ((token goal role).take 16)) 5
def upMove (goal role : Byte) : State :=
  let s := upSigned 0x04080504
  let t := withRec [3, 0x1000] s
  { t with hl := { t.hl with dmem := Mem.writeN t.hl.dmem 0x1000 (signedToken goal role) } }
theorem wit_life_signed : tokenOk (upMove 2 5) (signedToken 2 5) = true ∧ tokenOk (upMove 2 5) (token 2 5) = false := by decide +kernel
theorem case_life_move : after (exec (.keyLife .headland 5 true) (upMove 2 5)) (fun t => (g1 t, lcState t, t.fuse.lc.getD 0 0)) = some (0, 2, 3) := by decide +kernel
theorem case_life_disagree : after (exec (.keyLife .headland 5 false) (upMove 2 5)) (fun t => (g1 t, lcState t, t.posts.map (·.outcome))) = some (0, 1, [some 9]) := by decide +kernel

/-- Frames of the site link, sealed with their TAG. -/
def netKeyOf (s : State) : List Byte := (sitKey s [1, 2, 3, 4, 5, 6, 7, 8] (List.replicate 16 6)).getD []
def sealedFrame (s : State) (ty : Nat) (pay : List Byte) : List Nat := asNats (wire ctlData (hdr ty pay.length ++ pay) (tagOf (netKeyOf s) (hdr ty pay.length ++ pay) ty))
theorem case_legal_frame : after (exec (.legalFrame .trk 20 (sealedFrame (upSit 4) 5 [1, 2, 3, 4])) (upSit 4)) (fun t => (t.sit.legalQ.map (·.data.length), t.legal.ctl.evpend, (nbr t 9).hi, t.sit.air.length)) =
    some ([4], 0x400, some 101, 1) := by decide +kernel
theorem case_legal_frame_tag : after (exec (.legalFrame .trk 20 (asNats (wire ctlData (hdr 5 4 ++ [1, 2, 3, 4]) (List.replicate 16 0)))) (upSit 4)) (fun t => (t.sit.fcsFail, t.sit.legalQ.length)) = some (1, 0) := by decide +kernel
theorem test_join_frame : after (exec (.joinFrame .trk 20 (sealedFrame (upSit 6) 1 jnp)) (let s := upSit 6; { s with sit := { s.sit with members := 2 ^ 7 } })) (fun t => (t.sit.members, (nbr t 9).crank, t.sit.q.map fun e => (e.typ, e.dest))) =
    some (2 ^ 7 + 2 ^ 9, 2, [(2, 9)]) := by decide +kernel
theorem test_join_reply_dup : after (exec (.joinReplyFrame .trk 20 (sealedFrame (upSit 3) 2 [1])) (upSit 3)) (fun t => (t.sit.st, t.ldg.subSeq)) = some (7, 1) := by decide +kernel
theorem test_tmap_frame : after (exec (.tmapFrame .pl2 20 (sealedFrame (upSit 4) 4 ([3, 1] ++ List.replicate 355 0x88))) (upSit 4)) (fun t => (nbr t 9).ph.next.map fun z => (z.1, z.2.getD 0 0)) = some (some (1, 0x88)) := by decide +kernel
theorem test_open_frame_full : after (exec (.openFrame .trk 20 (sealedFrame (upSit 4) 7 [1])) (let s := upSit 4; { s with sit := { s.sit with openQ := List.replicate 16 aMsg } })) (fun t => (t.sit.openQ.length, t.sit.dropQ, t.sit.air.length)) =
    some (16, 1, 0) := by decide +kernel
def sealedBeacon (s : State) (epoch : Nat) : List Nat := asNats (wire ctlBcn (bcnB epoch) (fit 16 (gcmTag (netKeyOf s) (le 4 101 ++ List.replicate 8 0) (bcnB epoch) [])))
theorem test_beacon_member : after (exec (.beacon .trk 20 2560000 (sealedBeacon (upSit 3) 6)) (upSit 3)) (fun t => (t.sit.st, t.sit.bcn.map (·.bpi), t.sit.members)) = some (4, some 41, 2 ^ 7 + 2 ^ 9) := by decide +kernel
theorem case_beacon_rival : after (exec (.beacon .trk 20 2560000 (sealedBeacon (upSit 6) 7)) (upSit 6)) (fun t => (t.sit.st, t.sit.bcn.map (·.epoch))) = some (3, some 7) := by decide +kernel
/-- Sending: the first LEGAL copy of a slot, and the four copies of a beacon. -/
theorem case_slot_send : after (exec (.cfpSlotStart false) (upQ 4 (aFrame 5 0 0))) (fun t => (t.sit.txctr, t.sit.air.map fun x : Nat × List Byte => (x.1, x.2.length), t.sit.flight.map fun x => x.1)) = some (1, [(1, 54)], some 9) := by decide +kernel
theorem test_beacon_send : after (exec (.beaconTransmit true) (upSit 6)) (fun t => (t.sit.txctr, t.sit.air.map fun x : Nat × List Byte => (x.1, x.2.length), t.sit.limit, t.sit.bcn.map (·.bpi))) =
    some (4, [(0, 128), (1, 128), (2, 128), (3, 128)], true, some 41) := by decide +kernel

end Sys2Proof.Tests
end

section
/-! PROOF. What an operation of a unit answers: its statuses in the order of 00 R13, its state and its results (05 R155 to R157). -/

namespace Sys2Proof.Proofs

open Sys2Proof.Machine Sys2Proof.Laws

/-! ### Statuses -/

@[simp] theorem mem_onIf (n : Nat) (b : Bool) (code : Nat) : n ∈ onIf b code ↔ b = true ∧ n = code := by
  cases b <;> simp [onIf]

theorem pick_absent {cs : List Nat} (h : 3 ∈ cs) : pick cs = 3 := by simp [pick, h]

theorem pick_denied {cs : List Nat} (h : 2 ∈ cs) (h3 : 3 ∉ cs) : pick cs = 2 := by simp [pick, h, h3]

theorem pick_range {cs : List Nat} (h : 6 ∈ cs) (h3 : 3 ∉ cs) (h2 : 2 ∉ cs) : pick cs = 6 := by simp [pick, h, h3, h2]

theorem pick_order {cs : List Nat} (h : 7 ∈ cs) (h3 : 3 ∉ cs) (h2 : 2 ∉ cs) (h6 : 6 ∉ cs) : pick cs = 7 := by simp [pick, h, h3, h2, h6]

theorem pick_busy {cs : List Nat} (h : 1 ∈ cs) (h3 : 3 ∉ cs) (h2 : 2 ∉ cs) (h6 : 6 ∉ cs) (h7 : 7 ∉ cs) (h4 : 4 ∉ cs) : pick cs = 1 := by
  simp [pick, h, h3, h2, h6, h7, h4]

/-- FULL is named when it is the only status that applies. -/
theorem pick_full {cs : List Nat} (h : ∀ n ∈ cs, n = 8) (h8 : 8 ∈ cs) : pick cs = 8 := by
  have hne (n : Nat) (hn : n ≠ 8) : n ∉ cs := fun hm => hn (h n hm)
  simp [pick, h8, hne]

/-! ### Reserved bits and fields -/

/-- A check fails exactly when what it asks for does not hold. -/
theorem eq_true_iff_not {b : Bool} {p : Prop} (h : b = false ↔ p) : b = true ↔ ¬p := by
  rw [← h, Bool.not_eq_false]

theorem resv_eq_true (ws : List Word) (i : Nat) (mask : Word) : resv ws i mask = true ↔ rw ws i &&& ~~~mask ≠ 0 := by simp [resv]

/-- No bit of a word stands outside its low `k` bits exactly when its number is below 2^k. -/
theorem and_not_low_eq_zero (v : Word) (k : Nat) : v &&& ~~~BitVec.ofNat 32 (2 ^ k - 1) = 0 ↔ v.toNat < 2 ^ k := by
  constructor
  · intro h
    apply Nat.lt_pow_two_of_testBit
    intro i hi
    rcases Nat.lt_or_ge i 32 with h32 | h32
    · have hb : (v &&& ~~~BitVec.ofNat 32 (2 ^ k - 1)).getLsbD i = false := by rw [h]; exact BitVec.getLsbD_zero
      have hm : (2 ^ k - 1).testBit i = false := by simp [Nat.testBit_two_pow_sub_one, hi]
      change v.getLsbD i = false
      simpa only [BitVec.getLsbD_and, BitVec.getLsbD_not, BitVec.getLsbD_ofNat, h32, hm, decide_true, Bool.and_false, Bool.not_false, Bool.and_true] using hb
    · exact BitVec.getLsbD_of_ge v i h32
  · intro h
    apply BitVec.eq_of_getLsbD_eq
    intro i hi
    rcases Nat.lt_or_ge i k with hik | hik
    · have hm : (2 ^ k - 1).testBit i = true := by simp [Nat.testBit_two_pow_sub_one, hik]
      simp [hi, hm, BitVec.getLsbD_ofNat]
    · have hv : v.getLsbD i = false := Nat.testBit_lt_two_pow (Nat.lt_of_lt_of_le h (Nat.pow_le_pow_right (by decide) hik))
      simp [hv]

theorem bits_lt (v : Word) (hi lo : Nat) : bits v hi lo < 2 ^ (hi + 1 - lo) := Nat.mod_lt _ (Nat.two_pow_pos _)

/-! ### The state in which an operation has its effect -/

@[simp] theorem countEcc_clk (s : State) (x : Ctx) (es : List MemErr) : (countEcc s x es).clk = s.clk := by unfold countEcc; split <;> simp
@[simp] theorem countEcc_fuse (s : State) (x : Ctx) (es : List MemErr) : (countEcc s x es).fuse = s.fuse := by unfold countEcc; split <;> simp
@[simp] theorem countEcc_chs (s : State) (x : Ctx) (es : List MemErr) : (countEcc s x es).chs = s.chs := by unfold countEcc; split <;> simp

@[simp] theorem issued_clk (s : State) (x : Ctx) (rs : Reg) : (issued s x rs).clk = s.clk := by simp [issued, recLoaded, fetched]
@[simp] theorem issued_fuse (s : State) (x : Ctx) (rs : Reg) : (issued s x rs).fuse = s.fuse := by simp [issued, recLoaded, fetched]
@[simp] theorem issued_chs (s : State) (x : Ctx) (rs : Reg) : (issued s x rs).chs = s.chs := by simp [issued, recLoaded, fetched]

/-! ### Immediate operations -/

section
variable {s : State} {c : CoreId} {rs : Reg} {un : UnitId} {need : Need} {len : Nat} {x : Ctx} {ws : List Word}
  {chk : Ctx → State → List Word → List Nat}

/-- An immediate operation whose checks name `st` answers it and does nothing else (00 R12). -/
theorem unitI_declines (h : Issues s c rs un need len x ws) {st : Nat} (hc : pick (chk x (issued s x rs) ws) = st) (h0 : st ≠ 0)
    (act : Ctx → State → List Word → Answer) : unitI s c rs un need len chk act = declines (issued s x rs) x st :=
  unitIF_fail h hc h0 _ act

/-- An immediate operation whose checks name nothing answers OK with its results. -/
theorem unitI_answers (h : Issues s c rs un need len x ws) (hc : ∀ n, n ∉ chk x (issued s x rs) ws)
    (act : Ctx → State → List Word → Answer) :
    unitI s c rs un need len chk act =
      .next (answers (act x (issued s x rs) ws).1 x (getG (issued s x rs) x rs) (act x (issued s x rs) ws).2) := by
  rw [getG_issued]
  exact unitIF_ok h hc _ act

/-- Without its unit an immediate operation with a good record answers ABSENT (00 R3). -/
theorem unitI_absent (hr : Runs s c x) (hrec : recExc (fetched s x) x (getG (fetched s x) x rs) = none) (ha : absentUnit s un = true)
    (act : Ctx → State → List Word → Answer) : unitI s c rs un need len chk act = declines (issued s x rs) x 3 := by
  unfold unitI unitIF
  rw [instrOn_runs hr]
  simp only [hrec, issued_eq, commonSt, absentUnit_issued, ha]
  rw [pick_absent (by simp [stABSENT])]
  rw [if_pos (show 3 ≠ 0 by decide), retire_eq]
  rfl

end

/-! ### Posted operations -/

theorem recExc_none_window {s : State} {x : Ctx} {a : Word} (h : recExc s x a = none) : inWindow a = false := by
  rw [inWindow, decide_eq_false_iff_not]
  intro hw
  have hb : byteAt a 0 = a.toNat := Nat.mod_eq_of_lt a.isLt
  by_cases hal : a.toNat % 4 = 0
  · simp [recExc, List.range_succ, hb, hw, hal] at h
  · simp [recExc, hal] at h

/-- Outside the MRAM window a context reads its data memory. -/
theorem dataRead_dmem {a : Word} (h : inWindow a = false) (s : State) (x : Ctx) (n : Nat) : dataRead s x a n = Mem.readN (dmemOf s x) a.toNat n := by
  simp [dataRead, h]

/-- DONE of a record outside the MRAM window enters data memory alone. -/
theorem putDone_dmem {a : Word} (h : inWindow a = false) (s : State) (x : Ctx) (d : Nat) : ∃ m, putDone s x a d = setDmem s x m := by
  simp only [putDone, dataWrite, h, Bool.false_eq_true, if_false]
  exact ⟨_, rfl⟩

theorem setLastOutcome_append (ps : List Posted) (p : Posted) (o : Option Nat) (res : List (Nat × Word)) (ho : p.outcome = none) (hr : p.results = []) :
    setLastOutcome (ps ++ [p]) o res = ps ++ [{ p with outcome := o, results := res }] := by
  cases o <;> cases res <;> simp [setLastOutcome, List.modify_eq_take_drop, ho, hr]

/-- A posted operation as it is accepted. -/
def posting (un : UnitId) (x : Ctx) (a : Word) (op : Nat) (ws : List Word) : Posted :=
  { unit := un, world := worldOfCtx x, live := true, addr := a.toNat, op := op, words := ws, outcome := none, results := [] }

section
variable {s : State} {c : CoreId} {rs : Reg} {un : UnitId} {need : Need} {op len : Nat} {x : Ctx} {ws : List Word}
  {chk : Ctx → State → List Word → List Nat} {act : Ctx → State → List Word → Accepted}

/-- The unit serves the world without a queue of its own and has no room for the operation (05 R157). -/
def fullFor (s : State) (un : UnitId) (op : Nat) (x : Ctx) : Bool := decide (8 ≤ pendingOf s un (worldOfCtx x)) && !ownQueue un op

theorem unitP_eq (h : Issues s c rs un need len x ws) :
    unitP s c rs un need op len chk act =
      let u := issued s x rs
      let a := getG u x rs
      let st := pick (chk x u ws ++ onIf (fullFor u un op x) 8)
      .next (if st ≠ 0 then wrote u x 1 (w32 st)
        else
          let r := act x { u with posts := u.posts ++ [posting un x a op ws] } ws
          wrote (putDone { r.st with posts := setLastOutcome r.st.posts r.outcome r.results } x a 0xF) x 1 0) := by
  have hp := (absentUnit_issued s x rs un).trans h.present
  unfold unitP
  rw [instrOn_runs h.runs]
  simp only [h.record, h.words, issued_eq, commonSt, hp, h.right, h.header.1, h.header.2, onIf, Bool.false_eq_true, if_false, Bool.not_true,
    bne_self_eq_false, Bool.or_self, List.nil_append, retire_eq, getG_issued]
  rfl

/-- A posted operation whose checks name `st` answers it and does nothing else (00 R12). -/
theorem unitP_declines (h : Issues s c rs un need len x ws) {st : Nat}
    (hc : pick (chk x (issued s x rs) ws ++ onIf (fullFor (issued s x rs) un op x) 8) = st) (h0 : st ≠ 0) :
    unitP s c rs un need op len chk act = declines (issued s x rs) x st := by
  rw [unitP_eq h, declines]
  simp only [hc, ne_eq, h0, not_false_eq_true, if_true]

/-- A posted operation whose checks name nothing is accepted when there is room. -/
theorem unitP_accepts (h : Issues s c rs un need len x ws) (hc : ∀ n, n ∉ chk x (issued s x rs) ws) (hr : Room (issued s x rs) x un)
    {t : State} {o : Option Nat} {res : List (Nat × Word)}
    (ha : act x { issued s x rs with posts := (issued s x rs).posts ++ [posting un x (getG (issued s x rs) x rs) op ws] } ws =
      { st := { t with posts := (issued s x rs).posts ++ [posting un x (getG (issued s x rs) x rs) op ws] }, outcome := o, results := res }) :
    unitP s c rs un need op len chk act = .next (accepts t (issued s x rs) x (getG (issued s x rs) x rs) un op ws o res) := by
  have hf : fullFor (issued s x rs) un op x = false := by simp [fullFor, Nat.not_le.mpr hr]
  have hk : chk x (issued s x rs) ws ++ onIf (fullFor (issued s x rs) un op x) 8 = [] := by
    rw [List.eq_nil_iff_forall_not_mem.mpr hc, hf]
    rfl
  rw [unitP_eq h]
  simp only [hk, ha, setLastOutcome_append _ (posting un x _ op ws) o res rfl rfl]
  rfl

/-- Without its unit a posted operation with a good record answers ABSENT (00 R3). -/
theorem unitP_absent (hr : Runs s c x) (hrec : recExc (fetched s x) x (getG (fetched s x) x rs) = none) (ha : absentUnit s un = true) :
    unitP s c rs un need op len chk act = declines (issued s x rs) x 3 := by
  unfold unitP
  rw [instrOn_runs hr]
  simp only [hrec, issued_eq, commonSt, absentUnit_issued, ha]
  rw [pick_absent (by simp [stABSENT])]
  rw [if_pos (show 3 ≠ 0 by decide), retire_eq]
  rfl

/-- What an accepted operation with a record in data memory leaves of the site link and of the posted operations. -/
theorem accepts_frame {a : Word} (hw : inWindow a = false) (t u : State) (o : Option Nat) (res : List (Nat × Word)) :
    (accepts t u x a un op ws o res).sit = t.sit ∧
      (accepts t u x a un op ws o res).posts = u.posts ++ [{ posting un x a op ws with outcome := o, results := res }] := by
  obtain ⟨m, hm⟩ := putDone_dmem hw { t with posts := u.posts ++ [{ posting un x a op ws with outcome := o, results := res }] } x 0xF
  have he : accepts t u x a un op ws o res = wrote (setDmem { t with posts := u.posts ++ [{ posting un x a op ws with outcome := o, results := res }] } x m) x 1 0 :=
    congrArg (wrote · x 1 0) hm
  rw [he]
  simp [wrote]

end

end Sys2Proof.Proofs
end

section
/-! PROOF. CAP.READ and the records of CHN: what is read, refused and stored (02 R42, R65; 03 R78; 05 R162, R163). -/

namespace Sys2Proof.Proofs

open Sys2Proof.Machine Sys2Proof.Laws

/-! ### CHANNEL, and a chain that runs -/

/-- CHANNEL is the only field of word 1. -/
def OnlyChannel (ws : List Word) : Prop := (rw ws 1).toNat < 128

@[simp] theorem mem_chRange_channel (ws : List Word) (n : Nat) : n ∈ chRange ws 0x7F#32 ↔ ¬OnlyChannel ws ∧ n = 6 := by
  have h : resv ws 1 0x7F#32 = true ↔ ¬OnlyChannel ws := (resv_eq_true ws 1 0x7F).trans (not_congr (and_not_low_eq_zero (rw ws 1) 7))
  rw [chRange, mem_onIf, h, stRANGE]

theorem chainStopped_eq_false {ch : Ch} (h : ch.chain.st ≠ 0) : chainStopped ch = false := by simp [chainStopped, h]

theorem chainStopped_eq_true {ch : Ch} (h : ch.chain.st = 0) (ha : ch.chain.again ≠ 1) : chainStopped ch = true := by simp [chainStopped, h, ha]

/-! ### CAP.READ -/

/-- The seven descriptor words before their CRC (00 Table 0.3). -/
def capHead (s : State) : List Word :=
  [capWord0 s.fuse.variant, if s.fuse.variant.surge then 0x00842008 else 0x00042008, 0x00421000,
    w32 (0x10000 + 256 * s.fuse.stepMajor.toNat + s.fuse.stepMinor.toNat), s.fuse.uidLo, s.fuse.uidHi, 0]

theorem surge_iff (v : Variant) : v.surge = true ↔ v ≠ .fm := by simp [Variant.surge]

theorem capHead_surge (s : State) : (capHead s).getD 1 0 = if s.fuse.variant = .fm then 0x00042008 else 0x00842008 := by
  by_cases hv : s.fuse.variant = .fm <;> simp [capHead, surge_iff, hv]

theorem capHead_issued (s : State) (x : Ctx) (rs : Reg) : capHead (issued s x rs) = capHead s := by simp [capHead]

theorem exec_capRead (c : CoreId) (rs : Reg) (s : State) :
    exec (.capRead c rs) s = unitI s c rs .cap .laneRead 10 (fun _ _ ws => onIf (rw ws 1 != 0) 6)
      fun _ s _ => (s, (capHead s ++ [crc32c (wordsBytes (capHead s))]).mapIdx fun i v => (2 + i, v)) := rfl

section
variable {s : State} {c : CoreId} {rs : Reg} {x : Ctx} {ws : List Word}

theorem capRead_answers (h : Issues s c rs .cap .laneRead 10 x ws) (h1 : rw ws 1 = 0) :
    exec (.capRead c rs) s = .next (answers (issued s x rs) x (getG (issued s x rs) x rs)
      ((capHead s ++ [crc32c (wordsBytes (capHead s))]).mapIdx fun i v => (2 + i, v))) := by
  rw [exec_capRead, unitI_answers h (by simp [h1]), capHead_issued]

/-! ### CHN.RDST -/

theorem exec_chnRdst (c : CoreId) (rs : Reg) (s : State) :
    exec (.chnRdst c rs) s = unitI s c rs .chn .laneRead 9 (fun _ _ ws => chRange ws 0x7F)
      fun _ s ws => (s, (chnStatus s (chOf ws)).mapIdx fun i v => (2 + i, v)) := rfl

theorem chnRdst_answers (h : Issues s c rs .chn .laneRead 9 x ws) (ho : OnlyChannel ws) :
    exec (.chnRdst c rs) s = .next (answers (issued s x rs) x (getG (issued s x rs) x rs)
      ((chnStatus (issued s x rs) (chOf ws)).mapIdx fun i v => (2 + i, v))) := by
  rw [exec_chnRdst, unitI_answers h (by simp [ho])]

/-! ### CHN.CFGIN -/

/-- R42 lets channel `n` have the input word `v`. -/
def InputOk (n : Nat) (v : Word) : Prop :=
  v &&& 0xFFFFF040 = 0 ∧ bits v 2 0 ≤ 5 ∧ bits v 5 3 ≤ 3 ∧ (n < 96 → bits v 10 8 = 0) ∧ (96 ≤ n → bits v 2 0 = 0)

/-- CFGIN's check of the input word. -/
def inputBad (ws : List Word) : Bool :=
  let v := rw ws 2
  let n := chOf ws
  resv ws 2 0xFBF || decide (5 < bits v 2 0) || decide (3 < bits v 5 3) || (isAin n && bits v 10 8 != 0) || (!isAin n && bits v 2 0 != 0)

theorem inputBad_iff (ws : List Word) : inputBad ws = true ↔ ¬InputOk (chOf ws) (rw ws 2) := by
  apply eq_true_iff_not
  simp [inputBad, InputOk, resv, isAin, and_assoc]

/-- A channel with the input word `v`; a change restarts the fast path and its crossings at edge `t` (log 36). -/
def withInput (t : Nat) (v : Word) (y : Ch) : Ch :=
  if y.input = v then y else { y with input := v, fast := { Fast.zero with tf := t }, zc := [] }

theorem withInput_eq (t : Nat) (v : Word) (y : Ch) :
    withInput t v y =
      { y with input := v, fast := if y.input = v then y.fast else startFast t 0, zc := if y.input = v then y.zc else [] } := by
  unfold withInput
  split
  · next hv => subst hv; rfl
  · rfl

theorem exec_chnCfgin (c : CoreId) (rs : Reg) (s : State) :
    exec (.chnCfgin c rs) s = unitI s c rs .chn .more 3
      (fun _ s ws => chRange ws 0x7F ++ onIf (inputBad ws) 6 ++ onIf (!chainStopped (chan s (chOf ws))) 7)
      fun _ s ws => (modCh s (chOf ws) (withInput (nextEdge s) (rw ws 2)), []) := by
  simp only [funext (withInput_eq _ _)]
  rfl

theorem chnCfgin_range (h : Issues s c rs .chn .more 3 x ws) (hb : ¬(OnlyChannel ws ∧ InputOk (chOf ws) (rw ws 2))) :
    exec (.chnCfgin c rs) s = declines (issued s x rs) x 6 := by
  rw [exec_chnCfgin, unitI_declines h (pick_range _ _ _) (by decide)] <;> simp [inputBad_iff]
  exact Classical.not_and_iff_not_or_not.mp hb

theorem chnCfgin_order (h : Issues s c rs .chn .more 3 x ws) (hg : OnlyChannel ws ∧ InputOk (chOf ws) (rw ws 2))
    (hr : (chan (issued s x rs) (chOf ws)).chain.st ≠ 0) : exec (.chnCfgin c rs) s = declines (issued s x rs) x 7 := by
  rw [exec_chnCfgin, unitI_declines h (pick_order _ _ _ _) (by decide)] <;> simp [inputBad_iff, hg, chainStopped_eq_false hr]

theorem chnCfgin_answers (h : Issues s c rs .chn .more 3 x ws) (hg : OnlyChannel ws ∧ InputOk (chOf ws) (rw ws 2))
    (h0 : (chan (issued s x rs) (chOf ws)).chain.st = 0) (ha : (chan (issued s x rs) (chOf ws)).chain.again ≠ 1) :
    exec (.chnCfgin c rs) s = .next (answers (modCh (issued s x rs) (chOf ws) (withInput (s.clk.modtick + 1) (rw ws 2)))
      x (getG (issued s x rs) x rs) []) := by
  rw [exec_chnCfgin, unitI_answers h (by simp [inputBad_iff, hg, chainStopped_eq_true h0 ha])]
  simp only [nextEdge, now, issued_clk]

/-! ### CHN.CFGCH -/

/-- Words 2 to 5 of CFGCH are those of Table 3.5 and meet R78. -/
def ConfigOk (ws : List Word) : Prop :=
  let w (i : Nat) := rw ws (2 + i)
  w 0 &&& 0xC0000000 = 0 ∧ w 1 &&& 0xF000600F = 0 ∧ w 2 &&& 0x3FF00000 = 0 ∧ w 3 &&& 0xFFFC0000 = 0 ∧ bits (w 0) 29 28 ≠ 3 ∧
    (bits (w 0) 29 28 = 0 → bits (w 0) 27 16 = 0) ∧ (bits (w 0) 29 28 = 1 → bits (w 0) 27 20 = 0) ∧
    1000 ≤ bits (w 2) 19 0 ∧ bits (w 2) 19 0 ≤ 700000 ∧ 63 ≤ bits (w 3) 17 0

/-- CFGCH's check of words 2 to 5. -/
def configBad (ws : List Word) : Bool :=
  resv ws 2 0x3FFFFFFF || resv ws 3 0x0FFF9FF0 || resv ws 4 0xC00FFFFF || resv ws 5 0x3FFFF || bits (rw ws 2) 29 28 == 3 || shiftBad (rw ws 2) ||
    decide (bits (rw ws 4) 19 0 < 1000) || decide (700000 < bits (rw ws 4) 19 0) || decide (bits (rw ws 5) 17 0 < 63)

theorem configBad_iff (ws : List Word) : configBad ws = true ↔ ¬ConfigOk ws := by
  apply eq_true_iff_not
  simp [configBad, ConfigOk, resv, shiftBad, and_assoc]

/-- A channel with the configuration words 2 to 5; without a detector nothing of its detector but the items it has to give remains. -/
def withConfig (ws : List Word) (y : Ch) : Ch :=
  { y with cfg0 := rw ws 2, cfg1 := rw ws 3, cfg2 := rw ws 4, cfg3 := rw ws 5,
           det := if (rw ws 4).getLsbD 31 then y.det else { Detector.zero with out := y.det.out } }

/-- CFGCH asks for SURGE on a channel without it. -/
def attaches (s : State) (ws : List Word) : Bool := (rw ws 3).getLsbD 12 && !chSurge (chan s (chOf ws))

/-- The option has SURGE, or CFGCH does not ask for it. -/
def SurgeFits (s : State) (ws : List Word) : Prop := (rw ws 3).getLsbD 12 = true → s.fuse.variant ≠ .fm

/-- CFGCH's check of the option. -/
def surgeAbsent (s : State) (ws : List Word) : Bool := (rw ws 3).getLsbD 12 && !s.fuse.variant.surge

theorem surgeAbsent_iff (s : State) (ws : List Word) : surgeAbsent s ws = true ↔ ¬SurgeFits s ws := by
  simp only [surgeAbsent, SurgeFits, Bool.and_eq_true, Bool.not_eq_true', ← Bool.not_eq_true, surge_iff, Classical.not_imp]

theorem surgeFits_issued (s : State) (x : Ctx) (rs : Reg) (ws : List Word) : SurgeFits (issued s x rs) ws ↔ SurgeFits s ws := by
  rw [SurgeFits, issued_fuse, SurgeFits]

theorem exec_chnCfgch (c : CoreId) (rs : Reg) (s : State) :
    exec (.chnCfgch c rs) s = unitI s c rs .chn .more 6
      (fun _ s ws => onIf (surgeAbsent s ws) 3 ++ chRange ws 0x7F ++ onIf (configBad ws) 6 ++
        onIf (rw ws 2 != (chan s (chOf ws)).cfg0 && !chainStopped (chan s (chOf ws))) 7 ++
        onIf (attaches s ws && slotField s (chOf ws) != 0) 1 ++ onIf (attaches s ws && decide (8 ≤ surgeCount s)) 8)
      fun _ s ws => (cfgSurge (modCh s (chOf ws) (withConfig ws)) (chOf ws) (chSurge (chan s (chOf ws))), []) := rfl

theorem chnCfgch_absent (h : Issues s c rs .chn .more 6 x ws) (hb : (rw ws 3).getLsbD 12 = true) (hv : s.fuse.variant = .fm) :
    exec (.chnCfgch c rs) s = declines (issued s x rs) x 3 := by
  rw [exec_chnCfgch, unitI_declines h (pick_absent _) (by decide)]
  simp [surgeAbsent_iff, SurgeFits, hb, hv]

theorem chnCfgch_range (h : Issues s c rs .chn .more 6 x ws) (hf : SurgeFits s ws) (hb : ¬(OnlyChannel ws ∧ ConfigOk ws)) :
    exec (.chnCfgch c rs) s = declines (issued s x rs) x 6 := by
  rw [exec_chnCfgch, unitI_declines h (pick_range _ _ _) (by decide)] <;> simp [configBad_iff, surgeAbsent_iff, surgeFits_issued, hf]
  exact Classical.not_and_iff_not_or_not.mp hb

theorem chnCfgch_order (h : Issues s c rs .chn .more 6 x ws) (hf : SurgeFits s ws) (hg : OnlyChannel ws ∧ ConfigOk ws)
    (hw : rw ws 2 ≠ (chan (issued s x rs) (chOf ws)).cfg0) (hr : (chan (issued s x rs) (chOf ws)).chain.st ≠ 0) :
    exec (.chnCfgch c rs) s = declines (issued s x rs) x 7 := by
  rw [exec_chnCfgch, unitI_declines h (pick_order _ _ _ _) (by decide)] <;>
    simp [configBad_iff, surgeAbsent_iff, surgeFits_issued, hf, hg, hw, chainStopped_eq_false hr]

/-- A channel of the part after a change of it. -/
theorem chan_modCh {t : State} {n : Nat} (hn : n < t.chs.length) (f : Ch → Ch) : chan (modCh t n f) n = f (chan t n) := by
  simp [chan, modCh, hn]

theorem cfgSurge_same {t : State} {n : Nat} {old : Bool} (h : chSurge (chan t n) = old) : cfgSurge t n old = t := by simp [cfgSurge, h]

theorem chnCfgch_answers (h : Issues s c rs .chn .more 6 x ws) (hf : SurgeFits s ws) (hg : OnlyChannel ws ∧ ConfigOk ws)
    (ho : rw ws 2 = (chan (issued s x rs) (chOf ws)).cfg0 ∨
      ((chan (issued s x rs) (chOf ws)).chain.st = 0 ∧ (chan (issued s x rs) (chOf ws)).chain.again ≠ 1))
    (hs : (rw ws 3).getLsbD 12 = (chan (issued s x rs) (chOf ws)).cfg1.getLsbD 12) (hn : chOf ws < s.chs.length) :
    exec (.chnCfgch c rs) s = .next (answers (modCh (issued s x rs) (chOf ws) (withConfig ws)) x (getG (issued s x rs) x rs) []) := by
  have hat : attaches (issued s x rs) ws = false := by
    simp only [attaches, chSurge, hs, Bool.and_not_self]
  have hst : (rw ws 2 != (chan (issued s x rs) (chOf ws)).cfg0 && !chainStopped (chan (issued s x rs) (chOf ws))) = false := by
    rcases ho with hw | ⟨h0, ha⟩
    · simp [hw]
    · simp [chainStopped_eq_true h0 ha]
  have hsu : chSurge (chan (modCh (issued s x rs) (chOf ws) (withConfig ws)) (chOf ws)) = chSurge (chan (issued s x rs) (chOf ws)) := by
    rw [chan_modCh (by simpa using hn)]
    exact hs
  rw [exec_chnCfgch, unitI_answers h (by simp [configBad_iff, surgeAbsent_iff, surgeFits_issued, hf, hg, hat, hst]), cfgSurge_same hsu]

/-! ### CHN.CLRO -/

theorem exec_chnClro (c : CoreId) (rs : Reg) (s : State) :
    exec (.chnClro c rs) s = unitI s c rs .chn .more 2
      (fun _ s ws => chRange ws 0x7F ++ onIf ((chan s (chOf ws)).stuck || (chan s (chOf ws)).overs.any fun o => o.stop.isNone) 7)
      fun _ s ws => (clearSticky s (chOf ws) 0x1FF3, []) := rfl

theorem chnClro_order (h : Issues s c rs .chn .more 2 x ws) (ho : OnlyChannel ws)
    (hp : (chan (issued s x rs) (chOf ws)).stuck = true ∨ ∃ o ∈ (chan (issued s x rs) (chOf ws)).overs, o.stop = none) :
    exec (.chnClro c rs) s = declines (issued s x rs) x 7 := by
  rw [exec_chnClro, unitI_declines h (pick_order _ _ _ _) (by decide)] <;> simp [ho]
  exact hp

theorem chnClro_answers (h : Issues s c rs .chn .more 2 x ws) (ho : OnlyChannel ws)
    (hs : (chan (issued s x rs) (chOf ws)).stuck = false) (hp : ∀ o ∈ (chan (issued s x rs) (chOf ws)).overs, o.stop ≠ none) :
    exec (.chnClro c rs) s = .next (answers (clearSticky (issued s x rs) (chOf ws) 0x1FF3) x (getG (issued s x rs) x rs) []) := by
  have hq : ((chan (issued s x rs) (chOf ws)).overs.any fun o => o.stop.isNone) = false := by simpa [List.any_eq_false] using hp
  rw [exec_chnClro, unitI_answers h (by simp [ho, hs, hq])]

end

/-- Settles O28: each record's checks and effect, by the lemmas of its operation. -/
theorem channelConfigurationIsCheckedAndStored : Obligations.ChannelConfigurationIsCheckedAndStored := by
  unfold Obligations.ChannelConfigurationIsCheckedAndStored
  intro s c rs x ws u a n ch only put
  refine ⟨fun h h1 => ⟨capHead s, rfl, capHead_surge s, rfl, rfl, rfl, rfl, rfl, capRead_answers h h1⟩, chnRdst_answers, ?_, ?_, ?_⟩
  · intro h v good
    exact ⟨chnCfgin_range h, chnCfgin_order h, chnCfgin_answers h⟩
  · intro h w good
    exact ⟨chnCfgch_absent h, fun hf => ⟨chnCfgch_range h hf, chnCfgch_order h hf, chnCfgch_answers h hf⟩⟩
  · intro h ho
    exact ⟨chnClro_order h ho, chnClro_answers h ho⟩

end Sys2Proof.Proofs
end

section
/-! PROOF. What handing the ledger a record leaves alone (10 R286 to R301). -/

namespace Sys2Proof.Proofs

open Sys2Proof.Machine

/-- `t` differs from `s` in the ledger, in the number of free values used and in further events raised to the LEGAL world, and in nothing else. -/
def LedgerOnly (s t : State) : Prop :=
  ∃ (l : Ldg) (f : Nat) (e : Word),
    t = { s with ldg := l, free := f, legal := { s.legal with ctl := { s.legal.ctl with evpend := s.legal.ctl.evpend ||| e } } }

/-- A state in which only the ledger and the free values changed. -/
theorem ledgerOnly_of_eq {s t : State} (l : Ldg) (f : Nat) (h : t = { s with ldg := l, free := f }) : LedgerOnly s t :=
  ⟨l, f, 0, by simp [h]⟩

theorem LedgerOnly.refl (s : State) : LedgerOnly s s := ledgerOnly_of_eq s.ldg s.free rfl

theorem LedgerOnly.trans {s t u : State} (h : LedgerOnly s t) (g : LedgerOnly t u) : LedgerOnly s u := by
  obtain ⟨l, f, e, rfl⟩ := h
  obtain ⟨m, k, d, rfl⟩ := g
  exact ⟨m, k, e ||| d, by rw [← BitVec.or_assoc]⟩

theorem ldgPut_ledgerOnly (s : State) (ty part last : Nat) (par : Bool) (bt : Nat) (sig : SigMode) (es : List Nat) (b : Bytes) :
    LedgerOnly s (ldgPut s ty part last par bt sig es b) := ledgerOnly_of_eq _ _ rfl

theorem ldgCheckpoint_ledgerOnly (s : State) : LedgerOnly s (ldgCheckpoint s) := ledgerOnly_of_eq _ _ rfl

theorem ldgParts_ledgerOnly (s : State) (ty last : Nat) (par : Bool) (bt : Nat) (es : List Nat) (i : Nat) (ps : List Bytes) :
    LedgerOnly s (ldgParts s ty last par bt es i ps) := by
  induction ps generalizing s i with
  | nil => exact .refl s
  | cons b t ih => exact (ldgPut_ledgerOnly ..).trans (ih _ _)

theorem ldgKick_ledgerOnly (s : State) : LedgerOnly s (ldgKick s) := by
  unfold ldgKick
  split
  · split
    · split
      · exact ledgerOnly_of_eq _ _ rfl
      · exact .refl s
    · exact .refl s
  · exact .refl s

theorem ldgAccept_ledgerOnly (s : State) (ty : Nat) (par : Bool) (es : List Nat) (ps : List Bytes) : LedgerOnly s (ldgAccept s ty par es ps) := by
  have hc (p : Prop) [Decidable p] (t : State) : LedgerOnly t (if p then ldgCheckpoint t else t) := by
    split
    · exact ldgCheckpoint_ledgerOnly t
    · exact .refl t
  unfold ldgAccept
  split
  · exact ledgerOnly_of_eq _ _ rfl
  · exact ((hc _ s).trans (ldgParts_ledgerOnly ..)).trans ((hc _ _).trans (ldgKick_ledgerOnly _))

theorem bumpSubseq_ledgerOnly (s : State) : LedgerOnly s (bumpSubseq s) := ledgerOnly_of_eq _ _ rfl

theorem ldgFullNote_ledgerOnly (s : State) : LedgerOnly s (ldgFullNote s) := by
  unfold ldgFullNote
  split
  · exact ((ledgerOnly_of_eq _ _ rfl).trans (bumpSubseq_ledgerOnly _)).trans (ldgAccept_ledgerOnly ..)
  · exact .refl s

theorem ldgTouch_ledgerOnly (old s : State) : LedgerOnly s (ldgTouch old s) := by
  unfold ldgTouch
  split
  · exact .refl s
  · exact ⟨_, _, _, rfl⟩

/-- An ordinary event changes the ledger alone, apart from free values and LDG's own event. -/
theorem event_ledgerOnly (s : State) (u : UnitId) (code : Nat) (ps : List Word) : LedgerOnly s (event s u code ps) :=
  (bumpSubseq_ledgerOnly s).trans ((ldgAccept_ledgerOnly ..).trans ((ldgFullNote_ledgerOnly _).trans (ldgTouch_ledgerOnly ..)))

namespace LedgerOnly
variable {s t : State}

theorem fuse (h : LedgerOnly s t) : t.fuse = s.fuse := by obtain ⟨l, f, e, rfl⟩ := h; rfl
theorem clk (h : LedgerOnly s t) : t.clk = s.clk := by obtain ⟨l, f, e, rfl⟩ := h; rfl
theorem key (h : LedgerOnly s t) : t.key = s.key := by obtain ⟨l, f, e, rfl⟩ := h; rfl
theorem sit (h : LedgerOnly s t) : t.sit = s.sit := by obtain ⟨l, f, e, rfl⟩ := h; rfl

/-- An event that waits for the LEGAL world still waits. -/
theorem evpend (h : LedgerOnly s t) {n : Nat} (hn : s.legal.ctl.evpend.getLsbD n = true) : t.legal.ctl.evpend.getLsbD n = true := by
  obtain ⟨l, f, e, rfl⟩ := h
  rw [BitVec.getLsbD_or, hn, Bool.true_or]

end LedgerOnly

end Sys2Proof.Proofs
end

section
/-! PROOF. The site link's STATE and SIT.CFG: leaving, storing, joining (14 R393, R411 to R413). -/

namespace Sys2Proof.Proofs

open Sys2Proof.Machine Sys2Proof.Laws

/-! ### Changes of STATE -/

section
variable (s : State)

/-- SIT's event is raised to the LEGAL world. -/
theorem unitEv_sit_told {s : State} (h : absentUnit s .sit = false) : (unitEv s .legal .sit).legal.ctl.evpend.getLsbD 10 = true := by
  simp [unitEv, h, raiseEv, unitCode]

/-- The part with `st` stored as STATE, before anyone hears of it. -/
def withSitSt (s : State) (st : Nat) : State :=
  { s with sit := { s.sit with st := st, memUntil := if sitIn s.sit.st then some (now s) else s.sit.memUntil } }

theorem setSit_same {st : Nat} (h : s.sit.st = st) (coord epoch : Nat) : setSit s st coord epoch = s := by simp [setSit, h]

/-- A change of STATE stores it, raises SIT's event to the LEGAL world and hands the ledger its records (R411, R413). -/
theorem setSit_change {st : Nat} (h : s.sit.st ≠ st) (coord epoch : Nat) :
    LedgerOnly (unitEv (withSitSt s st) .legal .sit) (setSit s st coord epoch) := by
  have ha : { setMemUntil s with sit := { (setMemUntil s).sit with st := st } } = withSitSt s st := by
    unfold setMemUntil withSitSt
    split <;> rfl
  have hc (p : Prop) [Decidable p] (t : State) (code : Nat) (ps : List Word) : LedgerOnly t (if p then event t .sit code ps else t) := by
    split
    · exact event_ledgerOnly ..
    · exact .refl t
  unfold setSit
  rw [if_neg h, ← ha]
  exact (hc _ _ _ _).trans (hc _ _ _ _)

theorem unitEv_legal_frame (u : UnitId) :
    (unitEv s .legal u).sit = s.sit ∧ (unitEv s .legal u).clk = s.clk ∧ (unitEv s .legal u).key = s.key := by
  unfold unitEv
  split <;> exact ⟨rfl, rfl, rfl⟩

variable (st coord epoch : Nat)

/-- Of the link STATE alone changes, and until when the node was a member. -/
theorem setSit_frame : (∃ m, (setSit s st coord epoch).sit = { s.sit with st := st, memUntil := m }) ∧
    (setSit s st coord epoch).clk = s.clk ∧ (setSit s st coord epoch).key = s.key := by
  by_cases h : s.sit.st = st
  · rw [setSit_same s h, ← h]
    exact ⟨⟨s.sit.memUntil, rfl⟩, rfl, rfl⟩
  · have hl := setSit_change s h coord epoch
    obtain ⟨hs, hc, hk⟩ := unitEv_legal_frame (withSitSt s st) .sit
    exact ⟨⟨_, hl.sit.trans hs⟩, hl.clk.trans hc, hl.key.trans hk⟩

theorem setSit_told (ha : absentUnit s .sit = false) (h : s.sit.st ≠ st) : (setSit s st coord epoch).legal.ctl.evpend.getLsbD 10 = true :=
  (setSit_change s h coord epoch).evpend (unitEv_sit_told ha)

theorem sitLapse_ledgerOnly : LedgerOnly { s with sit := { s.sit with resume := false } } (sitLapse s coord epoch) := by
  unfold sitLapse
  split
  · exact event_ledgerOnly ..
  · exact .refl _

end

/-! ### SIT.CFG's effect -/

/-- The part once a membership kept over a stop has ended (Table 14.8). -/
def lapsed (s : State) : State := sitLapse s 0xFE (sitEpoch s)

theorem lapsed_frame (s : State) : (lapsed s).sit = { s.sit with resume := false } ∧ (lapsed s).clk = s.clk ∧ (lapsed s).key = s.key ∧
    absentUnit (lapsed s) .sit = absentUnit s .sit := by
  have h := sitLapse_ledgerOnly s 0xFE (sitEpoch s)
  exact ⟨h.sit, h.clk, h.key, by rw [absentUnit, lapsed, h.fuse]; rfl⟩

/-- The words of a SIT.CFG are stored (R412). -/
def withCfg (s : State) (ws : List Word) : State :=
  { s with sit := { s.sit with cfg := [rw ws 1, rw ws 2, rw ws 3, rw ws 4], resume := false, since := now s } }

/-- STATE after a SIT.CFG without LEAVE. -/
def cfgGoal (s : State) (ws : List Word) : Nat :=
  if !(rw ws 1).getLsbD 30 then 0 else if s.clk.fallback.isSome || s.clk.mode = 3 then 8 else if (netKey s).isSome then 2 else 1

theorem sitCfgAct_leave (s : State) {ws : List Word} (h : (rw ws 1).getLsbD 31 = true) :
    let b := withCfg (setSit (lapsed s) 0 0xFE (sitEpoch (lapsed s))) ws
    sitCfgAct s ws = { b with sit := { b.sit with flight := none } } := by
  obtain ⟨-, hc, -⟩ := setSit_frame (lapsed s) 0 0xFE (sitEpoch (lapsed s))
  unfold lapsed at hc ⊢
  simp only [sitCfgAct, h, if_true, withCfg, now, hc]

theorem sitCfgAct_stay (s : State) {ws : List Word} (h : (rw ws 1).getLsbD 31 = false) :
    let b := withCfg (lapsed s) ws
    sitCfgAct s ws = setSit b (cfgGoal b ws) 0xFE 0 := by
  intro b
  have hg : setSit b (cfgGoal b ws) 0xFE 0 = if !(rw ws 1).getLsbD 30 then setSit b 0 0xFE 0
      else if b.clk.fallback.isSome || b.clk.mode = 3 then setSit b 8 0xFE 0 else setSit b (if (netKey b).isSome then 2 else 1) 0xFE 0 := by
    unfold cfgGoal
    rw [apply_ite (setSit b · 0xFE 0), apply_ite (setSit b · 0xFE 0)]
  rw [hg]
  unfold sitCfgAct
  simp only [h, Bool.false_eq_true, if_false]
  rfl

/-- What SIT.CFG stores besides STATE, and what it leaves (R412). -/
theorem sitCfgAct_stores (s : State) (ws : List Word) :
    (sitCfgAct s ws).sit.cfg = [rw ws 1, rw ws 2, rw ws 3, rw ws 4] ∧ (sitCfgAct s ws).sit.resume = false ∧
      (sitCfgAct s ws).sit.since = now s ∧ (sitCfgAct s ws).sit.q = s.sit.q := by
  obtain ⟨hzs, hzc, -, -⟩ := lapsed_frame s
  have hn : now (lapsed s) = now s := congrArg Clk.modtick hzc
  have hq : (lapsed s).sit.q = s.sit.q := by rw [hzs]
  cases h : (rw ws 1).getLsbD 31
  · obtain ⟨⟨m, hm⟩, -, -⟩ := setSit_frame (withCfg (lapsed s) ws) (cfgGoal (withCfg (lapsed s) ws) ws) 0xFE 0
    rw [sitCfgAct_stay s h, hm]
    exact ⟨rfl, rfl, hn, hq⟩
  · obtain ⟨⟨m, hm⟩, hc, -⟩ := setSit_frame (lapsed s) 0 0xFE (sitEpoch (lapsed s))
    rw [sitCfgAct_leave s h]
    exact ⟨rfl, rfl, (congrArg Clk.modtick hc).trans hn, (congrArg Sit.q hm).trans hq⟩

/-- The LEGAL world hears of a SIT.CFG that changes STATE (R411). -/
theorem sitCfgAct_told {s : State} {ws : List Word} (ha : absentUnit s .sit = false) (hne : s.sit.st ≠ (sitCfgAct s ws).sit.st) :
    (sitCfgAct s ws).legal.ctl.evpend.getLsbD 10 = true := by
  obtain ⟨hzs, -, -, hza⟩ := lapsed_frame s
  have haz := hza.trans ha
  have hst : (lapsed s).sit.st = s.sit.st := by rw [hzs]
  cases h : (rw ws 1).getLsbD 31
  · rw [sitCfgAct_stay s h] at hne ⊢
    obtain ⟨⟨m, hm⟩, -, -⟩ := setSit_frame (withCfg (lapsed s) ws) (cfgGoal (withCfg (lapsed s) ws) ws) 0xFE 0
    rw [hm] at hne
    exact setSit_told _ _ _ _ haz (fun he => hne (hst.symm.trans he))
  · rw [sitCfgAct_leave s h] at hne ⊢
    obtain ⟨⟨m, hm⟩, -, -⟩ := setSit_frame (lapsed s) 0 0xFE (sitEpoch (lapsed s))
    have hne' : s.sit.st ≠ 0 := fun he => hne (he.trans (congrArg Sit.st hm).symm)
    exact setSit_told _ _ _ _ haz (fun he => hne' (hst.symm.trans he))

/-- The node leaves to OFF, whatever its STATE, and no frame of it is in flight (R393). -/
theorem sitCfgAct_left (s : State) {ws : List Word} (h : (rw ws 1).getLsbD 31 = true) :
    (sitCfgAct s ws).sit.st = 0 ∧ (sitCfgAct s ws).sit.flight = none := by
  obtain ⟨⟨m, hm⟩, -, -⟩ := setSit_frame (lapsed s) 0 0xFE (sitEpoch (lapsed s))
  rw [sitCfgAct_leave s h]
  exact ⟨congrArg Sit.st hm, rfl⟩

/-- The site network key's slot `i` can be used: a current copy, no ERASE, master 6, DERIVE and the lifecycle state granted (14 R392; 11 R326). -/
def KeyUsable (s : State) (i : Nat) : Prop :=
  (∃ k, cached s i = some k ∧ k.gen = (rec s i).gen) ∧ s.key.scuttle = 0 ∧ (recAttr (rec s i)).getLsbD 6 = true ∧
    (recAttr (rec s i)).getLsbD 22 = true ∧ (recAttr (rec s i)).getLsbD (9 + lcState s) = true

theorem netKey_isSome (s : State) : (netKey s).isSome = true ↔ KeyUsable s (sitKeySlot s) := by
  cases hk : cached s (sitKeySlot s) with
  | none => simp [netKey, KeyUsable, hk]
  | some k => simp [netKey, KeyUsable, hk, erased, attrLcs, uDERIVE, and_assoc, and_comm, and_left_comm]

theorem keyUsable_congr {s t : State} (h : t.key = s.key) (i : Nat) : KeyUsable t i ↔ KeyUsable s i := by
  simp only [KeyUsable, cached, rec, lcState, h]

/-- STATE after a SIT.CFG without LEAVE: OFF, STOPPED, LISTEN or NOKEY (R393). -/
theorem sitCfgAct_st (s : State) {ws : List Word} (h : (rw ws 1).getLsbD 31 = false) :
    ((rw ws 1).getLsbD 30 = false → (sitCfgAct s ws).sit.st = 0) ∧
      ((rw ws 1).getLsbD 30 = true → s.clk.fallback.isSome ∨ s.clk.mode = 3 → (sitCfgAct s ws).sit.st = 8) ∧
      ((rw ws 1).getLsbD 30 = true → s.clk.fallback = none → s.clk.mode ≠ 3 →
        (KeyUsable s (bits (rw ws 2) 5 0) → (sitCfgAct s ws).sit.st = 2) ∧ (¬KeyUsable s (bits (rw ws 2) 5 0) → (sitCfgAct s ws).sit.st = 1)) := by
  obtain ⟨-, hc, hzk, -⟩ := lapsed_frame s
  have hc : (withCfg (lapsed s) ws).clk = s.clk := hc
  have hk : (netKey (withCfg (lapsed s) ws)).isSome = true ↔ KeyUsable s (bits (rw ws 2) 5 0) :=
    (netKey_isSome _).trans (keyUsable_congr hzk _)
  obtain ⟨⟨m, hm⟩, -, -⟩ := setSit_frame (withCfg (lapsed s) ws) (cfgGoal (withCfg (lapsed s) ws) ws) 0xFE 0
  rw [sitCfgAct_stay s h, hm]
  refine ⟨fun hj => ?_, fun hj hs => ?_, fun hj hf hm3 => ?_⟩
  · simp only [cfgGoal, hj, Bool.not_false, if_true]
  · have hs' : (s.clk.fallback.isSome || decide (s.clk.mode = 3)) = true := by simpa using hs
    simp only [cfgGoal, hj, Bool.not_true, Bool.false_eq_true, if_false, hc, hs', if_true]
  · have hs' : (s.clk.fallback.isSome || decide (s.clk.mode = 3)) = false := by simp [hf, hm3]
    simp only [cfgGoal, hj, Bool.not_true, Bool.false_eq_true, if_false, hc, hs']
    exact ⟨fun hu => if_pos (hk.mpr hu), fun hu => if_neg (hu ∘ hk.mp)⟩

end Sys2Proof.Proofs
end

section
/-! PROOF. The SIT operations: what each refuses, queues, stores and returns (14 R388, R405 to R412). -/

namespace Sys2Proof.Proofs

open Sys2Proof.Machine Sys2Proof.Laws

@[simp] theorem wrote_sit (t : State) (x : Ctx) (rd : Reg) (v : Word) : (wrote t x rd v).sit = t.sit := by simp [wrote]

@[simp] theorem wrote_evpend (t : State) (x : Ctx) (rd : Reg) (v : Word) : (wrote t x rd v).legal.ctl.evpend = t.legal.ctl.evpend := by
  cases x with
  | ref l => cases l <;> rfl
  | slot l k => cases l <;> rfl
  | world w => cases w <;> rfl

@[simp] theorem mem_sitLegal (x : Ctx) (n : Nat) : n ∈ sitLegal x ↔ x = .world .opn ∧ n = 2 := by simp [sitLegal, stDENIED]

section
variable {s : State} {c : CoreId} {rs : Reg} {x : Ctx} {ws : List Word}

/-! ### SIT.CFG -/

/-- The words of SIT.CFG meet R412. -/
def SitCfgOk (ws : List Word) : Prop :=
  let w := rw ws 1
  let b := rw ws 2
  w &&& 0x0700FF00 = 0 ∧ b &&& 0xFF003FC0 = 0 ∧ rw ws 4 &&& 0xFFFFC0C0 = 0 ∧ (∀ j < 3, rw ws (5 + j) = 0) ∧ bits w 7 0 ≤ 253 ∧ 4 ≤ bits b 5 0 ∧
    bits (rw ws 4) 13 8 ≤ 60 ∧ bits (rw ws 4) 5 0 ≤ 60 ∧ (bits b 23 16 ≤ 127 ∨ bits b 23 16 = 0xFF) ∧
    (bits w 23 20 ≠ 0 → w.getLsbD 28 = true ∧ bits b 23 16 ≠ 0xFF ∧ 1 ≤ bits w 19 16 ∧ bits w 19 16 ≤ 8) ∧
    ¬(w.getLsbD 31 = true ∧ w.getLsbD 30 = true)

theorem sitCfgRange_iff (ws : List Word) : sitCfgRange ws = true ↔ ¬SitCfgOk ws := by
  have h3 : (∀ j < 3, rw ws (5 + j) = 0) ↔ rw ws 5 = 0 ∧ rw ws 6 = 0 ∧ rw ws 7 = 0 := by
    constructor
    · exact fun h => ⟨h 0 (by decide), h 1 (by decide), h 2 (by decide)⟩
    · rintro ⟨h5, h6, h7⟩ j hj
      match j, hj with
      | 0, _ => exact h5
      | 1, _ => exact h6
      | 2, _ => exact h7
  apply eq_true_iff_not
  simp only [SitCfgOk, h3]
  simp [sitCfgRange, resv, and_assoc, Nat.one_le_iff_ne_zero, Decidable.or_iff_not_imp_left]

/-- The node is joining or has joined, and is not asked to leave. -/
def cfgTooLate (s : State) (ws : List Word) : Bool := decide (3 ≤ s.sit.st) && decide (s.sit.st ≤ 7) && !(rw ws 1).getLsbD 31

theorem exec_sitCfg {i : Instr} (hi : i ∈ [Instr.sitCfg c rs, .sitCfgJoin c rs, .sitCfgLeave c rs]) (s : State) :
    exec i s = unitI s c rs .sit .more 8 (fun x s ws => sitLegal x ++ onIf (sitCfgRange ws) 6 ++ onIf (cfgTooLate s ws) 7)
      fun _ s ws => (sitCfgAct s ws, []) := by
  simp only [List.mem_cons, List.not_mem_nil, or_false] at hi
  rcases hi with rfl | rfl | rfl <;> rfl

section
variable {i : Instr} (hi : i ∈ [Instr.sitCfg c rs, .sitCfgJoin c rs, .sitCfgLeave c rs]) (h : Issues s c rs .sit .more 8 x ws)
include hi h

theorem sitCfg_denied (hx : x = .world .opn) : exec i s = declines (issued s x rs) x 2 := by
  rw [exec_sitCfg hi, unitI_declines h (pick_denied _ _) (by decide)] <;> simp [hx]

theorem sitCfg_range (hx : x ≠ .world .opn) (hb : ¬SitCfgOk ws) : exec i s = declines (issued s x rs) x 6 := by
  rw [exec_sitCfg hi, unitI_declines h (pick_range _ _ _) (by decide)] <;> simp [hx, sitCfgRange_iff, hb]

theorem sitCfg_order (hx : x ≠ .world .opn) (hg : SitCfgOk ws) (h3 : 3 ≤ (issued s x rs).sit.st) (h7 : (issued s x rs).sit.st ≤ 7)
    (hl : ¬(rw ws 1).getLsbD 31 = true) : exec i s = declines (issued s x rs) x 7 := by
  have ht : cfgTooLate (issued s x rs) ws = true := by simpa only [cfgTooLate, h3, h7, decide_true, Bool.true_and, Bool.not_eq_true'] using Bool.eq_false_iff.mpr hl
  rw [exec_sitCfg hi, unitI_declines h (pick_order _ _ _ _) (by decide)] <;> simp [hx, sitCfgRange_iff, hg, ht]

theorem sitCfg_answers (hx : x ≠ .world .opn) (hg : SitCfgOk ws) (hl : (rw ws 1).getLsbD 31 = true ∨ (issued s x rs).sit.st < 3 ∨ 7 < (issued s x rs).sit.st) :
    exec i s = .next (answers (sitCfgAct (issued s x rs) ws) x (getG (issued s x rs) x rs) []) := by
  have ht : cfgTooLate (issued s x rs) ws = false := by
    rw [cfgTooLate, Bool.and_eq_false_iff, Bool.and_eq_false_iff, decide_eq_false_iff_not, decide_eq_false_iff_not, Bool.not_eq_false']
    rcases hl with hl | hl | hl
    · exact .inr hl
    · exact .inl (.inl (by omega))
    · exact .inl (.inr (by omega))
  rw [exec_sitCfg hi, unitI_answers h]
  simp [hx, sitCfgRange_iff, hg, ht]

/-- What a SIT.CFG that is not refused leaves: the words, STATE and what goes with it (R393, R412). -/
theorem sitCfg_completes (hx : x ≠ .world .opn) (hg : SitCfgOk ws)
    (hl : (rw ws 1).getLsbD 31 = true ∨ (issued s x rs).sit.st < 3 ∨ 7 < (issued s x rs).sit.st) :
    let u := issued s x rs
    let leave : Prop := (rw ws 1).getLsbD 31 = true
    let join : Prop := (rw ws 1).getLsbD 30 = true
    let usable : Prop := KeyUsable u (bits (rw ws 2) 5 0)
    Completes (exec i s) fun t =>
      t.sit.cfg = [rw ws 1, rw ws 2, rw ws 3, rw ws 4] ∧ t.sit.resume = false ∧ t.sit.since = now u ∧
        (u.sit.st ≠ t.sit.st → t.legal.ctl.evpend.getLsbD 10 = true) ∧ t.sit.q = u.sit.q ∧ (¬join → t.sit.st = 0) ∧ (leave → t.sit.flight = none) ∧
        (join → u.clk.fallback.isSome ∨ u.clk.mode = 3 → t.sit.st = 8) ∧
        (join → u.clk.fallback = none → u.clk.mode ≠ 3 → (usable → t.sit.st = 2) ∧ (¬usable → t.sit.st = 1)) := by
  intro u leave join usable
  obtain ⟨hcfg, hres, hsince, hq⟩ := sitCfgAct_stores u ws
  have ha : absentUnit u .sit = false := (absentUnit_issued s x rs .sit).trans h.present
  refine ⟨_, sitCfg_answers hi h hx hg hl, ?_⟩
  obtain ⟨-, -, -, -, -, -, -, -, -, -, hnot⟩ := hg
  simp only [answers, putWords, List.foldl_nil, wrote_sit, wrote_evpend]
  refine ⟨hcfg, hres, hsince, sitCfgAct_told ha, hq, ?_⟩
  by_cases hle : leave
  · obtain ⟨hst, hfl⟩ := sitCfgAct_left u hle
    have hj : ¬join := fun hj => hnot ⟨hle, hj⟩
    exact ⟨fun _ => hst, fun _ => hfl, fun hj' => absurd hj' hj, fun hj' => absurd hj' hj⟩
  · obtain ⟨hno, hstop, hgo⟩ := sitCfgAct_st u (Bool.eq_false_iff.mpr hle)
    exact ⟨fun hj => hno (Bool.eq_false_iff.mpr hj), fun hle' => absurd hle' hle, hstop, hgo⟩

end

end

end Sys2Proof.Proofs
end

section
/-! PROOF. SIT.SEND, SIT.TMAP, SIT.TSWAP and SIT.RECV: the link's queues and its transmit mask (14 R388, R405, R406, R411). -/

namespace Sys2Proof.Proofs

open Sys2Proof.Machine Sys2Proof.Laws

/-! ### Buffers in data memory -/

theorem memOk_window {s : State} {x : Ctx} {a : Word} {n : Nat} {st : Bool} (h : memOk s x a n st = true) (hn : 1 ≤ n) : inWindow a = false := by
  simp only [memOk, Bool.and_eq_true, List.all_eq_true, List.mem_range, decide_eq_true_eq] at h
  obtain ⟨-, hall⟩ := h
  have hb : byteAt a 0 = a.toNat := Nat.mod_eq_of_lt a.isLt
  have h0 := (hall 0 hn).1
  rw [hb] at h0
  simpa [inWindow] using h0

/-- A buffer in data memory reads the same whatever operations are posted. -/
theorem dataRead_posts {a : Word} (h : inWindow a = false) (s : State) (ps : List Posted) (x : Ctx) (n : Nat) :
    dataRead { s with posts := ps } x a n = dataRead s x a n := by
  have hd : dmemOf { s with posts := ps } x = dmemOf s x := by
    cases x with
    | ref l => cases l <;> rfl
    | slot l k => cases l <;> rfl
    | world w => rfl
  rw [dataRead_dmem h, dataRead_dmem h, hd]

/-- The first byte of a byte string as a field. -/
theorem fld_zero_one (b : Bytes) : fld 0 1 b = (b.getD 0 0).toNat := by
  cases b <;> simp [fld, slice, fit, unle]

/-! ### SIT.SEND -/

/-- SEND's words meet R412: the lengths of the three kinds, a destination other than the node, and a payload that the world may load. -/
def SendOk (s : State) (x : Ctx) (ws : List Word) : Prop :=
  let w := rw ws 1
  let k := bits w 17 16
  let n := bits w 10 0
  let d := bits w 31 24
  w &&& 0x00FCF800 = 0 ∧ rw ws 3 &&& 0xFFFC0000 = 0 ∧ rw ws 4 &&& 0xFFFFFF00 = 0 ∧ rw ws 5 = 0 ∧ k ≠ 3 ∧ 1 ≤ n ∧ n ≤ (if k = 0 then 384 else 1024) ∧
    d ≠ bits (s.sit.cfg.getD 0 0) 7 0 ∧ d ≠ 0xFE ∧ ¬(d = 0xFF ∧ k = 2) ∧ memOk s x (rw ws 2) n false = true

/-- SEND's check of its words. -/
def sendBad (s : State) (x : Ctx) (ws : List Word) : Bool :=
  let w := rw ws 1
  let k := bits w 17 16
  let n := bits w 10 0
  let d := bits w 31 24
  resvs ws [(1, 0xFF0307FF), (3, 0x3FFFF), (4, 0xFF)] || rw ws 5 != 0 || k == 3 || n == 0 || decide ((if k = 0 then 384 else 1024) < n) || d == sitNode s ||
    d == 0xFE || (d == 0xFF && k == 2) || !memOk s x (rw ws 2) (min n 1024) false

theorem sendBad_iff (s : State) (x : Ctx) (ws : List Word) : sendBad s x ws = true ↔ ¬SendOk s x ws := by
  apply eq_true_iff_not
  have hn (h : bits (rw ws 1) 10 0 ≤ (if bits (rw ws 1) 17 16 = 0 then 384 else 1024)) : min (bits (rw ws 1) 10 0) 1024 = bits (rw ws 1) 10 0 := by
    apply Nat.min_eq_left
    split at h <;> omega
  rw [SendOk, sendBad]
  simp only [Bool.or_eq_false_iff, resvs, List.any_cons, List.any_nil, resv, bne_eq_false_iff_eq, beq_eq_false_iff_ne, decide_eq_false_iff_not,
    Bool.and_eq_false_iff, Bool.not_eq_false', sitNode, sitW, Nat.not_lt, ne_eq, Nat.one_le_iff_ne_zero, Classical.not_and_iff_not_or_not]
  grind

/-- A world asks for a LEGAL frame that only the LEGAL world may send or take (R411). -/
def openLegal (x : Ctx) (ws : List Word) : Bool := x == .world .opn && bits (rw ws 1) 17 16 == 0

theorem openLegal_iff (x : Ctx) (ws : List Word) : openLegal x ws = true ↔ x = .world .opn ∧ bits (rw ws 1) 17 16 = 0 := by simp [openLegal]

/-- TYPE of the frame of a kind: LEGAL, OPEN or OBJECT (14 Table 14.3). -/
def sendType (k : Nat) : Nat := if k = 0 then 5 else if k = 1 then 7 else 6

/-- The frame that SEND queues with LSEQ `no` (R405). -/
def sendFrame (s : State) (x : Ctx) (ws : List Word) (no : Nat) : SOut :=
  { dest := bits (rw ws 1) 31 24, typ := sendType (bits (rw ws 1) 17 16), payload := dataRead s x (rw ws 2) (bits (rw ws 1) 10 0),
    world := some (worldOfCtx x), lseq := no, born := now s, atP := 0, atT := 0, acked := 0, draw := none }

/-- The link once SEND has queued its frame; an object request is remembered (R405, R411). -/
def sent (s : State) (x : Ctx) (ws : List Word) : State :=
  let d := bits (rw ws 1) 31 24
  let no := (nbr s d).lseq
  let e := sendFrame s x ws no
  { s with sit := { s.sit with
      q := s.sit.q ++ [e]
      nbrs := (modNbr s d fun y => { y with lseq := (no + 1) % 65536 }).sit.nbrs
      reqs := if bits (rw ws 1) 17 16 = 2 ∧ fld 0 1 e.payload < 128 then (d, fld 2 2 e.payload, worldOfCtx x) :: s.sit.reqs else s.sit.reqs } }

/-- `sent` is the state that the model's SEND leaves. -/
theorem sent_eq (s : State) (x : Ctx) (ws : List Word) :
    let d := bits (rw ws 1) 31 24
    let k := bits (rw ws 1) 17 16
    let b := dataRead s x (rw ws 2) (bits (rw ws 1) 10 0)
    let a := sitQueue s d (sendType k) b (some (worldOfCtx x))
    (if k = 2 && decide ((b.getD 0 0).toNat < 128) then { a with sit := { a.sit with reqs := (d, fld 2 2 b, worldOfCtx x) :: a.sit.reqs } } else a) =
      sent s x ws := by
  intro d k b a
  have hc : (decide (k = 2) && decide ((b.getD 0 0).toNat < 128)) = true ↔ k = 2 ∧ fld 0 1 b < 128 := by simp [fld_zero_one]
  have hs : sent s x ws = { a with sit := { a.sit with reqs := if k = 2 ∧ fld 0 1 b < 128 then (d, fld 2 2 b, worldOfCtx x) :: a.sit.reqs else a.sit.reqs } } := rfl
  rw [hs]
  simp only [hc]
  split <;> rfl

theorem exec_sitSend (c : CoreId) (rs : Reg) (s : State) :
    exec (.sitSend c rs) s = unitP s c rs .sit .more 1 6 (fun x s ws => onIf (openLegal x ws) 2 ++ onIf (sendBad s x ws) 6)
      fun x s ws => { st := sent s x ws, outcome := none, results := [(3, w32 (nbr s (bits (rw ws 1) 31 24)).lseq)] } := by
  simp only [← sent_eq]
  rfl

theorem sent_posts (s : State) (ps : List Posted) (x : Ctx) (ws : List Word) (h : inWindow (rw ws 2) = false) :
    sent { s with posts := ps } x ws = { sent s x ws with posts := ps } := by
  have hf (no : Nat) : sendFrame { s with posts := ps } x ws no = sendFrame s x ws no := by
    rw [sendFrame, dataRead_posts h]
    rfl
  simp only [sent, hf]
  rfl

/-- What the node holds of a node after a change of it. -/
theorem nbr_modNbr (s : State) (n : Nat) (f : Nbr → Nbr) (hf : (f (nbr s n)).node = n) : nbr (modNbr s n f) n = f (nbr s n) := by
  rw [nbr, modNbr, List.find?_cons_of_pos (by simpa using hf)]
  rfl

theorem nbr_node (s : State) (n : Nat) : (nbr s n).node = n := by
  unfold nbr
  cases h : s.sit.nbrs.find? fun x => x.node == n with
  | none => rfl
  | some y => simpa using List.find?_some h

theorem nbr_congr {s t : State} (h : t.sit.nbrs = s.sit.nbrs) (n : Nat) : nbr t n = nbr s n := by rw [nbr, h, nbr]

section
variable {s : State} {c : CoreId} {rs : Reg} {x : Ctx} {ws : List Word}

theorem issues_window {un : UnitId} {need : Need} {len : Nat} (h : Issues s c rs un need len x ws) : inWindow (getG (issued s x rs) x rs) = false := by
  rw [getG_issued]
  exact recExc_none_window h.record

section
variable (h : Issues s c rs .sit .more 6 x ws)
include h

theorem sitSend_denied (hx : x = .world .opn) (hk : bits (rw ws 1) 17 16 = 0) : exec (.sitSend c rs) s = declines (issued s x rs) x 2 := by
  rw [exec_sitSend, unitP_declines h (pick_denied _ _) (by decide)] <;> simp [openLegal_iff, hx, hk]

theorem sitSend_range (hx : ¬(x = .world .opn ∧ bits (rw ws 1) 17 16 = 0)) (hb : ¬SendOk (issued s x rs) x ws) :
    exec (.sitSend c rs) s = declines (issued s x rs) x 6 := by
  rw [exec_sitSend, unitP_declines h (pick_range _ _ _) (by decide)] <;> simp [openLegal_iff, hx, sendBad_iff, hb]

theorem sitSend_full (hx : ¬(x = .world .opn ∧ bits (rw ws 1) 17 16 = 0)) (hg : SendOk (issued s x rs) x ws) (hr : ¬Room (issued s x rs) x .sit) :
    exec (.sitSend c rs) s = declines (issued s x rs) x 8 := by
  have hf : fullFor (issued s x rs) .sit 1 x = true := by simpa [fullFor, ownQueue, Room] using hr
  rw [exec_sitSend, unitP_declines h (pick_full _ _) (by decide)] <;> simp [openLegal_iff, hx, sendBad_iff, hg, hf]

theorem sitSend_accepts (hx : ¬(x = .world .opn ∧ bits (rw ws 1) 17 16 = 0)) (hg : SendOk (issued s x rs) x ws) (hr : Room (issued s x rs) x .sit) :
    exec (.sitSend c rs) s = .next (accepts (sent (issued s x rs) x ws) (issued s x rs) x (getG (issued s x rs) x rs) .sit 1 ws none
      [(3, w32 (nbr (issued s x rs) (bits (rw ws 1) 31 24)).lseq)]) := by
  have hw : inWindow (rw ws 2) = false := by
    obtain ⟨-, -, -, -, -, hn, -, -, -, -, hm⟩ := hg
    exact memOk_window hm hn
  rw [exec_sitSend]
  refine unitP_accepts h ?_ hr ?_
  · simp [openLegal_iff, hx, sendBad_iff, hg]
  · rw [sent_posts _ _ _ _ hw]
    rfl

/-- What an accepted SEND leaves in the link and among the posted operations (R405, R411). -/
theorem sitSend_completes (hx : ¬(x = .world .opn ∧ bits (rw ws 1) 17 16 = 0)) (hg : SendOk (issued s x rs) x ws) (hr : Room (issued s x rs) x .sit) :
    let u := issued s x rs
    let no := (nbr u (bits (rw ws 1) 31 24)).lseq
    Completes (exec (.sitSend c rs) s) fun t =>
      t.sit = (sent u x ws).sit ∧ (nbr t (bits (rw ws 1) 31 24)).lseq = (no + 1) % 65536 ∧
        t.posts.getLast? = some { posting .sit x (getG u x rs) 1 ws with outcome := none, results := [(3, w32 no)] } := by
  intro u no
  refine ⟨_, sitSend_accepts h hx hg hr, ?_⟩
  obtain ⟨hs, hp⟩ := accepts_frame (un := .sit) (op := 1) (x := x) (ws := ws) (issues_window h) (sent u x ws) u none [(3, w32 no)]
  refine ⟨hs, ?_, by rw [hp, List.getLast?_concat]⟩
  have hn := nbr_modNbr u (bits (rw ws 1) 31 24) (fun y => { y with lseq := (no + 1) % 65536 }) (nbr_node u _)
  rw [nbr_congr (s := modNbr u (bits (rw ws 1) 31 24) fun y => { y with lseq := (no + 1) % 65536 }) (by rw [hs]; rfl), hn]

end

/-! ### SIT.TMAP -/

/-- Code `i` of a segment of the transmit mask (14 R388). -/
def segCode (seg : Bytes) (i : Nat) : Nat := (seg.getD (i / 2) 0).toNat / 16 ^ (i % 2) % 16

theorem carrierCode_eq (b : Bytes) (i : Nat) : carrierCode b i = segCode b i := by
  have he : 4 * (i % 2) + 3 + 1 - 4 * (i % 2) = 4 := by omega
  have hs (n : Nat) : n >>> (4 * (i % 2)) = n / 16 ^ (i % 2) :=
    (Nat.shiftRight_eq_div_pow n _).trans (congrArg (n / ·) (Nat.pow_mul 2 4 (i % 2)))
  calc carrierCode b i = (b.getD (i / 2) 0).toNat >>> (4 * (i % 2)) % 2 ^ (4 * (i % 2) + 3 + 1 - 4 * (i % 2)) := rfl
    _ = (b.getD (i / 2) 0).toNat / 16 ^ (i % 2) % 2 ^ 4 := congr (congrArg HMod.hMod (hs _)) (congrArg (2 ^ ·) he)
    _ = segCode b i := rfl

theorem segCode_lt (b : Bytes) (i : Nat) : segCode b i < 16 := Nat.mod_lt _ (by decide)

/-- The valid codes are those that R388 does not rule out. -/
theorem badCode_eq_false : ∀ k < 16, (badCode k = false ↔ k ∈ [0, 1, 2, 3, 4, 6, 8, 10]) := by decide

/-- TMAP's words meet R412 and its segment holds valid codes, and none beyond carrier 764. -/
def TmapOk (s : State) (x : Ctx) (ws : List Word) : Prop :=
  let g := bits (rw ws 1) 3 0
  let seg := dataRead s x (rw ws 2) 32
  rw ws 1 &&& 0xFFFFFFF0 = 0 ∧ g ≤ 11 ∧ rw ws 4 = 0 ∧ rw ws 5 = 0 ∧ memOk s x (rw ws 2) 32 false = true ∧
    ∀ i < 64, segCode seg i ∈ [0, 1, 2, 3, 4, 6, 8, 10] ∧ (g = 11 → 6 ≤ i → segCode seg i = 0)

/-- TMAP's check of its words and its segment. -/
def tmapBad (s : State) (x : Ctx) (ws : List Word) : Bool :=
  let g := bits (rw ws 1) 3 0
  let b := dataRead s x (rw ws 2) 32
  resv ws 1 0xF || decide (11 < g) || rw ws 4 != 0 || rw ws 5 != 0 || !memOk s x (rw ws 2) 32 false ||
    (List.range 64).any fun i => badCode (carrierCode b i) || (g == 11 && decide (5 < i) && carrierCode b i != 0)

theorem tmapBad_iff (s : State) (x : Ctx) (ws : List Word) : tmapBad s x ws = true ↔ ¬TmapOk s x ws := by
  apply eq_true_iff_not
  have hc (b : Bytes) (i : Nat) := badCode_eq_false (segCode b i) (segCode_lt b i)
  simp only [tmapBad, TmapOk, carrierCode_eq, Bool.or_eq_false_iff, resv, bne_eq_false_iff_eq, decide_eq_false_iff_not, Nat.not_lt, Bool.not_eq_false',
    List.any_eq_false, List.mem_range, Bool.not_eq_true, hc, Bool.and_eq_false_iff, beq_eq_false_iff_ne, and_assoc]
  grind

theorem exec_sitTmap (c : CoreId) (rs : Reg) (s : State) :
    exec (.sitTmap c rs) s = unitP s c rs .sit .more 3 6 (fun x s ws => sitLegal x ++ onIf (tmapBad s x ws) 6 ++ onIf s.sit.swap 1)
      fun x s ws => donePost { s with sit := { s.sit with
        shadow := s.sit.shadow.set (bits (rw ws 1) 3 0) (some (dataRead s x (rw ws 2) 32)), sgen := s.sit.sgen + 1 } } 0 [(3, w32 (s.sit.sgen + 1))] := rfl

section
variable (h : Issues s c rs .sit .more 6 x ws)
include h

theorem sitTmap_denied (hx : x = .world .opn) : exec (.sitTmap c rs) s = declines (issued s x rs) x 2 := by
  rw [exec_sitTmap, unitP_declines h (pick_denied _ _) (by decide)] <;> simp [hx]

theorem sitTmap_range (hx : x ≠ .world .opn) (hb : ¬TmapOk (issued s x rs) x ws) : exec (.sitTmap c rs) s = declines (issued s x rs) x 6 := by
  rw [exec_sitTmap, unitP_declines h (pick_range _ _ _) (by decide)] <;> simp [hx, tmapBad_iff, hb]

theorem sitTmap_busy (hx : x ≠ .world .opn) (hg : TmapOk (issued s x rs) x ws) (hw : (issued s x rs).sit.swap = true) :
    exec (.sitTmap c rs) s = declines (issued s x rs) x 1 := by
  rw [exec_sitTmap, unitP_declines h (pick_busy _ _ _ _ _ _) (by decide)] <;> simp [hx, tmapBad_iff, hg, hw]

theorem sitTmap_accepts (hx : x ≠ .world .opn) (hg : TmapOk (issued s x rs) x ws) (hw : (issued s x rs).sit.swap = false) (hr : Room (issued s x rs) x .sit) :
    let u := issued s x rs
    exec (.sitTmap c rs) s = .next (accepts { u with sit := { u.sit with
      shadow := u.sit.shadow.set (bits (rw ws 1) 3 0) (some (dataRead u x (rw ws 2) 32)), sgen := u.sit.sgen + 1 } }
      u x (getG u x rs) .sit 3 ws (some 0) [(3, w32 (u.sit.sgen + 1))]) := by
  intro u
  rw [exec_sitTmap]
  refine unitP_accepts h ?_ hr ?_
  · simp [hx, tmapBad_iff, hg, hw]
  · obtain ⟨-, -, -, -, hm, -⟩ := hg
    rw [dataRead_posts (memOk_window hm (by decide))]
    rfl

end

/-! ### SIT.TSWAP -/

theorem exec_sitTswap (c : CoreId) (rs : Reg) (s : State) :
    exec (.sitTswap c rs) s = unitP s c rs .sit .more 4 3
      (fun x s ws => sitLegal x ++ onIf (rw ws 2 != 0) 6 ++ onIf (!(s.sit.shadow.all (·.isSome))) 7)
      fun _ s _ => later1 { s with sit := { s.sit with swap := true } } := rfl

/-- Every segment of the shadow mask is there. -/
def ShadowFull (s : State) : Prop := ∀ z ∈ s.sit.shadow, z.isSome

theorem shadow_all (s : State) : s.sit.shadow.all (·.isSome) = true ↔ ShadowFull s := by simp only [List.all_eq_true, ShadowFull]

section
variable (h : Issues s c rs .sit .more 3 x ws)
include h

theorem sitTswap_denied (hx : x = .world .opn) : exec (.sitTswap c rs) s = declines (issued s x rs) x 2 := by
  rw [exec_sitTswap, unitP_declines h (pick_denied _ _) (by decide)] <;> simp [hx]

theorem sitTswap_range (hx : x ≠ .world .opn) (h2 : rw ws 2 ≠ 0) : exec (.sitTswap c rs) s = declines (issued s x rs) x 6 := by
  have hb : (rw ws 2 != 0) = true := bne_iff_ne.mpr h2
  rw [exec_sitTswap, unitP_declines h (pick_range _ _ _) (by decide)] <;> simp only [hb] <;> simp [hx]

theorem sitTswap_order (hx : x ≠ .world .opn) (h2 : rw ws 2 = 0) (hf : ¬ShadowFull (issued s x rs)) :
    exec (.sitTswap c rs) s = declines (issued s x rs) x 7 := by
  have ha : (issued s x rs).sit.shadow.all (·.isSome) = false := Bool.eq_false_iff.mpr ((not_congr (shadow_all _)).mpr hf)
  rw [exec_sitTswap, unitP_declines h (pick_order _ _ _ _) (by decide)] <;> simp only [ha] <;> simp [hx, h2]

theorem sitTswap_accepts (hx : x ≠ .world .opn) (h2 : rw ws 2 = 0) (hf : ShadowFull (issued s x rs)) (hr : Room (issued s x rs) x .sit) :
    let u := issued s x rs
    exec (.sitTswap c rs) s = .next (accepts { u with sit := { u.sit with swap := true } } u x (getG u x rs) .sit 4 ws none []) := by
  intro u
  have ha : u.sit.shadow.all (·.isSome) = true := (shadow_all _).mpr hf
  rw [exec_sitTswap]
  refine unitP_accepts h ?_ hr rfl
  simp only [u] at ha
  simp only [ha]
  simp [hx, h2]

end

/-! ### SIT.RECV -/

/-- RECV's words meet R412, and the world may store 1,024 bytes at BUF. -/
def RecvOk (s : State) (x : Ctx) (ws : List Word) : Prop :=
  rw ws 1 &&& 0x00FCF800 = 0 ∧ rw ws 3 &&& 0xFFFC0000 = 0 ∧ rw ws 4 = 0 ∧ bits (rw ws 1) 17 16 ≠ 3 ∧ memOk s x (rw ws 2) 1024 true = true

/-- RECV's check of its words. -/
def recvBad (s : State) (x : Ctx) (ws : List Word) : Bool :=
  resvs ws [(1, 0xFF0307FF), (3, 0x3FFFF)] || rw ws 4 != 0 || bits (rw ws 1) 17 16 == 3 || !memOk s x (rw ws 2) 1024 true

theorem recvBad_iff (s : State) (x : Ctx) (ws : List Word) : recvBad s x ws = true ↔ ¬RecvOk s x ws := by
  apply eq_true_iff_not
  simp [recvBad, RecvOk, resvs, resv, and_assoc]

/-- The state and the results of taking the oldest frame of a queue (R406). -/
def recvAct (s : State) (x : Ctx) (ws : List Word) : Answer :=
  let k := bits (rw ws 1) 17 16
  match recvQ s x k with
  | [] => (s, [(1, w32 (65536 * k))])
  | m :: t =>
    (dataWrite (setRecvQ s x k t) x (rw ws 2) m.data,
      [(1, w32 (m.src * 2 ^ 24 + 65536 * k + m.data.length)), (3, w32 (131072 * b2n m.robust + 65536 * b2n m.trk + m.lseq))])

theorem exec_sitRecv (c : CoreId) (rs : Reg) (s : State) :
    exec (.sitRecv c rs) s = unitI s c rs .sit .more 5 (fun x s ws => onIf (openLegal x ws) 2 ++ onIf (recvBad s x ws) 6)
      fun x s ws => recvAct s x ws := rfl

/-- A queue of the three kinds is stored where it stands, and nowhere else. -/
theorem setRecvQ_eq (s : State) (x : Ctx) {k : Nat} (hk : k < 3) (q : List SMsg) :
    setRecvQ s x k q = { s with sit := { s.sit with
      legalQ := if k = 0 then q else s.sit.legalQ, openQ := if k = 1 then q else s.sit.openQ
      objO := if k = 2 ∧ x = .world .opn then q else s.sit.objO, objL := if k = 2 ∧ x ≠ .world .opn then q else s.sit.objL } } := by
  obtain rfl | rfl | rfl : k = 0 ∨ k = 1 ∨ k = 2 := by omega
  · rfl
  · rfl
  · by_cases hx : x = .world .opn <;> simp [setRecvQ, hx]

section
variable (h : Issues s c rs .sit .more 5 x ws)
include h

theorem sitRecv_denied (hx : x = .world .opn) (hk : bits (rw ws 1) 17 16 = 0) : exec (.sitRecv c rs) s = declines (issued s x rs) x 2 := by
  rw [exec_sitRecv, unitI_declines h (pick_denied _ _) (by decide)] <;> simp [openLegal_iff, hx, hk]

theorem sitRecv_range (hx : ¬(x = .world .opn ∧ bits (rw ws 1) 17 16 = 0)) (hb : ¬RecvOk (issued s x rs) x ws) :
    exec (.sitRecv c rs) s = declines (issued s x rs) x 6 := by
  rw [exec_sitRecv, unitI_declines h (pick_range _ _ _) (by decide)] <;> simp [openLegal_iff, hx, recvBad_iff, hb]

variable (hx : ¬(x = .world .opn ∧ bits (rw ws 1) 17 16 = 0)) (hg : RecvOk (issued s x rs) x ws)
include hx hg

theorem sitRecv_answers : exec (.sitRecv c rs) s =
    .next (answers (recvAct (issued s x rs) x ws).1 x (getG (issued s x rs) x rs) (recvAct (issued s x rs) x ws).2) := by
  rw [exec_sitRecv, unitI_answers h]
  simp [openLegal_iff, hx, recvBad_iff, hg]

theorem sitRecv_empty (hq : recvQ (issued s x rs) x (bits (rw ws 1) 17 16) = []) :
    exec (.sitRecv c rs) s = .next (answers (issued s x rs) x (getG (issued s x rs) x rs) [(1, w32 (65536 * bits (rw ws 1) 17 16))]) := by
  rw [sitRecv_answers h hx hg, recvAct]
  simp only [hq]

theorem sitRecv_takes {m : SMsg} {rest : List SMsg} (hq : recvQ (issued s x rs) x (bits (rw ws 1) 17 16) = m :: rest) :
    let u := issued s x rs
    let k := bits (rw ws 1) 17 16
    exec (.sitRecv c rs) s = .next (answers
      (dataWrite { u with sit := { u.sit with
        legalQ := if k = 0 then rest else u.sit.legalQ, openQ := if k = 1 then rest else u.sit.openQ
        objO := if k = 2 ∧ x = .world .opn then rest else u.sit.objO, objL := if k = 2 ∧ x ≠ .world .opn then rest else u.sit.objL } } x (rw ws 2) m.data)
      x (getG u x rs) [(1, w32 (m.src * 2 ^ 24 + 65536 * k + m.data.length)), (3, w32 (131072 * b2n m.robust + 65536 * b2n m.trk + m.lseq))]) := by
  intro u k
  have hk : k < 3 := by
    have hlt : k < 4 := bits_lt (rw ws 1) 17 16
    obtain ⟨-, -, -, h3, -⟩ := hg
    omega
  rw [sitRecv_answers h hx hg, recvAct]
  simp only [hq]
  rw [setRecvQ_eq _ _ hk]

end

end

end Sys2Proof.Proofs
end

section
/-! PROOF. SIT.NBR and SIT.RDST: what the node knows and counts (14 R409, R412, Table 14.13); the settlement of the SIT operations. -/

namespace Sys2Proof.Proofs

open Sys2Proof.Machine Sys2Proof.Laws

/-! ### Bits and fields of a word made from a number -/

theorem getLsbD_w32 (n i : Nat) (hi : i < 32) : (w32 n).getLsbD i = true ↔ n / 2 ^ i % 2 = 1 := by
  rw [w32, BitVec.getLsbD_ofNat]
  simp only [hi, decide_true, Bool.true_and, Nat.testBit_eq_decide_div_mod_eq, decide_eq_true_eq]

theorem bits_w32 (n hi lo : Nat) : bits (w32 n) hi lo = n % 2 ^ 32 / 2 ^ lo % 2 ^ (hi + 1 - lo) := by
  rw [bits, w32, BitVec.toNat_ofNat, Nat.shiftRight_eq_div_pow]

theorem b2n_eq_one (b : Bool) : b2n b = 1 ↔ b = true := by cases b <;> simp [b2n]

theorem b2n_le (b : Bool) : b2n b ≤ 1 := by cases b <;> simp [b2n]

/-! ### SIT.NBR -/

theorem phaseNib_lt (c0 c1 : SClass) : phaseNib c0 c1 < 16 := by
  have hd (k : Nat) : [1, 3, 2, 1, 3, 2].getD k 0 ≤ 3 := by
    rcases Nat.lt_or_ge k 6 with hk | hk
    · exact (by decide : ∀ i < 6, [1, 3, 2, 1, 3, 2].getD i 0 ≤ 3) k hk
    · simp [hk]
  unfold phaseNib
  split
  · decide
  · next k _ => exact Nat.lt_of_le_of_lt (Nat.add_le_add (Nat.add_le_add_right (hd k) _) (Nat.mul_le_mul_left 8 (b2n_le _))) (by omega)

/-- Eight nibbles in four bytes read back one by one from the word that the bytes make. -/
theorem bits_of_nibbles (a : Nat → Nat) (ha : ∀ i, a i < 16) (b : Bytes)
    (hb : b = (List.range 4).map fun i => BitVec.ofNat 8 (a (2 * i) + 16 * a (2 * i + 1))) :
    ∀ i < 8, bits (w32 (unle b)) (4 * i + 3) (4 * i) = a i := by
  have h0 := ha 0; have h1 := ha 1; have h2 := ha 2; have h3 := ha 3
  have h4 := ha 4; have h5 := ha 5; have h6 := ha 6; have h7 := ha 7
  subst hb
  intro i hi
  rw [bits_w32]
  simp only [List.range_succ, List.range_zero, List.nil_append, List.cons_append, List.map_cons, List.map_nil, unle, BitVec.toNat_ofNat, Nat.reduceMul, Nat.reduceAdd, Nat.zero_add]
  obtain rfl | rfl | rfl | rfl | rfl | rfl | rfl | rfl : i = 0 ∨ i = 1 ∨ i = 2 ∨ i = 3 ∨ i = 4 ∨ i = 5 ∨ i = 6 ∨ i = 7 := by omega
  all_goals omega

/-- A word of the node's own PMAP holds the nibbles of eight metering points. -/
theorem ownPmap_nibbles (s : State) {j : Nat} (hj : j = 0 ∨ j = 3) : ∀ i < 8, bits (w32 (fld (4 * j) 4 (ownPmap s))) (4 * i + 3) (4 * i) = sitNib s (8 * j + i) := by
  refine bits_of_nibbles (fun i => sitNib s (8 * j + i)) (fun i => phaseNib_lt _ _) _ ?_
  rcases hj with rfl | rfl <;> rfl

/-- The node's own flags: COORD, BACKUP and RANK, and nothing in the low half (14 Table 14.9). -/
theorem ownFlags_fields (s : State) :
    ((w32 (ownFlags s)).getLsbD 31 = true ↔ s.sit.st = 6) ∧ ((w32 (ownFlags s)).getLsbD 30 = true ↔ s.sit.st = 5) ∧
      bits (w32 (ownFlags s)) 23 20 = sitRank s ∧ bits (w32 (ownFlags s)) 15 0 = 0 := by
  have hr : sitRank s < 16 := bits_lt (sitW s 1) 23 20
  have h6 := b2n_eq_one (s.sit.st == 6)
  have h5 := b2n_eq_one (s.sit.st == 5)
  have l6 := b2n_le (s.sit.st == 6)
  have l5 := b2n_le (s.sit.st == 5)
  have lt := b2n_le (trkHeard s)
  have lz := b2n_le (zcValid s)
  rw [beq_iff_eq] at h6 h5
  rw [getLsbD_w32 _ _ (by decide), getLsbD_w32 _ _ (by decide), bits_w32, bits_w32, ← h6, ← h5, ownFlags]
  refine ⟨?_, ?_, ?_, ?_⟩ <;> omega

/-- Words 2 to 7 of SIT.NBR for another node. -/
theorem nbrWords_other (s : State) {n : Nat} (hn : n ≠ sitNode s) :
    (((nbrWords s n).drop 1).mapIdx fun i v => (2 + i, v)) =
      [(2, w32 ((nbr s n).flags / 2 ^ 20 * 2 ^ 20 + min 65535 (bpiNow s - (nbr s n).heardBpi)))] ++
        ((List.range 4).map fun i => (3 + i, w32 (fld (4 * i) 4 (nbr s n).pmap))) ++
        [(7, w32 (65536 * (nbr s n).snrT + (nbr s n).snrP % 65536))] := by
  have hb : (n == sitNode s) = false := beq_false_of_ne hn
  simp only [nbrWords, hb]
  rfl

/-- Words 2 to 7 of SIT.NBR for the node itself. -/
theorem nbrWords_self (s : State) :
    (((nbrWords s (sitNode s)).drop 1).mapIdx fun i v => (2 + i, v)) =
      [(2, w32 (ownFlags s)), (3, w32 (fld 0 4 (ownPmap s))), (4, w32 (fld 4 4 (ownPmap s))), (5, w32 (fld 8 4 (ownPmap s))),
        (6, w32 (fld 12 4 (ownPmap s))), (7, 0)] := by
  simp only [nbrWords, beq_self_eq_true]
  rfl

/-- NBR's words have no reserved bit set. -/
def NbrOk (ws : List Word) : Prop := rw ws 1 &&& 0xFFFFFF00 = 0 ∧ rw ws 2 &&& 0x0F0F0000 = 0

/-- The node holds something of node `n`: it is the node itself or a member (R409). -/
def NbrKnown (s : State) (n : Nat) : Prop := n = sitNode s ∨ (n < 254 ∧ s.sit.members.testBit n = true)

/-- NBR's check of its words. -/
def nbrBad (s : State) (ws : List Word) : Bool := resvs ws [(1, 0xFF), (2, 0xF0F0FFFF)] || !nbrKnown s (bits (rw ws 1) 7 0)

theorem nbrBad_iff (s : State) (ws : List Word) : nbrBad s ws = true ↔ ¬NbrOk ws ∨ ¬NbrKnown s (bits (rw ws 1) 7 0) := by
  rw [← Classical.not_and_iff_not_or_not]
  apply eq_true_iff_not
  simp [nbrBad, NbrOk, NbrKnown, nbrKnown, sitMember, resvs, resv, Decidable.or_iff_not_imp_left]

section
variable {s : State} {c : CoreId} {rs : Reg} {x : Ctx} {ws : List Word}

theorem exec_sitNbr (c : CoreId) (rs : Reg) (s : State) :
    exec (.sitNbr c rs) s = unitI s c rs .sit .more 8 (fun _ s ws => onIf (nbrBad s ws) 6)
      fun _ s ws => (s, ((nbrWords s (bits (rw ws 1) 7 0)).drop 1).mapIdx fun i v => (2 + i, v)) := rfl

theorem sitNbr_range (h : Issues s c rs .sit .more 8 x ws) (hb : ¬NbrOk ws ∨ ¬NbrKnown (issued s x rs) (bits (rw ws 1) 7 0)) :
    exec (.sitNbr c rs) s = declines (issued s x rs) x 6 := by
  rw [exec_sitNbr, unitI_declines h (pick_range _ _ _) (by decide)] <;> simp only [mem_onIf, nbrBad_iff, hb] <;> simp

theorem sitNbr_answers (h : Issues s c rs .sit .more 8 x ws) (hg : NbrOk ws) (hk : NbrKnown (issued s x rs) (bits (rw ws 1) 7 0)) :
    exec (.sitNbr c rs) s = .next (answers (issued s x rs) x (getG (issued s x rs) x rs)
      (((nbrWords (issued s x rs) (bits (rw ws 1) 7 0)).drop 1).mapIdx fun i v => (2 + i, v))) := by
  rw [exec_sitNbr, unitI_answers h]
  simp only [mem_onIf, nbrBad_iff, hg, hk, not_true_eq_false, or_self, false_and, not_false_eq_true, implies_true]

/-! ### SIT.RDST -/

/-- The fields of the status word that the link's state fixes (14 Table 14.13). -/
theorem sitStatus_fields (s : State) (hs : s.sit.st < 16) :
    bits (sitStatus s) 3 0 = s.sit.st ∧ (sitStatus s).getLsbD 4 = s.sit.limit ∧ ((sitStatus s).getLsbD 10 = true ↔ ShadowFull s) ∧
      (sitStatus s).getLsbD 11 = s.sit.swap ∧ (sitStatus s).getLsbD 9 = sitNotch s := by
  have hsw := b2n_eq_one s.sit.swap; have lsw := b2n_le s.sit.swap
  have hsh := b2n_eq_one (s.sit.shadow.all (·.isSome)); have lsh := b2n_le (s.sit.shadow.all (·.isSome))
  have hno := b2n_eq_one (sitNotch s); have lno := b2n_le (sitNotch s)
  have hli := b2n_eq_one s.sit.limit; have lli := b2n_le s.sit.limit
  have ltr := b2n_le (trkHeard s); have lph := b2n_le (phHeard s); have lzc := b2n_le (zcValid s)
  rw [shadow_all] at hsh
  refine ⟨?_, Bool.eq_iff_iff.mpr ?_, ?_, Bool.eq_iff_iff.mpr ?_, Bool.eq_iff_iff.mpr ?_⟩
  · rw [sitStatus, bits_w32]
    omega
  · rw [sitStatus, getLsbD_w32 _ _ (by decide), ← hli]
    omega
  · rw [sitStatus, getLsbD_w32 _ _ (by decide), ← hsh]
    omega
  · rw [sitStatus, getLsbD_w32 _ _ (by decide), ← hsw]
    omega
  · rw [sitStatus, getLsbD_w32 _ _ (by decide), ← hno]
    omega

theorem exec_sitRdst (c : CoreId) (rs : Reg) (s : State) :
    exec (.sitRdst c rs) s = unitI s c rs .sit .read 8 (fun _ _ ws => onIf (resv ws 4 0xFFFF01FF) 6)
      fun _ s _ => (s, (sitWords s).mapIdx fun i v => (1 + i, v)) := rfl

/-- The reserved bits of word 4 of SIT.RDST. -/
theorem resv_rdst (ws : List Word) : resv ws 4 0xFFFF01FF = true ↔ rw ws 4 &&& 0x0000FE00 ≠ 0 := resv_eq_true ws 4 0xFFFF01FF

theorem sitRdst_range (h : Issues s c rs .sit .read 8 x ws) (hb : rw ws 4 &&& 0x0000FE00 ≠ 0) :
    exec (.sitRdst c rs) s = declines (issued s x rs) x 6 := by
  have hr := (resv_rdst ws).mpr hb
  rw [exec_sitRdst, unitI_declines h (pick_range _ _ _) (by decide)] <;> simp only [hr] <;> simp

/-- COORD, BACKUP and EPOCH of the last beacon, as SIT.RDST returns them. -/
def bcnWord (s : State) : Word :=
  let b := s.sit.bcn.getD { coord := 0, backup := 0, flags := 0, bpi := 0, epoch := 0, crank := 0, period := 0, start := 0, members := 0 }
  w32 (b.coord * 2 ^ 24 + b.backup * 2 ^ 16 + b.epoch)

theorem sitRdst_answers (h : Issues s c rs .sit .read 8 x ws) (hg : rw ws 4 &&& 0x0000FE00 = 0) :
    let u := issued s x rs
    exec (.sitRdst c rs) s = .next (answers u x (getG u x rs) [(1, sitStatus u), (2, bcnWord u),
      (3, w32 (match u.sit.bcn with | some b => b.bpi | none => 0)),
      (4, w32 (u.sit.sgen % 65536 * 65536 + ((List.range 254).filter fun n => u.sit.members.testBit n).length)),
      (5, w32 (65536 * u.sit.twinMiss + u.sit.retries)), (6, w32 (65536 * u.sit.fcsFail + u.sit.limitN)), (7, w32 (65536 * u.sit.replay + u.sit.dropQ))]) := by
  intro u
  have hr : resv ws 4 0xFFFF01FF = false := Bool.eq_false_iff.mpr fun hb => (resv_rdst ws).mp hb hg
  rw [exec_sitRdst, unitI_answers h (by simp only [hr]; simp)]
  have hb : (u.sit.bcn.getD { coord := 0, backup := 0, flags := 0, bpi := 0, epoch := 0, crank := 0, period := 0, start := 0, members := 0 }).bpi =
      match u.sit.bcn with | some b => b.bpi | none => 0 := by
    cases u.sit.bcn <;> rfl
  rw [← hb]
  rfl

/-! ### A part without SIT -/

/-- Without SIT each of its operations answers ABSENT (00 R3). -/
theorem sit_absent (ha : absentUnit s .sit = true) (hr : Runs s c x) (hrec : recExc (fetched s x) x (getG (fetched s x) x rs) = none) :
    ∀ i ∈ [Instr.sitCfg c rs, .sitCfgJoin c rs, .sitCfgLeave c rs, .sitSend c rs, .sitRecv c rs, .sitTmap c rs, .sitTswap c rs, .sitNbr c rs, .sitRdst c rs],
      exec i s = declines (issued s x rs) x 3 := by
  intro i hi
  simp only [List.mem_cons, List.not_mem_nil, or_false] at hi
  rcases hi with rfl | rfl | rfl | rfl | rfl | rfl | rfl | rfl | rfl
  case inl | inr.inl | inr.inr.inl =>
    rw [exec_sitCfg (c := c) (rs := rs) (by simp)]
    exact unitI_absent hr hrec ha _
  · rw [exec_sitSend]
    exact unitP_absent hr hrec ha
  · rw [exec_sitRecv]
    exact unitI_absent hr hrec ha _
  · rw [exec_sitTmap]
    exact unitP_absent hr hrec ha
  · rw [exec_sitTswap]
    exact unitP_absent hr hrec ha
  · rw [exec_sitNbr]
    exact unitI_absent hr hrec ha _
  · rw [exec_sitRdst]
    exact unitI_absent hr hrec ha _

end

/-- Settles O50: each operation's refusals and effect, by the lemmas of that operation. -/
theorem siteOperationsJoinSendReceiveAndReport : Obligations.SiteOperationsJoinSendReceiveAndReport := by
  unfold Obligations.SiteOperationsJoinSendReceiveAndReport
  intro s c rs x ws u a w me open1 told posted
  refine ⟨fun ha hr hrec => sit_absent ((absentUnit_issued s x rs .sit).symm.trans ha) hr hrec, ?_, ?_, ?_, ?_, ?_, sitRdst_range, ?_⟩
  case refine_1 =>
    intro h i hi b leave join rank good r v usable
    exact ⟨sitCfg_denied hi h, sitCfg_range hi h, sitCfg_order hi h, sitCfg_completes hi h⟩
  case refine_2 =>
    intro h k n d pay good no
    refine ⟨sitSend_denied h, sitSend_range h, sitSend_full h, ?_, sitTmap_denied h, sitTmap_range h, sitTmap_busy h, sitTmap_accepts h⟩
    intro hx hg hr
    obtain ⟨t, ht, hs, hn, hp⟩ := sitSend_completes h hx hg hr
    exact ⟨t, ht, congrArg Sit.q hs, hn, hp, congrArg Sit.reqs hs⟩
  case refine_3 =>
    intro h full
    exact ⟨sitTswap_denied h, sitTswap_range h, sitTswap_order h, sitTswap_accepts h⟩
  case refine_4 =>
    intro h k form q
    exact ⟨sitRecv_denied h, sitRecv_range h, sitRecv_empty h, fun m rest hx hg hq => sitRecv_takes h hx hg hq⟩
  case refine_5 =>
    intro h n y known form
    refine ⟨sitNbr_range h, fun hf hk hn => ?_, fun hf hn => ?_⟩
    · rw [← nbrWords_other u hn]
      exact sitNbr_answers h hf hk
    · obtain ⟨h31, h30, hrank, hlow⟩ := ownFlags_fields u
      have he := sitNbr_answers h hf (.inl hn)
      rw [show bits (rw ws 1) 7 0 = sitNode u from hn, nbrWords_self] at he
      exact ⟨_, _, _, _, _, he, h31, h30, hrank, hlow, fun i hi => ⟨by simpa using ownPmap_nibbles u (.inl rfl) i hi, ownPmap_nibbles u (.inr rfl) i hi⟩⟩
  case refine_6 =>
    intro h hg
    refine ⟨_, _, sitRdst_answers h hg, sitStatus_fields u, fun b hb => ?_⟩
    rw [bcnWord, hb]
    rfl

end Sys2Proof.Proofs
end

section
/-! PROOF. What one REF cycle counts: REF, MOD at every sixth REF edge, MODTICK the MOD edges (03 R71; 16 R435). -/

namespace Sys2Proof.Proofs

open Sys2Proof.Machine

/-- The part once the RTC and, while the part is alive, SYS and the cores have run over `n` REF cycles; MOD and REF have not counted yet. -/
def cored (n : Nat) (s : State) : State :=
  if alive s then coreElapse n { s with bk := rtcElapse n s.bk } else { s with bk := rtcElapse n s.bk }

section
variable (n : Nat) (s : State)

/-- The RTC, SYS and the cores leave the queue, MRAM, the fuses and the other clocks alone. -/
theorem cored_frame : (cored n s).pending = s.pending ∧ (cored n s).mram = s.mram ∧ (cored n s).fuse = s.fuse ∧
    ∃ k m, (cored n s).clk = { s.clk with sys := k, sysRef := m } := by
  unfold cored
  split
  · exact ⟨rfl, rfl, rfl, _, _, rfl⟩
  · exact ⟨rfl, rfl, rfl, _, _, rfl⟩

/-- MOD counts nothing but its phase and MODTICK. -/
theorem modElapse_frame : (modElapse n s).pending = s.pending ∧ (modElapse n s).mram = s.mram ∧ (modElapse n s).fuse = s.fuse ∧
    (modElapse n s).clk.ref = s.clk.ref := by
  unfold modElapse
  split <;> exact ⟨rfl, rfl, rfl, rfl⟩

variable {s}

theorem modElapse_runs (hr : s.clk.modRun = true) (hf : s.clk.freeze = none) :
    (modElapse n s).clk.modPhase = (s.clk.modPhase + n) % 6 ∧
      (modElapse n s).clk.modtick = (s.clk.modtick + (s.clk.modPhase + n) / 6) % 2 ^ 56 := by
  simp [modElapse, frozen, hr, hf]

theorem modElapse_stands (h : s.clk.modRun = false ∨ s.clk.freeze.isSome) : modElapse n s = s := by
  rcases h with hr | hf
  · simp [modElapse, hr]
  · simp [modElapse, frozen, hf]

theorem elapse_powered (hp : s.clk.powered = true) :
    elapse n s = { modElapse n (cored n s) with
      clk := { (modElapse n (cored n s)).clk with ref := (modElapse n (cored n s)).clk.ref + n } } := by
  have ha : alive { s with bk := rtcElapse n s.bk } = alive s := rfl
  simp [elapse, cored, hp, ha]

/-- What `n` REF cycles leave of a powered part, and REF. -/
theorem elapse_frame (hp : s.clk.powered = true) : (elapse n s).pending = s.pending ∧ (elapse n s).mram = s.mram ∧
    (elapse n s).fuse = s.fuse ∧ (elapse n s).clk.ref = s.clk.ref + n := by
  obtain ⟨cp, cm, cf, k, m, cc⟩ := cored_frame n s
  obtain ⟨mp, mm, mf, mr⟩ := modElapse_frame n (cored n s)
  have cr : (cored n s).clk.ref = s.clk.ref := by rw [cc]
  rw [elapse_powered n hp]
  exact ⟨mp.trans cp, mm.trans cm, mf.trans cf, congrArg (· + n) (mr.trans cr)⟩

/-- While MOD runs and no freeze holds, MODTICK counts the whole periods of six REF cycles, and the phase what remains (R71). -/
theorem elapse_mod_runs (hp : s.clk.powered = true) (hr : s.clk.modRun = true) (hf : s.clk.freeze = none) :
    (elapse n s).clk.modPhase = (s.clk.modPhase + n) % 6 ∧
      (elapse n s).clk.modtick = (s.clk.modtick + (s.clk.modPhase + n) / 6) % 2 ^ 56 := by
  obtain ⟨-, -, -, k, m, cc⟩ := cored_frame n s
  have h := modElapse_runs (s := cored n s) n (by rw [cc]; exact hr) (by rw [cc]; exact hf)
  rw [elapse_powered n hp]
  simpa only [cc] using h

theorem elapse_mod_stands (hp : s.clk.powered = true) (h : s.clk.modRun = false ∨ s.clk.freeze.isSome) :
    (elapse n s).clk.modPhase = s.clk.modPhase ∧ (elapse n s).clk.modtick = s.clk.modtick := by
  obtain ⟨-, -, -, k, m, cc⟩ := cored_frame n s
  rw [elapse_powered n hp, modElapse_stands n (by rw [cc]; exact h), cc]
  exact ⟨rfl, rfl⟩

end

/-- On an empty queue the step is one REF cycle (log 6). -/
theorem step_of_empty {s : State} (h : s.pending = []) : step s = .next (elapse 1 s) := by
  unfold step
  rw [h]
  rfl

/-- Settles O2, by what a REF cycle counts: the phase wraps, and brings a MOD edge, exactly at its sixth cycle. -/
theorem emptyQueueLetsOneRefCyclePass : Obligations.EmptyQueueLetsOneRefCyclePass := by
  unfold Obligations.EmptyQueueLetsOneRefCyclePass
  intro s hq hp
  obtain ⟨tp, tm, tf, tr⟩ := elapse_frame 1 hp
  refine ⟨_, step_of_empty hq, tp.trans hq, tr, tm, tf, ?_, elapse_mod_stands 1 hp⟩
  rintro ⟨hr, hf⟩ hlt
  obtain ⟨hph, htick⟩ := elapse_mod_runs 1 hp hr hf
  rw [hph, htick]
  by_cases h5 : s.clk.modPhase = 5
  · simp [h5]
  · have hq0 : (s.clk.modPhase + 1) / 6 = 0 := by omega
    have hm : (s.clk.modPhase + 1) % 6 = s.clk.modPhase + 1 := by omega
    simp [h5, hq0, hm]

end Sys2Proof.Proofs
end

section
/-! PROOF. An operation's record and its results: where they lie, and what writing them leaves (05 R153, R156). -/

namespace Sys2Proof.Proofs

open Sys2Proof.Machine Sys2Proof.Laws

@[simp] theorem wrote_chs (t : State) (x : Ctx) (rd : Reg) (v : Word) : (wrote t x rd v).chs = t.chs := by simp [wrote]

theorem answers_nil (t : State) (x : Ctx) (a : Word) : answers t x a [] = wrote t x 1 0 := rfl

/-- A register to which a context has written 0 reads 0 there. -/
theorem getG_wrote_zero (t : State) (x : Ctx) (r : Reg) : getG (wrote t x r 0) x r = 0 := by
  by_cases h0 : r = 0
  · simp [getG, h0]
  · rcases Nat.lt_or_ge r.val (bankOf t x).g.length with hlt | hge
    · simp [getG, wrote, h0, hlt]
    · simp [getG, wrote, h0, hge]

/-- A store outside the MRAM window changes no channel. -/
theorem dataWrite_chs {a : Word} (h : inWindow a = false) (s : State) (x : Ctx) (b : Bytes) : (dataWrite s x a b).chs = s.chs := by
  simp [dataWrite, h]

theorem putWords_chs (s : State) (x : Ctx) (a : Word) (res : List (Nat × Word)) (h : ∀ r ∈ res, inWindow (a + w32 (4 * r.1)) = false) :
    (putWords s x a res).chs = s.chs := by
  induction res generalizing s with
  | nil => rfl
  | cons r rest ih =>
    rw [List.forall_mem_cons] at h
    exact (ih _ h.2).trans (dataWrite_chs h.1 ..)

theorem answers_chs (t : State) (x : Ctx) (a : Word) (res : List (Nat × Word)) (h : ∀ r ∈ res, inWindow (a + w32 (4 * r.1)) = false) :
    (answers t x a res).chs = t.chs := (wrote_chs ..).trans (putWords_chs t x a res h)

/-- The low byte of a little-endian number is its first byte. -/
theorem unle_mod_256 (b : Bytes) : unle b % 256 = (b.getD 0 0).toNat := by
  cases b with
  | nil => rfl
  | cons y t =>
    have hy : y.toNat < 256 := y.isLt
    simp only [unle, List.getD_cons_zero]
    omega

section
variable {s : State} {c : CoreId} {rs : Reg} {x : Ctx} {ws : List Word}

/-- A record that can be loaded lies outside the MRAM window, as far as its header says (05 R153). -/
theorem recExc_none_bytes {a : Word} (h : recExc s x a = none) : ∀ i < 4 * fld 0 1 (dataRead s x a 4), byteAt a i < 0x80000000 := by
  intro i hi
  refine Nat.lt_of_not_le fun (hw : 0x80000000 ≤ byteAt a i) => ?_
  have hi : i < 4 * max 1 (fld 0 1 (dataRead s x a 4)) := by omega
  have hld : ((List.range (4 * max 1 (fld 0 1 (dataRead s x a 4)))).any fun i =>
      decide (0x80000000 ≤ byteAt a i) || grant s x (byteAt a i) false != .ok) = true :=
    List.any_eq_true.mpr ⟨i, List.mem_range.mpr hi, by simp [hw]⟩
  unfold recExc at h
  simp only [hld] at h
  split at h
  · cases h
  · split at h
    · cases h
    · simp at h

/-- Every word of an operation's record lies outside the MRAM window. -/
theorem issues_word_window {un : UnitId} {need : Need} {len : Nat} (h : Issues s c rs un need len x ws) {i : Nat} (hi : i < len) :
    inWindow (getG (issued s x rs) x rs + w32 (4 * i)) = false := by
  rw [getG_issued]
  have hb := recExc_none_bytes h.record
  have hw := h.words
  obtain ⟨hlen, -⟩ := h.header
  generalize getG (fetched s x) x rs = a at hb hw ⊢
  have hz : a + w32 0 = a := BitVec.add_zero a
  have h0 : rw ws 0 = w32 (unle (dataRead (fetched s x) x a 4)) := by
    have hr (k : Nat) : (List.range (max 1 k))[0]? = some 0 := List.getElem?_range (Nat.lt_of_lt_of_le Nat.one_pos (Nat.le_max_left 1 k))
    rw [← hw, rw, recWords, List.getD_eq_getElem?_getD, List.getElem?_map, hr, Option.map_some, Option.getD_some, Nat.mul_zero, hz]
  have hl : fld 0 1 (dataRead (fetched s x) x a 4) = len := by
    rw [fld_zero_one, ← unle_mod_256, ← hlen, h0, bits_w32]
    omega
  have hbi := hb (4 * i) (by omega)
  rw [inWindow, decide_eq_false_iff_not, w32]
  rw [byteAt] at hbi
  rw [BitVec.toNat_add, BitVec.toNat_ofNat]
  omega

/-- The results of an operation change no channel. -/
theorem answers_channels {un : UnitId} {need : Need} {len : Nat} (h : Issues s c rs un need len x ws) (t : State) (res : List (Nat × Word))
    (hres : ∀ r ∈ res, r.1 < len) : (answers t x (getG (issued s x rs) x rs) res).chs = t.chs :=
  answers_chs t x _ res fun r hr => issues_word_window h (hres r hr)

end

end Sys2Proof.Proofs
end

section
/-! PROOF. A channel's chains: what starting and ending one changes, and what it leaves (03 R81 to R84, R87, R88, R91). -/

namespace Sys2Proof.Proofs

open Sys2Proof.Machine

/-! ### Channels -/

theorem LedgerOnly.chs {s t : State} (h : LedgerOnly s t) : t.chs = s.chs := by obtain ⟨l, f, e, rfl⟩ := h; rfl

theorem chan_congr {s t : State} (h : t.chs = s.chs) (m : Nat) : chan t m = chan s m := by rw [chan, h, chan]

theorem chan_modCh_of_ne {m n : Nat} (h : m ≠ n) (t : State) (f : Ch → Ch) : chan (modCh t n f) m = chan t m := by
  simp [chan, modCh, List.getD_eq_getElem?_getD, List.getElem?_modify_ne f t.chs h.symm]

theorem modCh_id (s : State) (n : Nat) : modCh s n id = s := by simp [modCh]

theorem modCh_length (s : State) (n : Nat) (f : Ch → Ch) : (modCh s n f).chs.length = s.chs.length := List.length_modify f s.chs n

/-- `t` differs from `s` in channel `n` and in the relief of the clusters, and in nothing else. -/
def ChannelOnly (n : Nat) (s t : State) : Prop := ∃ (f : Ch → Ch) (cs : List Cluster), t = { modCh s n f with clus := cs }

namespace ChannelOnly
variable {n : Nat} {s t u : State}

theorem of_modCh (n : Nat) (s : State) (f : Ch → Ch) : ChannelOnly n s (modCh s n f) := ⟨f, s.clus, rfl⟩

theorem of_clus (n : Nat) (cs : List Cluster) (h : t = { s with clus := cs }) : ChannelOnly n s t := ⟨id, cs, by simp [h, modCh]⟩

theorem refl (n : Nat) (s : State) : ChannelOnly n s s := of_clus n s.clus rfl

theorem trans (h : ChannelOnly n s t) (g : ChannelOnly n t u) : ChannelOnly n s u := by
  obtain ⟨f, cs, rfl⟩ := h
  obtain ⟨k, ds, rfl⟩ := g
  exact ⟨k ∘ f, ds, by simp [modCh, List.modify_modify_eq]⟩

theorem ldg (h : ChannelOnly n s t) : t.ldg = s.ldg := by obtain ⟨f, cs, rfl⟩ := h; rfl
theorem clk (h : ChannelOnly n s t) : t.clk = s.clk := by obtain ⟨f, cs, rfl⟩ := h; rfl

theorem chs_length (h : ChannelOnly n s t) : t.chs.length = s.chs.length := by
  obtain ⟨f, cs, rfl⟩ := h
  exact modCh_length s n f

theorem others (h : ChannelOnly n s t) {m : Nat} (hm : m ≠ n) : chan t m = chan s m := by
  obtain ⟨f, cs, rfl⟩ := h
  exact chan_modCh_of_ne hm s f

end ChannelOnly

/-! ### The relief of the channel's cluster -/

/-- A stopped chain touches only the relief of the clusters (02 Table 2.10). -/
theorem reliefStopped_clus (s : State) (n : Nat) : ∃ cs, reliefStopped s n = { s with clus := cs } := by
  unfold reliefStopped
  dsimp only
  split
  · exact ⟨_, rfl⟩
  · split
    · exact ⟨_, rfl⟩
    · split <;> exact ⟨_, rfl⟩

theorem reliefStarted_clus (s : State) (n : Nat) : ∃ cs, reliefStarted s n = { s with clus := cs } := by
  unfold reliefStarted
  dsimp only
  split
  · split <;> exact ⟨_, rfl⟩
  · exact ⟨_, rfl⟩

/-! ### The end of a chain or path -/

theorem pathOf_setPath (c : Ch) (b : Bool) (p : Chain) (st : Stream) : pathOf (setPath c b p st) b = p := by cases b <;> rfl

theorem pathOf_setPath_other (c : Ch) (b : Bool) (p : Chain) (st : Stream) : pathOf (setPath c b p st) (!b) = pathOf c (!b) := by
  cases b <;> rfl

theorem openStream_channelOnly (s : State) (n : Nat) (b : Bool) : ChannelOnly n s (openStream s n b) := .of_modCh n s _

theorem closeBlock_channelOnly (s : State) (n : Nat) (b : Bool) : ChannelOnly n s (closeBlock s n b) := .of_modCh n s _

section
variable {s : State} {n : Nat} (hn : n < s.chs.length) (b : Bool)
include hn

/-- The first block opens the stream of its own path alone. -/
theorem openStream_other : pathOf (chan (openStream s n b) n) (!b) = pathOf (chan s n) (!b) := by
  rw [openStream, chan_modCh hn]
  dsimp only
  split
  · rfl
  · exact pathOf_setPath_other ..

/-- Writing a block leaves the paths as they are. -/
theorem closeBlock_pathOf (d : Bool) : pathOf (chan (closeBlock s n b) n) d = pathOf (chan s n) d := by
  rw [closeBlock, chan_modCh hn]
  cases b <;> cases d <;> rfl

end

/-- The stream of a path with what its end still writes: the epoch item when none was, and the block being filled (R87). -/
def flushed (s : State) (n : Nat) (b : Bool) : State :=
  if (streamOf (chan (openStream s n b) n) b).blk.length = 0 then openStream s n b else closeBlock (openStream s n b) n b

theorem flushed_channelOnly (s : State) (n : Nat) (b : Bool) : ChannelOnly n s (flushed s n b) := by
  unfold flushed
  split
  · exact openStream_channelOnly s n b
  · exact (openStream_channelOnly s n b).trans (closeBlock_channelOnly _ n b)

theorem flushed_other {s : State} {n : Nat} (hn : n < s.chs.length) (b : Bool) :
    pathOf (chan (flushed s n b) n) (!b) = pathOf (chan s n) (!b) := by
  have ho : n < (openStream s n b).chs.length := by rwa [(openStream_channelOnly s n b).chs_length]
  unfold flushed
  split
  · exact openStream_other hn b
  · rw [closeBlock_pathOf ho, openStream_other hn]

/-- Ending a path changes its channel: of its paths the one that ends becomes idle. -/
theorem endPath_eq (s : State) (n : Nat) (b : Bool) (cause again : Nat) (h : (pathOf (chan s n) b).st ≠ 0) :
    ∃ (t : State) (f : Ch → Ch), endPath s n b cause again = modCh t n f ∧ (t = s ∨ t = flushed s n b) ∧
      ∀ c, pathOf (f c) b = idlePath (pathOf (chan s n) b) again ∧ pathOf (f c) (!b) = pathOf c (!b) := by
  unfold endPath
  rw [if_neg h]
  split
  · exact ⟨_, _, rfl, .inl rfl, fun c => ⟨pathOf_setPath .., pathOf_setPath_other ..⟩⟩
  · exact ⟨_, _, rfl, .inr rfl, fun c => by cases b <;> exact ⟨rfl, rfl⟩⟩

theorem endPath_idle {s : State} {n : Nat} {b : Bool} (cause again : Nat) (h : (pathOf (chan s n) b).st = 0) :
    endPath s n b cause again = s := by
  unfold endPath
  rw [if_pos h]

theorem endPath_channelOnly (s : State) (n : Nat) (b : Bool) (cause again : Nat) : ChannelOnly n s (endPath s n b cause again) := by
  by_cases h : (pathOf (chan s n) b).st = 0
  · rw [endPath_idle cause again h]
    exact .refl n s
  · obtain ⟨t, f, he, ht, -⟩ := endPath_eq s n b cause again h
    rw [he]
    rcases ht with rfl | rfl
    · exact .of_modCh n _ f
    · exact (flushed_channelOnly s n b).trans (.of_modCh n _ f)

section
variable {s : State} {n : Nat} (hn : n < s.chs.length) (b : Bool) (cause again : Nat)
include hn

/-- A path that runs becomes idle, and the channel's other path stays as it is (R81). -/
theorem endPath_paths (h : (pathOf (chan s n) b).st ≠ 0) :
    pathOf (chan (endPath s n b cause again) n) b = idlePath (pathOf (chan s n) b) again ∧
      pathOf (chan (endPath s n b cause again) n) (!b) = pathOf (chan s n) (!b) := by
  obtain ⟨t, f, he, ht, hf⟩ := endPath_eq s n b cause again h
  obtain ⟨hb, ho⟩ := hf (chan t n)
  rcases ht with rfl | rfl
  · rw [he, chan_modCh hn]
    exact ⟨hb, ho⟩
  · rw [he, chan_modCh (by rwa [(flushed_channelOnly s n b).chs_length])]
    exact ⟨hb, ho.trans (flushed_other hn b)⟩

theorem endPath_st : (pathOf (chan (endPath s n b cause again) n) b).st = 0 := by
  by_cases h : (pathOf (chan s n) b).st = 0
  · rwa [endPath_idle cause again h]
  · rw [(endPath_paths hn b cause again h).1]
    rfl

theorem endPath_other : pathOf (chan (endPath s n b cause again) n) (!b) = pathOf (chan s n) (!b) := by
  by_cases h : (pathOf (chan s n) b).st = 0
  · rw [endPath_idle cause again h]
  · exact (endPath_paths hn b cause again h).2

end

theorem endChain_channelOnly (s : State) (n cause again : Nat) : ChannelOnly n s (endChain s n cause again) :=
  (endPath_channelOnly s n true cause _).trans (endPath_channelOnly _ n false cause _)

/-- The end of a chain that runs leaves it and its SURGE path without state (R81). -/
theorem endChain_ends {s : State} {n : Nat} (hn : n < s.chs.length) (cause again : Nat) (h : (chan s n).chain.st ≠ 0) :
    (chan (endChain s n cause again) n).chain.st = 0 ∧ (chan (endChain s n cause again) n).chain.bits = [] ∧
      (chan (endChain s n cause again) n).su.st = 0 := by
  unfold endChain
  generalize (if (chan s n).chain.ending.isSome then 0 else again) = k
  have ha : n < (endPath s n true cause k).chs.length := by rwa [(endPath_channelOnly s n true cause k).chs_length]
  have hc : (chan (endPath s n true cause k) n).chain = (chan s n).chain := endPath_other hn true cause k
  obtain ⟨hidle, hsu⟩ := endPath_paths ha false cause k (by change (chan _ n).chain.st ≠ 0; rwa [hc])
  have hsu : (chan (endPath (endPath s n true cause k) n false cause k) n).su = (chan (endPath s n true cause k) n).su := hsu
  have hidle : (chan (endPath (endPath s n true cause k) n false cause k) n).chain = idlePath (chan (endPath s n true cause k) n).chain k := hidle
  rw [hidle, hsu]
  exact ⟨rfl, rfl, endPath_st hn true cause k⟩

theorem loseChain_channelOnly (s : State) (n cause again : Nat) : ChannelOnly n s (loseChain s n cause again) := by
  unfold loseChain
  split
  · exact .refl n s
  · obtain ⟨cs, hr⟩ := reliefStopped_clus (endChain s n cause again) n
    exact (endChain_channelOnly s n cause again).trans (.of_clus n cs hr)

theorem loseChain_ends {s : State} {n : Nat} (hn : n < s.chs.length) (cause again : Nat) (h : (chan s n).chain.st ≠ 0) :
    (chan (loseChain s n cause again) n).chain.st = 0 ∧ (chan (loseChain s n cause again) n).chain.bits = [] ∧
      (chan (loseChain s n cause again) n).su.st = 0 := by
  obtain ⟨cs, hr⟩ := reliefStopped_clus (endChain s n cause again) n
  rw [loseChain, if_neg h, hr]
  exact endChain_ends hn cause again h

/-! ### The start of a chain -/

/-- The SURGE path's start leaves the chain and its stream alone (R91). -/
theorem startSurge_eq (s : State) (n cause t1 : Nat) :
    ∃ f, startSurge s n cause t1 = modCh s n f ∧ ∀ c, (f c).chain = c.chain ∧ (f c).str = c.str := by
  unfold startSurge
  dsimp only
  split
  · exact ⟨id, (modCh_id s n).symm, fun c => ⟨rfl, rfl⟩⟩
  · split <;> exact ⟨_, rfl, fun c => ⟨rfl, rfl⟩⟩

theorem startAll_channelOnly (s : State) (n cause : Nat) : ChannelOnly n s (startAll s n cause) := by
  obtain ⟨f, hf, -⟩ := startSurge_eq (startChain s n cause (nextEdge s) 0) n cause (nextEdge s)
  rw [startAll, hf]
  exact (ChannelOnly.of_modCh n s _).trans (.of_modCh n _ f)

theorem regainChain_channelOnly (s : State) (n cause : Nat) : ChannelOnly n s (regainChain s n cause) := by
  obtain ⟨cs, hr⟩ := reliefStarted_clus (startAll s n cause) n
  exact (startAll_channelOnly s n cause).trans (.of_clus n cs hr)

/-- A chain that starts now: its origin is the next MOD edge, its preset the configured one, its stream begins at block 0 in a ring of that preset (R82, R88). -/
theorem regainChain_starts {s : State} {n : Nat} (hn : n < s.chs.length) (cause : Nat) :
    let y := chan (regainChain s n cause) n
    y.chain.st = 1 ∧ y.chain.t1 = s.clk.modtick + 1 ∧ y.chain.preset = chPreset (chan s n) ∧
      y.str.words = ringWords (chPreset (chan s n)) ∧ y.str.nextB = 0 := by
  obtain ⟨f, hf, hkeep⟩ := startSurge_eq (startChain s n cause (nextEdge s) 0) n cause (nextEdge s)
  obtain ⟨cs, hr⟩ := reliefStarted_clus (startAll s n cause) n
  have hs : n < (startChain s n cause (nextEdge s) 0).chs.length := by rwa [startChain, modCh_length]
  have hy : chan (regainChain s n cause) n = f (chan (startChain s n cause (nextEdge s) 0) n) := by
    rw [regainChain, hr, startAll, hf]
    exact chan_modCh hs f
  obtain ⟨hc, ht⟩ := hkeep (chan (startChain s n cause (nextEdge s) 0) n)
  intro y
  rw [show y = _ from hy, hc, ht, startChain, chan_modCh hn]
  exact ⟨rfl, rfl, rfl, rfl, rfl⟩

end Sys2Proof.Proofs
end

section
/-! PROOF. CHN.LDCOEF, CHN.STOP and CHN.START: what each refuses, and what it leaves (03 R79 to R82, R88; 05 R163). -/

namespace Sys2Proof.Proofs

open Sys2Proof.Machine Sys2Proof.Laws

section
variable {s : State} {c : CoreId} {rs : Reg} {x : Ctx} {ws : List Word}

/-! ### A chain that is stopped -/

/-- The chain is stopped and waits for no relock (R82). -/
def Idle (y : Ch) : Prop := y.chain.st = 0 ∧ y.chain.again ≠ 1

theorem chainStopped_iff (y : Ch) : chainStopped y = true ↔ Idle y := by simp [chainStopped, Idle]

/-- CHANNEL names one of the part's channels. -/
theorem chOf_lt_chs (hlen : s.chs.length = 128) : chOf ws < (issued s x rs).chs.length := by
  rw [issued_chs, hlen]
  exact bits_lt (rw ws 1) 6 0

/-! ### CHN.LDCOEF -/

/-- LDCOEF's words name a ROM set and have no reserved bit set (R80). -/
def RomSource (ws : List Word) : Prop :=
  rw ws 1 &&& 0xFFFFF080 = 0 ∧ 1 ≤ bits (rw ws 1) 11 8 ∧ bits (rw ws 1) 11 8 ≤ 3 ∧ rw ws 2 = 0

/-- LDCOEF's check of SRC and of the address, which a ROM set does not have. -/
def sourceBad (ws : List Word) : Bool := decide (3 < bits (rw ws 1) 11 8) || (bits (rw ws 1) 11 8 != 0 && rw ws 2 != 0)

/-- LDCOEF's check of an image in memory. -/
def imageBad (s : State) (x : Ctx) (ws : List Word) : Bool :=
  bits (rw ws 1) 11 8 == 0 && (!legalImage (rw ws 2) || !bankOk (srcBank s x ws))

/-- LDCOEF's check of MODE and of the chain. -/
def loadTooLate (s : State) (ws : List Word) : Bool := s.clk.mode != 4 || !chainStopped (chan s (chOf ws))

theorem loadTooLate_iff (s : State) (ws : List Word) : loadTooLate s ws = true ↔ ¬(s.clk.mode = 4 ∧ Idle (chan s (chOf ws))) := by
  apply eq_true_iff_not
  simp [loadTooLate, chainStopped_iff]

/-- LDCOEF's checks (R80). -/
def ldcoefChk (x : Ctx) (s : State) (ws : List Word) : List Nat :=
  chRange ws 0xF7F ++ onIf (sourceBad ws) 6 ++ onIf (imageBad s x ws) 6 ++ onIf (loadTooLate s ws) 7

theorem exec_chnLdcoef (c : CoreId) (rs : Reg) (s : State) :
    exec (.chnLdcoef c rs) s = unitI s c rs .chn .more 3 ldcoefChk
      fun x s ws => (event (putBank s (chOf ws) (srcBank s x ws)) .chn 0x1B [w32 (chOf ws), (srcBank s x ws).getD 95 0], []) := rfl

/-- With a ROM set nothing but MODE and the chain can refuse the load. -/
theorem mem_ldcoefChk (hg : RomSource ws) (s : State) (x : Ctx) (n : Nat) :
    n ∈ ldcoefChk x s ws ↔ ¬(s.clk.mode = 4 ∧ Idle (chan s (chOf ws))) ∧ n = 7 := by
  obtain ⟨hr, h1, h3, h2⟩ := hg
  have hres : resv ws 1 0xF7F = false := by simpa [resv] using hr
  have hsrc : sourceBad ws = false := by simp [sourceBad, h2, h3]
  have himg : imageBad s x ws = false := by simp [imageBad, Nat.one_le_iff_ne_zero.mp h1]
  simp only [ldcoefChk, List.mem_append, chRange, mem_onIf, hres, hsrc, himg, Bool.false_eq_true, false_and, false_or, loadTooLate_iff]

theorem srcBank_rom (h : 1 ≤ bits (rw ws 1) 11 8) (s : State) (x : Ctx) : srcBank s x ws = romBank (bits (rw ws 1) 11 8 - 1) := by
  unfold srcBank
  split
  · next h0 => omega
  · rfl

/-- A bank's place in MRAM (log 15). -/
theorem putBank_eq (s : State) (n : Nat) (b : List Word) :
    putBank s n b = { s with
      chs := s.chs.modify n fun y => { y with bank := b }
      mram := Mem.writeN s.mram (0x10014 + 512 * n) (wordsBytes (b.take 96)) } := by
  have ha : cfgAddr n + 20 = 0x10014 + 512 * n := by
    unfold cfgAddr
    omega
  rw [putBank, ha]
  rfl

theorem chnLdcoef_order (h : Issues s c rs .chn .more 3 x ws) (hg : RomSource ws)
    (hl : ¬(s.clk.mode = 4 ∧ Idle (chan (issued s x rs) (chOf ws)))) : exec (.chnLdcoef c rs) s = declines (issued s x rs) x 7 := by
  rw [exec_chnLdcoef, unitI_declines h (pick_order _ _ _ _) (by decide)] <;> simp [mem_ldcoefChk hg, hl]

theorem chnLdcoef_answers (h : Issues s c rs .chn .more 3 x ws) (hg : RomSource ws) (hm : s.clk.mode = 4)
    (hi : Idle (chan (issued s x rs) (chOf ws))) :
    let b := romBank (bits (rw ws 1) 11 8 - 1)
    exec (.chnLdcoef c rs) s = .next (wrote (event (putBank (issued s x rs) (chOf ws) b) .chn 0x1B [w32 (chOf ws), b.getD 95 0]) x 1 0) := by
  intro b
  have ⟨_, h1, _⟩ := hg
  rw [exec_chnLdcoef, unitI_answers h, srcBank_rom h1, answers_nil]
  simp [mem_ldcoefChk hg, hm, hi]

/-- Loading a ROM set makes it the channel's bank, and no other channel's (R80). -/
theorem chnLdcoef_completes (h : Issues s c rs .chn .more 3 x ws) (hlen : s.chs.length = 128) (hg : RomSource ws) (hm : s.clk.mode = 4)
    (hi : Idle (chan (issued s x rs) (chOf ws))) :
    let u := issued s x rs
    let n := chOf ws
    let b := romBank (bits (rw ws 1) 11 8 - 1)
    Completes (exec (.chnLdcoef c rs) s) fun t =>
      (chan t n).bank = b ∧ (∀ m, m ≠ n → chan t m = chan u m) ∧
        t = wrote (event
          { u with
            chs := u.chs.modify n fun y => { y with bank := b }
            mram := Mem.writeN u.mram (0x10014 + 512 * n) (wordsBytes (b.take 96)) } .chn 0x1B [w32 n, b.getD 95 0]) x 1 0 := by
  intro u n b
  have hn : n < u.chs.length := chOf_lt_chs hlen
  have hc (m : Nat) : chan (wrote (event (putBank u n b) .chn 0x1B [w32 n, b.getD 95 0]) x 1 0) m =
      chan (modCh u n fun y => { y with bank := b }) m :=
    chan_congr ((wrote_chs ..).trans (event_ledgerOnly ..).chs) m
  refine ⟨_, chnLdcoef_answers h hg hm hi, ?_, fun m hmn => ?_, ?_⟩
  · rw [hc, chan_modCh hn]
  · rw [hc, chan_modCh_of_ne hmn]
  · rw [← putBank_eq]

/-! ### CHN.STOP -/

/-- What STOP does to the chain of channel `n` (R81). -/
def stopAnswer (s : State) (n : Nat) : Answer :=
  if (chan s n).chain.st = 0 then
    (if (chan s n).chain.again = 1 then chainStopEvent (modCh s n fun y => { y with chain := { y.chain with again := 0 } }) n
      else modCh s n fun y => { y with chain := { y.chain with again := 0 } }, [])
  else if (chan s n).chain.ending.isSome then (s, []) else (stopChain s n, [])

theorem exec_chnStop (c : CoreId) (rs : Reg) (s : State) :
    exec (.chnStop c rs) s = unitI s c rs .chn .more 2 (fun _ s ws => chRange ws 0x7F ++ onIf (s.clk.mode != 4) 7)
      fun _ s ws => stopAnswer s (chOf ws) := rfl

/-- Between blocks a running chain ends at once, with its record (R81). -/
theorem stopAnswer_between_blocks {s : State} {n : Nat} (hr : (chan s n).chain.st ≠ 0) (he : (chan s n).chain.ending = none)
    (hb : (chan s n).str.blk = []) : stopAnswer s n = (chainStopEvent (loseChain s n 0 0) n, []) := by
  simp [stopAnswer, stopChain, hr, he, hb]

theorem chnStop_order (h : Issues s c rs .chn .more 2 x ws) (ho : OnlyChannel ws) (hm : s.clk.mode ≠ 4) :
    exec (.chnStop c rs) s = declines (issued s x rs) x 7 := by
  rw [exec_chnStop, unitI_declines h (pick_order _ _ _ _) (by decide)] <;> simp [ho, hm]

theorem chnStop_answers (h : Issues s c rs .chn .more 2 x ws) (ho : OnlyChannel ws) (hm : s.clk.mode = 4) :
    exec (.chnStop c rs) s = .next (answers (stopAnswer (issued s x rs) (chOf ws)).1 x (getG (issued s x rs) x rs)
      (stopAnswer (issued s x rs) (chOf ws)).2) := by
  rw [exec_chnStop, unitI_answers h (by simp [ho, hm])]

/-- A chain stopped between blocks holds no state, nor does its SURGE path (R81). -/
theorem chnStop_completes (h : Issues s c rs .chn .more 2 x ws) (hlen : s.chs.length = 128) (ho : OnlyChannel ws) (hm : s.clk.mode = 4)
    (hr : (chan (issued s x rs) (chOf ws)).chain.st ≠ 0) (he : (chan (issued s x rs) (chOf ws)).chain.ending = none)
    (hb : (chan (issued s x rs) (chOf ws)).str.blk = []) :
    let u := issued s x rs
    let n := chOf ws
    Completes (exec (.chnStop c rs) s) fun t =>
      (chan t n).chain.st = 0 ∧ (chan t n).chain.bits = [] ∧ (chan t n).su.st = 0 ∧ (∀ m, m ≠ n → chan t m = chan u m) ∧
        ((bankOf s x).g.length = 32 → getG t x 1 = 0) := by
  intro u n
  have hn : n < u.chs.length := chOf_lt_chs hlen
  have hl : LedgerOnly (loseChain u n 0 0) (chainStopEvent (loseChain u n 0 0) n) := event_ledgerOnly ..
  have hc (m : Nat) : chan (wrote (chainStopEvent (loseChain u n 0 0) n) x 1 0) m = chan (loseChain u n 0 0) m :=
    chan_congr ((wrote_chs ..).trans hl.chs) m
  have ha : stopAnswer u n = (chainStopEvent (loseChain u n 0 0) n, []) := stopAnswer_between_blocks hr he hb
  have hx : exec (.chnStop c rs) s = .next (answers (stopAnswer u n).1 x (getG u x rs) (stopAnswer u n).2) := chnStop_answers h ho hm
  rw [ha, answers_nil] at hx
  obtain ⟨hst, hbits, hsu⟩ := loseChain_ends hn 0 0 hr
  refine ⟨_, hx, ?_⟩
  simp only [hc]
  exact ⟨hst, hbits, hsu, fun m hmn => (loseChain_channelOnly u n 0 0).others hmn, fun _ => getG_wrote_zero _ x 1⟩

/-! ### CHN.START -/

/-- START's words have no reserved bit set (05 R163). -/
def StartForm (ws : List Word) : Prop := OnlyChannel ws ∧ rw ws 3 &&& 0xFF000000 = 0 ∧ rw ws 4 &&& 0xFFFFF800 = 0

/-- R82 lets the chain start: it is stopped, its channel is enabled, its bank is one of its preset and has the right scale. -/
def StartReady (y : Ch) : Prop := Idle y ∧ chEnabled y = true ∧ bits (y.bank.getD 0 0) 9 8 = chPreset y ∧ scaleOk y = true

/-- START's check of the channel. -/
def startBad (y : Ch) : Bool := !chainStopped y || !chEnabled y || bits (y.bank.getD 0 0) 9 8 != chPreset y || !scaleOk y

theorem startBad_iff (y : Ch) : startBad y = true ↔ ¬StartReady y := by
  apply eq_true_iff_not
  simp [startBad, StartReady, chainStopped_iff, and_assoc]

/-- START's results: T1 and PHASE, for a chain of preset `p` (R82). -/
def startResults (t1 p : Nat) : List (Nat × Word) := [(2, w32 t1), (3, w32 (t1 / 2 ^ 32 % 2 ^ 24)), (4, w32 (t1 % dOf p))]

theorem startResults_words (t1 p : Nat) : ∀ r ∈ startResults t1 p, r.1 < 5 := by simp [startResults]

/-- START's effect and results for channel `n` (R82). -/
def startAnswer (s : State) (n : Nat) : Answer :=
  if chPreset (chan s n) = 0 && s.clk.fallback.isSome then (startWaiting s n 1, [(2, 0), (3, 0), (4, 0)])
  else
    let a := chainStartEvent (regainChain s n 1) n
    (a, startResults (chan a n).chain.t1 (chan a n).chain.preset)

/-- START's checks (R82, R88). -/
def startChk (s : State) (ws : List Word) : List Nat :=
  chRange ws 0x7F ++ onIf (resvs ws [(3, 0xFFFFFF), (4, 0x7FF)]) 6 ++ onIf (startBad (chan s (chOf ws))) 7 ++ onIf (!ringFits s (chOf ws)) 8

theorem exec_chnStart (c : CoreId) (rs : Reg) (s : State) :
    exec (.chnStart c rs) s = unitI s c rs .chn .more 5 (fun _ => startChk) fun _ s ws => startAnswer s (chOf ws) := rfl

theorem mem_startChk (hg : StartForm ws) (s : State) (n : Nat) :
    n ∈ startChk s ws ↔ (¬StartReady (chan s (chOf ws)) ∧ n = 7) ∨ (262144 < ringSum s + ringNeed (chan s (chOf ws)) ∧ n = 8) := by
  obtain ⟨ho, h3, h4⟩ := hg
  have h3 : resv ws 3 0xFFFFFF = false := by simpa [resv] using h3
  have h4 : resv ws 4 0x7FF = false := by simpa [resv] using h4
  have hres : resvs ws [(3, 0xFFFFFF), (4, 0x7FF)] = false := by
    simp only [resvs, List.any_cons, List.any_nil, h3, h4, Bool.or_self]
  have hch : n ∉ chRange ws 0x7F := by simp [ho]
  simp only [startChk, hres, hch, List.mem_append, mem_onIf, startBad_iff, ringFits, Bool.false_eq_true, false_and, false_or, Bool.not_eq_true',
    decide_eq_false_iff_not, Nat.not_le]

section
variable (h : Issues s c rs .chn .more 5 x ws) (hg : StartForm ws)
include h hg

theorem chnStart_order (hb : ¬StartReady (chan (issued s x rs) (chOf ws))) : exec (.chnStart c rs) s = declines (issued s x rs) x 7 := by
  rw [exec_chnStart, unitI_declines h (pick_order _ _ _ _) (by decide)] <;> simp [mem_startChk hg, hb]

theorem chnStart_full (hr : StartReady (chan (issued s x rs) (chOf ws)))
    (hf : 262144 < ringSum (issued s x rs) + ringNeed (chan (issued s x rs) (chOf ws))) :
    exec (.chnStart c rs) s = declines (issued s x rs) x 8 := by
  rw [exec_chnStart, unitI_declines h (pick_full _ _) (by decide)] <;> simp [mem_startChk hg, hr, hf]

variable (hr : StartReady (chan (issued s x rs) (chOf ws))) (hf : ringSum (issued s x rs) + ringNeed (chan (issued s x rs) (chOf ws)) ≤ 262144)
include hr hf

theorem chnStart_answers : exec (.chnStart c rs) s = .next (answers (startAnswer (issued s x rs) (chOf ws)).1 x (getG (issued s x rs) x rs)
    (startAnswer (issued s x rs) (chOf ws)).2) := by
  rw [exec_chnStart, unitI_answers h]
  simp [mem_startChk hg, hr, hf]

variable (hlen : s.chs.length = 128)
include hlen

/-- With the PLL unlocked a SPRING chain reserves its ring and waits, and START returns zeros (R82, R88). -/
theorem chnStart_waits (hp : chPreset (chan (issued s x rs) (chOf ws)) = 0) (hl : s.clk.fallback.isSome) :
    let u := issued s x rs
    let n := chOf ws
    Completes (exec (.chnStart c rs) s) fun t =>
      (chan t n).chain.st = 1 ∧ (chan t n).chain.wait = true ∧ (chan t n).str.words = 4096 ∧
        t = answers { u with chs := t.chs } x (getG u x rs) [(2, 0), (3, 0), (4, 0)] := by
  intro u n
  have hn : n < u.chs.length := chOf_lt_chs hlen
  have ha : startAnswer u n = (startWaiting u n 1, [(2, 0), (3, 0), (4, 0)]) := by
    rw [startAnswer, issued_clk, hp, hl]
    rfl
  have hx : exec (.chnStart c rs) s = .next (answers (startAnswer u n).1 x (getG u x rs) (startAnswer u n).2) := chnStart_answers h hg hr hf
  rw [ha] at hx
  have hchs : (answers (startWaiting u n 1) x (getG u x rs) [(2, 0), (3, 0), (4, 0)]).chs = (startWaiting u n 1).chs :=
    answers_channels h _ _ (by decide)
  have hy := (chan_congr hchs n).trans (chan_modCh hn _)
  refine ⟨_, hx, ?_⟩
  dsimp only
  rw [hy, hchs]
  exact ⟨rfl, rfl, congrArg ringWords hp, rfl⟩

/-- Otherwise the chain starts at the next MOD edge, in a ring of its preset, and its start is recorded (R82, R88). -/
theorem chnStart_starts (hp : ¬(chPreset (chan (issued s x rs) (chOf ws)) = 0 ∧ s.clk.fallback.isSome)) :
    let u := issued s x rs
    let n := chOf ws
    let p := chPreset (chan u n)
    let t1 := s.clk.modtick + 1
    Completes (exec (.chnStart c rs) s) fun t =>
      (chan t n).chain.st = 1 ∧ (chan t n).chain.t1 = t1 ∧ (chan t n).chain.preset = p ∧ (chan t n).str.words = ringWords p ∧
        (chan t n).str.nextB = 0 ∧ (∀ m, m ≠ n → chan t m = chan u m) ∧
        ∃ v, Records u v .chn 0x1A ([w32 n] ++ two t1 ++ [w32 (t1 % dOf p)]) ∧
          t = answers v x (getG u x rs) (startResults t1 p) := by
  intro u n p t1
  have hn : n < u.chs.length := chOf_lt_chs hlen
  obtain ⟨hst, ht1, hpre, hwords, hnext⟩ := regainChain_starts hn 1
  have ht1 : (chan (regainChain u n 1) n).chain.t1 = t1 := by rw [ht1, issued_clk]
  have hcs : ChannelOnly n u (regainChain u n 1) := regainChain_channelOnly u n 1
  have hev : (chainStartEvent (regainChain u n 1) n).chs = (regainChain u n 1).chs := (event_ledgerOnly ..).chs
  have ha : startAnswer u n = (chainStartEvent (regainChain u n 1) n, startResults t1 p) := by
    have hp' : (decide (chPreset (chan u n) = 0) && u.clk.fallback.isSome) = false := by
      rw [issued_clk, ← Bool.not_eq_true, Bool.and_eq_true, decide_eq_true_eq]
      exact hp
    simp only [startAnswer, hp', Bool.false_eq_true, if_false, chan_congr hev, ht1, hpre]
    rfl
  have hx : exec (.chnStart c rs) s = .next (answers (startAnswer u n).1 x (getG u x rs) (startAnswer u n).2) := chnStart_answers h hg hr hf
  rw [ha] at hx
  have hc (m : Nat) : chan (answers (chainStartEvent (regainChain u n 1) n) x (getG u x rs) (startResults t1 p)) m = chan (regainChain u n 1) m :=
    (chan_congr (answers_channels h _ _ (startResults_words t1 p)) m).trans (chan_congr hev m)
  refine ⟨_, hx, ?_⟩
  simp only [hc]
  refine ⟨hst, ht1, hpre, hwords, hnext, fun m hmn => hcs.others hmn, _, ⟨regainChain u n 1, hcs.ldg, hcs.clk, ?_⟩, rfl⟩
  rw [chainStartEvent, ht1, hpre]

end

end

/-- Settles O29: each operation's refusals and effect, by the lemmas of that operation. -/
theorem chainsLoadStopAndStart : Obligations.ChainsLoadStopAndStart := by
  unfold Obligations.ChainsLoadStopAndStart
  intro s c rs x ws hlen u a n ch src idle need ready
  refine ⟨fun h hw h1 h3 h2 => ⟨fun hl => ?_, fun hm hi => ?_⟩, fun h ho => ⟨chnStop_order h ho, ?_⟩, fun h ho h3 h4 => ?_⟩
  · exact chnLdcoef_order h ⟨hw, h1, h3, h2⟩ fun ⟨hm, hi⟩ => hl.elim (· hm) (· hi.1)
  · exact chnLdcoef_completes h hlen ⟨hw, h1, h3, h2⟩ hm hi
  · exact fun hm => chnStop_completes h hlen ho hm
  · have hg : StartForm ws := ⟨ho, h3, h4⟩
    exact ⟨chnStart_order h hg, chnStart_full h hg, fun hr hf =>
      ⟨chnStart_waits h hg hr hf hlen, chnStart_starts h hg hr hf hlen⟩⟩

end Sys2Proof.Proofs
end
